-- ==== Sys2Proof/Word.lean ====
section
/-! DEFINITION. The units of the link and of time: bytes, link addresses, and the saturating sums of booth seconds. -/

namespace Sys2Proof

/-- One byte of a frame. -/
abbrev Byte := BitVec 8

/-- A link address (00 "Link addresses"). -/
abbrev Addr := BitVec 16

/-- A station fingerprint, a feature identifier, an integrity tag or a mode key: 16 bytes compared whole. -/
abbrev Bytes16 := BitVec 128

/-- A parcel identifier: 8 bytes compared whole. -/
abbrev ParcelId := BitVec 64

/-- A track identifier: 4 bytes compared whole, non-zero in an accepted request. -/
abbrev TrackId := BitVec 32

/-- A sealed key, a wrap key or a store-form key.
DESIGN CHOICE (log 9): the spec gives no width for the store form; unsafe only for claims about that width. -/
abbrev Key := BitVec 256

/-- A wrapped key: 40 bytes (06 R94). -/
abbrev WrappedKey := BitVec 320

/-- The largest booth second, uptime second or link counter: 4,294,967,295 (03 Table 3.1, 09 R158). -/
def maxCount : Nat := 4294967295

/-- The saturating sum of 04 R52. -/
def satAdd (a b : Nat) : Nat := min (a + b) maxCount

end Sys2Proof
end

