-- ==== Sys2Proof/Config.lean ====
section
/-! DEFINITION. What the spec leaves open: uninterpreted constants without a body, so that no claim can rest on a value of them. -/

namespace Sys2Proof.Config

/-- The integrity tag computed over a parcel's fields (01 R10, Table 1.1; a record is its track, kind byte and sealed
key). FREE VALUE (log 9): 00 "Scope of This Manual" gives no algorithm. -/
opaque integrityTag (siteSecret : Key) (id : ParcelId) (feature : Bytes16) (winStart winEnd : Nat)
  (screens : List Bytes16) (records : List (TrackId × Byte × Key)) : Bytes16

/-- The store form of a sealed key under the site secret (01 R10: "unseals each key record's sealed key and converts
it to the store form"); none where the key fails to unseal. FREE VALUE (log 9). -/
opaque storeForm (siteSecret sealedKey : Key) : Option Key

/-- A store-form key wrapped under a screen's wrap key (05 R76). FREE VALUE (log 9). -/
opaque wrapped (wrapKey storeKey : Key) : WrappedKey

/-- Which of several colliding slots a CONFLICT ADDRESS answer names (08 R135 says "the slot of the entry it collides
with"). FREE VALUE (log 11): used as an index into the colliding slots, only when there are two or more. -/
opaque conflictPick (collisions : List Nat) : Nat

end Sys2Proof.Config
end

