-- ==== Sys2Proof/Syntax.lean ====
section
/-! DEFINITION. The commands of the part: one constructor for each row of spec/opcode_table.json, and the request kinds
of Table 12.2. -/

namespace Sys2Proof

/-- The request kinds of Table 12.2 (12 R177). -/
inductive Kind
  | status | parcelLoad | parcelWithdraw | parcelList
  | openKeys | close | extend | grantList
  | timeTrim | timeSet
  | stationEnrol | stationRetire | stationSuspend | stationResume | stationRank | stationList
  | modeKey | modeChange | settingWrite | settingRead | zeroize
  | noticeRead | noticeConfig | selfTest | restart
  deriving DecidableEq, Repr

/-- A command. A request row carries the source address, the tag and the body of the frame the Request Decoder takes
(log 4); a completing KAT carries the outcome the spec does not compute (log 8), while a completing VERIFY carries an
operand of one value, which says nothing: its outcome follows from the parcel and the site secret (01 R10); a
measurement window carries the deviation it measures, in ppm rounded up (log 12); whether a crystal second was completed in
it is in the state (03 R40). -/
inductive Instr
  -- Link Port: receive side
  | frameHeader (dst src : Addr)
  | frameEnd (rest : List Byte)
  | holdRepeatTimer
  | frameTake
  -- Requests
  | unknownKind (src : Addr) (tag kind : Byte) (body : List Byte)
  | status (src : Addr) (tag : Byte) (body : List Byte)
  | parcelLoad (src : Addr) (tag : Byte) (body : List Byte)
  | parcelWithdraw (src : Addr) (tag : Byte) (body : List Byte)
  | parcelList (src : Addr) (tag : Byte) (body : List Byte)
  | openKeys (src : Addr) (tag : Byte) (body : List Byte)
  | close (src : Addr) (tag : Byte) (body : List Byte)
  | extend (src : Addr) (tag : Byte) (body : List Byte)
  | grantList (src : Addr) (tag : Byte) (body : List Byte)
  | timeTrim (src : Addr) (tag : Byte) (body : List Byte)
  | timeSet (src : Addr) (tag : Byte) (body : List Byte)
  | stationEnrol (src : Addr) (tag : Byte) (body : List Byte)
  | stationRetire (src : Addr) (tag : Byte) (body : List Byte)
  | stationSuspend (src : Addr) (tag : Byte) (body : List Byte)
  | stationResume (src : Addr) (tag : Byte) (body : List Byte)
  | stationRank (src : Addr) (tag : Byte) (body : List Byte)
  | stationList (src : Addr) (tag : Byte) (body : List Byte)
  | modeKey (src : Addr) (tag : Byte) (body : List Byte)
  | modeChange (src : Addr) (tag : Byte) (body : List Byte)
  | settingWrite (src : Addr) (tag : Byte) (body : List Byte)
  | settingRead (src : Addr) (tag : Byte) (body : List Byte)
  | zeroize (src : Addr) (tag : Byte) (body : List Byte)
  | noticeRead (src : Addr) (tag : Byte) (body : List Byte)
  | noticeConfig (src : Addr) (tag : Byte) (body : List Byte)
  | selfTest (src : Addr) (tag : Byte) (body : List Byte)
  | restart (src : Addr) (tag : Byte) (body : List Byte)
  -- Clocks
  | crystalSecond
  | trimYearWrap
  | mainClockSecond (deviation : Nat)
  | driftRunLimit
  | openWaitTimeout
  | periodicTestDue
  -- Engine
  | engineArbiterChoice
  | katComplete (pass : Bool)
  | verifyComplete (done : Unit)
  | rewrapComplete
  | verifyPosting
  | rewrapPosting
  | selfTestPosting
  | openAnswerDue
  | stagingAnswerDue
  -- Link Port: transmit side
  | sendHold
  | sendExpire
  | sendAnswer
  | sendNotice
  | linkDown
  | linkUp
  -- Power and start-up
  | powerOn
  | powerLoss
  | resetLineAssert
  | resetLineRelease
  | startUpBegin
  | fuseLoad
  | retainedCheck (damaged : Bool)
  | clockCheck (deviation : Nat)
  | rebuild
  | startUpEnd
  | transmitFrameEnd
  | retainedLoss
  deriving DecidableEq, Repr

end Sys2Proof
end

