-- ==== Sys2Proof/Machine/State.lean ====
section
/-! DEFINITION. The state of the part, block by block as spec/00_scope.md "Functional Blocks" names them, and the state at
the end of the first start-up of a new part. -/

namespace Sys2Proof.Machine

/-! ## Answers and frames -/

/-- The answer codes of Table 12.3. -/
inductive Code
  | ok | clamped | granted | accepted | expired
  | sealing | role | suspended | mode | malformed | unknownKind | engineFault | noTime | screenLimit | unknownGrant
  | withdrawn | tooEarly | rateLimit | queueFull | timeout
  | noParcel | lapsed | notYet | pastWindow | noTrack | windowClosed | ended | duplicate | ingestBusy | rejected
  | storeFull | unknownParcel
  | tableFull | roleLimit | misaligned | conflict | unknownStation | ownEntry | lastProgramming | unknownSetting
  | readOnly | keyMismatch | locked | grantsOpen | timeRunning | busy | failed
  deriving DecidableEq, Repr

/-- One place of the answer queue (09 R153): where the answer goes, the tag it echoes, the kind it answers, its code
and the detail bytes after the two-byte prefix of 12 R178. -/
structure Answer where
  dst    : Addr
  tag    : Byte
  kind   : Byte
  code   : Code
  detail : List Byte
  deriving DecidableEq, Repr

/-- A stored frame, as the port hands it to the Request Decoder (09 R148). -/
structure Frame where
  src  : Addr
  kind : Byte
  tag  : Byte
  body : List Byte
  deriving DecidableEq, Repr

/-- The address header of the frame now arriving (09 R149). -/
structure Header where
  dst : Addr
  src : Addr
  deriving DecidableEq, Repr

/-- A frame the transmitter has taken and is sending (09 R154); its bytes are `TxFrame.wire`. -/
structure TxFrame where
  dst  : Addr
  src  : Addr
  kind : Byte
  tag  : Byte
  body : List Byte
  deriving DecidableEq, Repr

/-- Hold state (09 Table 9.2). -/
inductive HoldState
  | idle | holding
  deriving DecidableEq, Repr

/-- The Link Port (09). `holdTimer` holds the length in milliseconds with which the repeat timer was last started,
none while it is stopped (log 23). -/
structure LinkPort where
  up          : Bool
  arriving    : Option Header
  stored      : List Frame
  hold        : HoldState
  holdTimer   : Option Nat
  pendingHold : Option Nat
  answers     : List Answer
  sending     : Option TxFrame
  good        : Nat
  stranger    : Nat
  overrun     : Nat
  bad         : Nat
  deriving DecidableEq, Repr

/-! ## Station Table -/

/-- Station roles (00 "Station Roles"). -/
inductive Role
  | screen | programming | monitor
  deriving DecidableEq, Repr

/-- State of an entry in use (08 Table 8.1). -/
inductive StationState
  | enrolled | suspended
  deriving DecidableEq, Repr

/-- An entry in use (08 Table 8.1), with its runtime record (04 R63). An absent auditorium is 0 (12 R179); the refill
mark is none while idle. -/
structure Station where
  state       : StationState
  role        : Role
  base        : Addr
  size        : Nat
  fingerprint : Bytes16
  auditorium  : Nat
  rank        : Nat
  wrapKey     : Option Key
  tokens      : Nat
  mark        : Option Nat
  deriving DecidableEq, Repr

/-- SERVICE or SHOW (08 R141). -/
inductive Mode
  | service | showing
  deriving DecidableEq, Repr

/-- The eleven writable settings (08 Table 8.4). -/
structure Settings where
  prep         : Nat
  late         : Nat
  overrun      : Nat
  tail         : Nat
  openBurst    : Nat
  openRefill   : Nat
  holdHigh     : Nat
  holdLow      : Nat
  holdTime     : Nat
  testInterval : Nat
  purgeDelay   : Nat
  deriving DecidableEq, Repr

/-- The Station Table block (08): 32 entries, mode, mode-key holder, mismatch count, settings. -/
structure StationTable where
  entries   : List (Option Station)
  mode      : Mode
  keyHolder : Option Bytes16
  mismatch  : Nat
  settings  : Settings
  deriving DecidableEq, Repr

/-! ## Booth Clock and Deadline List -/

/-- RUNNING or LOST (03 R38). -/
inductive TimeState
  | running | lost
  deriving DecidableEq, Repr

/-- The Booth Clock (03 Table 3.1); `ticked`: a crystal second was completed in the measurement window that is open
(03 R40, log 12). -/
structure BoothClock where
  boothTime  : Nat
  uptime     : Nat
  timeState  : TimeState
  driftRun   : Nat
  trimBudget : Nat
  trimYear   : Nat
  floor      : Nat
  ticked     : Bool
  deriving DecidableEq, Repr

/-- Deadline kinds (07 Table 7.1). -/
inductive DeadlineKind
  | windowStart | windowEnd | purge | spanEnd
  deriving DecidableEq, Repr

/-- An entry of the Deadline List (07 R111): `ref` is a parcel index, or a grant slot for SPAN_END. -/
structure Deadline where
  due  : Nat
  kind : DeadlineKind
  ref  : Nat
  deriving DecidableEq, Repr

/-! ## Parcel Store -/

/-- Track kinds (01 R1). -/
inductive TrackKind
  | picture | sound | subtitle | aux
  deriving DecidableEq, Repr

/-- A key record of a parcel (01 Table 1.1). -/
structure KeyRecord where
  track  : TrackId
  kind   : TrackKind
  sealedKey : Key
  deriving DecidableEq, Repr

/-- A parcel as carried (01 Table 1.1); S and E in booth minutes. -/
structure Parcel where
  id       : ParcelId
  feature  : Bytes16
  winStart : Nat
  winEnd   : Nat
  screens  : List Bytes16
  records  : List KeyRecord
  tag      : Bytes16
  deriving DecidableEq, Repr

/-- Phase of a staging place (01 Table 1.5). The withdraw mark is meaningful in VERIFYING only, the refusal code is
present in ANSWER_DUE only (01 Table 1.4). -/
inductive StagingPhase
  | waiting
  | verifying (withdrawMark : Bool)
  | answerDue (code : Code)
  deriving DecidableEq, Repr

/-- A staging place in use (01 Table 1.4). -/
structure StagingPlace where
  parcel   : Parcel
  answerTo : Addr
  tag      : Byte
  phase    : StagingPhase
  deriving DecidableEq, Repr

/-- State of a parcel entry in use (02 Table 2.2). -/
inductive ParcelState
  | latent | live | lapsed | withdrawn
  deriving DecidableEq, Repr

/-- A key reference (02 "The Parcel Table and Key Store"). -/
structure KeyRef where
  track : TrackId
  kind  : TrackKind
  slot  : Nat
  deriving DecidableEq, Repr

/-- A parcel table entry in use (02 Table 2.1). -/
structure ParcelEntry where
  state       : ParcelState
  id          : ParcelId
  feature     : Bytes16
  winStart    : Nat
  winEnd      : Nat
  screens     : List Bytes16
  refs        : List KeyRef
  recordCount : Nat
  ingestSeq   : Nat
  grantCount  : Nat
  purgeDue    : Bool
  deriving DecidableEq, Repr

/-- The Parcel Store (01, 02): 64 entries, 512 key slots, the staging queue (head first), the ingest sequence counter. -/
structure ParcelStore where
  table     : List (Option ParcelEntry)
  keys      : List (Option Key)
  staging   : List StagingPlace
  ingestSeq : Nat
  deriving DecidableEq, Repr

/-! ## Open Queue, Engine Arbiter, Key Transform Engine -/

/-- Where and with which tag a deferred answer goes. -/
structure Requester where
  addr : Addr
  tag  : Byte
  deriving DecidableEq, Repr

/-- A WAITING place of the Open Queue (05 Table 5.3). -/
structure OpenReq where
  station : Nat
  who     : Requester
  feature : Bytes16
  tracks  : List TrackId
  planned : Nat
  runtime : Nat
  arrival : Nat
  deriving DecidableEq, Repr

/-- An ANSWER_DUE place of the Open Queue: "only the answer address, the tag and the refusal code" (05 R70). -/
structure DueAnswer where
  who  : Requester
  code : Code
  deriving DecidableEq, Repr

/-- The Open Queue (05 R70): WAITING places in arrival order, ANSWER_DUE places in the order they became so (log 20). -/
structure OpenQueue where
  waiting : List OpenReq
  due     : List DueAnswer
  deriving DecidableEq, Repr

/-- The Engine Arbiter (05 R77-R79, R85). -/
structure Arbiter where
  passOver : Nat
  testDue  : Bool
  lastKat  : Nat
  selfTest : Option Requester
  deriving DecidableEq, Repr

/-- What a KAT was started for (05 Table 5.4). -/
inductive KatCause
  | startUp
  | periodic
  | selfTest (who : Requester)
  deriving DecidableEq, Repr

/-- A job in flight (05 Table 5.4). A REWRAP carries the grant record it is for, its own copy of the keys (02 R23) and
the wrap key read when it started (05 R76). -/
inductive Job
  | kat (cause : KatCause)
  | verify
  | rewrap (slot generation : Nat) (wrapKey : Key) (keys : List (TrackId × Key))
  deriving DecidableEq, Repr

/-- A completed result held for posting (05 R81, R86). A REWRAP's result stands beside the engine's copy of the
store-form keys, which is destroyed when the result is posted or discarded (02 R23, 05 R82). -/
inductive Held
  | verifyPass (keys : List Key)
  | verifyFail
  | rewrapped (slot generation : Nat) (copy : List (TrackId × Key)) (keys : List (TrackId × WrappedKey))
  | selfTestOk (who : Requester)
  | selfTestFailed (who : Requester)
  deriving DecidableEq, Repr

/-- The Key Transform Engine (05 R74); READY, BUSY and FAULT are computed from these (`engineState`). -/
structure Engine where
  faulted : Bool
  job     : Option Job
  held    : Option Held
  deriving DecidableEq, Repr

/-! ## Grant Table -/

/-- Expiry reasons (06 Table 6.1). -/
inductive Reason
  | span | withdrawn | suspended | clock
  deriving DecidableEq, Repr

/-- State of a grant record (06 Table 6.2): the answer address and tag are present while OPENING, the reason while
EXPIRING. -/
inductive GrantState
  | opening (who : Requester)
  | opened
  | expiring (reason : Reason)
  deriving DecidableEq, Repr

/-- A grant record (06 Table 6.1). Its generation is the one its slot holds (06 R89). -/
structure Grant where
  state   : GrantState
  station : Nat
  parcel  : Nat
  tracks  : List TrackId
  q       : Nat
  r       : Nat
  x       : Nat
  used    : Nat
  deriving DecidableEq, Repr

/-- The Grant Table (06): 48 slots, their generations, the expire list (oldest first). -/
structure GrantTable where
  slots      : List (Option Grant)
  gens       : List Nat
  expireList : List Nat
  deriving DecidableEq, Repr

/-! ## Attention Unit -/

/-- A notice source (10 R160). -/
structure Source where
  status  : Bool
  history : Bool
  pending : Bool
  enable  : Bool
  mask    : Bool
  level   : Nat
  deriving DecidableEq, Repr

/-- The Attention Unit (10): 24 sources in number order and the threshold. -/
structure Attention where
  sources   : List Source
  threshold : Nat
  deriving DecidableEq, Repr

/-! ## Fuse Store -/

/-- What a read of a fuse word finds (11 R169). -/
inductive FuseCondition
  | sound | corrected | uncorrectable
  deriving DecidableEq, Repr

/-- A fuse word: the value it was written with, and what reading it finds. -/
structure FuseWord (α : Type) where
  value     : α
  condition : FuseCondition
  deriving DecidableEq, Repr

/-- The fuse words of 11 Table 11.1. The trim budget holds 360 and the attention defaults hold Table 10.1 on every part
(03 R42, 10 R168), so only their condition is data. `defaults` holds the eleven settings in the order of Table 12.7. -/
structure FuseWords where
  siteSecret    : FuseWord Key
  modeKey       : FuseWord Bytes16
  ownAddr       : FuseWord Addr
  bootAddr      : FuseWord Addr
  factoryFloor  : FuseWord (BitVec 32)
  trimBudget    : FuseCondition
  defaults      : List (FuseWord (BitVec 32))
  attnDefaults  : FuseCondition
  serial        : FuseWord (BitVec 64)
  deriving DecidableEq, Repr

/-- The values held from the latest FUSE_LOAD until the next (11 R169): none where the word is not used. -/
structure FuseHeld where
  siteSecret    : Option Key
  modeKey       : Option Bytes16
  ownAddr       : Option Addr
  bootAddr      : Option Addr
  factoryFloor  : Nat
  defaults      : Settings
  serial        : BitVec 64
  corrected     : Nat
  uncorrectable : BitVec 16
  deriving DecidableEq, Repr

/-- The Fuse Store (11). -/
structure FuseStore where
  words : FuseWords
  held  : FuseHeld
  deriving DecidableEq, Repr

/-! ## Start-up control -/

/-- Service state (11 R172, R173). -/
inductive Service
  | starting | operating | sealedOff
  deriving DecidableEq, Repr

/-- Start causes (11 R174). -/
inductive StartCause
  | powerOn | backupLost | resetLine | restart
  deriving DecidableEq, Repr

/-- The start-up step that runs next (11 Table 11.2): none outside a start-up; halted without main power or with
RST_N low; begin when a start-up is about to run from its first phase. -/
inductive StartPhase
  | none | halted | begin | fuseLoad | retainedCheck | engineTest | clockCheck | rebuild | finish
  deriving DecidableEq, Repr

/-- Power, reset line, start-up control, and the Retained Store's check (11 R170-R174). -/
structure Control where
  power      : Bool
  resetLow   : Bool
  service    : Service
  phase      : StartPhase
  beganBy    : StartCause
  cause      : StartCause
  sealing    : Bool
  storeValid : Bool
  deriving DecidableEq, Repr

/-! ## The whole part -/

/-- The state of the part, and the queue of commands that wait (log 3). -/
structure State where
  pending   : List Instr
  link      : LinkPort
  stations  : StationTable
  clock     : BoothClock
  deadlines : List Deadline
  store     : ParcelStore
  openQueue : OpenQueue
  arbiter   : Arbiter
  engine    : Engine
  grants    : GrantTable
  attention : Attention
  fuses     : FuseStore
  control   : Control
  deriving DecidableEq, Repr

/-- No command of the part stops it: every error the spec describes is an answer, a counter, a notice source or a state
(the engine's FAULT, the clock's LOST, SEALED), and is modelled as one. So this inductive has no constructor. -/
inductive Fault
  deriving DecidableEq, Repr

/-- Raised by nobody: every row of the opcode table has its meaning. -/
inductive Refusal
  /-- A row without a meaning, by its mnemonic; no arm of `exec` answers with it. Safe: the run stops. -/
  | notModelled (mnemonic : String)
  deriving DecidableEq, Repr

/-! ## After the first start-up of a new part -/

/-- The hard defaults of Table 8.4. -/
def hardDefaults : Settings where
  prep := 900
  late := 120
  overrun := 900
  tail := 7200
  openBurst := 6
  openRefill := 600
  holdHigh := 9
  holdLow := 4
  holdTime := 50
  testInterval := 3600
  purgeDelay := 1440

/-- The default levels of Table 10.1, in number order. -/
def defaultLevels : List Nat := [7, 7, 6, 6, 5, 2, 2, 3, 3, 1, 1, 4, 4, 1, 1, 3, 4, 3, 3, 3, 2, 4, 1, 1]

/-- The attention defaults (10 R168): every source enabled, none masked, the levels of Table 10.1, threshold 2. -/
def freshAttention : Attention where
  sources := defaultLevels.map fun l =>
    { status := false, history := false, pending := false, enable := true, mask := false, level := l }
  threshold := 2

/-- A fuse word that reads sound. -/
def FuseWord.soundWord {α : Type} (v : α) : FuseWord α := { value := v, condition := .sound }

/-- The fuses of the part at reset. DESIGN CHOICE (log 1): the spec gives the words' use, not a part's values; the two
addresses are those of the worked example 08 section 8.8. Unsafe for a claim about these values only. -/
def resetFuses : FuseWords where
  siteSecret := .soundWord 0
  modeKey := .soundWord 0
  ownAddr := .soundWord 0x0002
  bootAddr := .soundWord 0x0010
  factoryFloor := .soundWord 0
  trimBudget := .sound
  defaults := [900, 120, 900, 7200, 6, 600, 9, 4, 50, 3600, 1440].map .soundWord
  attnDefaults := .sound
  serial := .soundWord 0

/-- The part at the end of the first start-up of a new part (11 R171 "A new part at its first power-up takes this
path"; log 2): the retained store was found lost, the start-up KAT passed, the first window was within tolerance. -/
def State.reset : State where
  pending := []
  link :=
    { up := true, arriving := none, stored := [], hold := .idle, holdTimer := none, pendingHold := none,
      answers := [], sending := none, good := 0, stranger := 0, overrun := 0, bad := 0 }
  stations :=
    { entries := List.replicate 32 none, mode := .service, keyHolder := none, mismatch := 0, settings := hardDefaults }
  clock :=
    { boothTime := 0, uptime := 0, timeState := .lost, driftRun := 0, trimBudget := 360, trimYear := 0, floor := 0,
      ticked := false }
  deadlines := []
  store := { table := List.replicate 64 none, keys := List.replicate 512 none, staging := [], ingestSeq := 0 }
  openQueue := { waiting := [], due := [] }
  arbiter := { passOver := 0, testDue := false, lastKat := 0, selfTest := none }
  engine := { faulted := false, job := none, held := none }
  grants := { slots := List.replicate 48 none, gens := List.replicate 48 0, expireList := [] }
  attention :=
    { freshAttention with
      sources := (freshAttention.sources.set 0
        { status := true, history := false, pending := true, enable := true, mask := false, level := 7 }).set 2
        { status := true, history := false, pending := true, enable := true, mask := false, level := 6 } }
  fuses :=
    { words := resetFuses,
      held :=
        { siteSecret := some 0, modeKey := some 0, ownAddr := some 0x0002, bootAddr := some 0x0010,
          factoryFloor := 0, defaults := hardDefaults, serial := 0, corrected := 0, uncorrectable := 0 } }
  control :=
    { power := true, resetLow := false, service := .operating, phase := .none,
      beganBy := .backupLost, cause := .backupLost, sealing := false, storeValid := true }

end Sys2Proof.Machine
end

