-- ==== Sys2Proof/Machine/Flags.lean ====
section
/-! DEFINITION. The Attention Unit's flags (10): raising and clearing notice sources, ATTN_N. -/

namespace Sys2Proof.Machine

/-! ## Source numbers (10 Table 10.1) -/

namespace Src
/-- 0, latched. -/
def fault : Nat := 0
/-- 1, level, critical. -/
def sealing : Nat := 1
/-- 2, level, critical. -/
def timeLost : Nat := 2
/-- 3, level, critical. -/
def engineFault : Nat := 3
/-- 4, level, critical. -/
def fuseFault : Nat := 4
/-- 5, level. -/
def clockDrift : Nat := 5
/-- 6, level. -/
def holdActive : Nat := 6
/-- 7, pulse, and every later one. -/
def overrun : Nat := 7
/-- 8. -/
def stranger : Nat := 8
/-- 9. -/
def badFrame : Nat := 9
/-- 10. -/
def parcelAccepted : Nat := 10
/-- 11. -/
def parcelRejected : Nat := 11
/-- 12. -/
def storeFull : Nat := 12
/-- 13. -/
def parcelLapsed : Nat := 13
/-- 14. -/
def grantOpened : Nat := 14
/-- 15. -/
def grantExpired : Nat := 15
/-- 16. -/
def forcedExpiry : Nat := 16
/-- 17. -/
def rateLimited : Nat := 17
/-- 18. -/
def queueTimeout : Nat := 18
/-- 19. -/
def trimClamped : Nat := 19
/-- 20. -/
def modeChanged : Nat := 20
/-- 21. -/
def keyMismatch : Nat := 21
/-- 22. -/
def fuseCorrected : Nat := 22
/-- 23. -/
def selfTestDone : Nat := 23
end Src

/-- A pulse source: number 7 or more (10 Table 10.1). -/
def isPulse (n : Nat) : Bool := 7 ≤ n

/-- A critical source: 1 to 4 (10 Table 10.1). -/
def isCritical (n : Nat) : Bool := 1 ≤ n && n ≤ 4

/-- What a read of a source that does not exist would give; no command names one. -/
def noSource : Source :=
  { status := false, history := false, pending := false, enable := false, mask := false, level := 1 }

/-- Source `n`. -/
def State.source (s : State) (n : Nat) : Source := s.attention.sources.getD n noSource

/-- Change source `n`. -/
def State.modSource (s : State) (n : Nat) (f : Source → Source) : State :=
  { s with attention := { s.attention with sources := s.attention.sources.modify n f } }

/-- Whether the part is out of STARTING with main power on: it takes requests, sends, and counts uptime (11 R172). -/
def State.awake (s : State) : Bool := s.control.power && s.control.service != .starting

/-- One raise of one source: its status is set, and, if it is enabled, its pending-notice flag (10 R160, R165); in
STARTING no flag is set (10 R168). -/
def raiseOne (n : Nat) (s : State) : State :=
  s.modSource n fun c =>
    { c with status := true, pending := c.pending || (c.enable && s.control.service != .starting) }

/-- A pulse source's raise (10 R162). -/
def raisePulse (n : Nat) (s : State) : State := raiseOne n s

/-- A level source's condition begins: a raise only if it was clear (10 R161, R165); a critical source's raise raises
FAULT (10 R163). -/
def raiseLevel (n : Nat) (s : State) : State :=
  if (s.source n).status then s
  else if isCritical n then raiseOne Src.fault (raiseOne n s)
  else raiseOne n s

/-- A level source's condition ends (10 R161). -/
def clearLevel (n : Nat) (s : State) : State := s.modSource n fun c => { c with status := false }

/-- A level source follows its condition. -/
def followLevel (n : Nat) (cond : Bool) (s : State) : State := if cond then raiseLevel n s else clearLevel n s

/-- Whether a source is outstanding (10 R164). -/
def Source.outstanding (c : Source) (threshold : Nat) : Bool :=
  c.status && c.enable && ((!c.mask && threshold < c.level) || c.level == 7)

/-- ATTN_N is driven low (10 R164), released in STARTING and without power. -/
def State.attnLow (s : State) : Bool :=
  s.awake && s.attention.sources.any fun c => c.outstanding s.attention.threshold

/-- NOTICE_READ with clear (10 R166): every status to history, pulse sources cleared. -/
def clearPulses (a : Attention) : Attention :=
  { a with sources := a.sources.zipIdx.map fun p =>
      { p.1 with history := p.1.status, status := p.1.status && !isPulse p.2 } }

/-- The start of a start-up (10 R168): status, history and flags cleared. -/
def clearNotices (a : Attention) : Attention :=
  { a with sources := a.sources.map fun c => { c with status := false, history := false, pending := false } }

/-- Step 3 of the end of start-up (10 R168): a flag for every raised, enabled source. -/
def flagRaised (a : Attention) : Attention :=
  { a with sources := a.sources.map fun c => { c with pending := c.pending || (c.status && c.enable) } }

/-- The attention defaults taken at ZEROIZE and at retained loss (10 R168): the configuration alone; flags of disabled
sources are cleared (10 Table 10.2). -/
def takeAttentionDefaults (a : Attention) : Attention where
  sources := (a.sources.zip freshAttention.sources).map fun p =>
    { p.1 with enable := p.2.enable, mask := p.2.mask, level := p.2.level, pending := p.1.pending && p.2.enable }
  threshold := freshAttention.threshold

/-- The lowest-numbered source whose pending-notice flag is set (09 R154). -/
def firstPending (a : Attention) : Option Nat := a.sources.findIdx? fun c => c.pending

end Sys2Proof.Machine
end

