-- ==== Sys2Proof/Decode.lean ====
section
/-! DEFINITION. Reading what the link spells: the kind values of Table 12.2 both ways, and the opcode table's words (no row
has bits). -/

namespace Sys2Proof

/-- The kind value of a request (Table 12.2). -/
def Kind.value : Kind → Byte
  | .status => 0x10
  | .parcelLoad => 0x20
  | .parcelWithdraw => 0x21
  | .parcelList => 0x22
  | .openKeys => 0x30
  | .close => 0x31
  | .extend => 0x32
  | .grantList => 0x33
  | .timeTrim => 0x40
  | .timeSet => 0x41
  | .stationEnrol => 0x50
  | .stationRetire => 0x51
  | .stationSuspend => 0x52
  | .stationResume => 0x53
  | .stationRank => 0x54
  | .stationList => 0x55
  | .modeKey => 0x60
  | .modeChange => 0x61
  | .settingWrite => 0x62
  | .settingRead => 0x63
  | .zeroize => 0x64
  | .noticeRead => 0x70
  | .noticeConfig => 0x71
  | .selfTest => 0x78
  | .restart => 0x7F

/-- The request kinds, in the order of their values. -/
def Kind.all : List Kind :=
  [.status, .parcelLoad, .parcelWithdraw, .parcelList, .openKeys, .close, .extend, .grantList, .timeTrim, .timeSet,
   .stationEnrol, .stationRetire, .stationSuspend, .stationResume, .stationRank, .stationList,
   .modeKey, .modeChange, .settingWrite, .settingRead, .zeroize, .noticeRead, .noticeConfig, .selfTest, .restart]

/-- The request kind a kind byte names; none for ANSWER, HOLD, EXPIRE, NOTICE and every unlisted value (09 R152,
12 Table 12.2). -/
def kindOf (b : Byte) : Option Kind := Kind.all.find? fun k => k.value == b

/-- The kind byte of the frames the part sends (Table 12.2). -/
def answerKind : Byte := 0x01
/-- HOLD. -/
def holdKind : Byte := 0x02
/-- EXPIRE. -/
def expireKind : Byte := 0x03
/-- NOTICE. -/
def noticeKind : Byte := 0x04

/-- The command a word of `nbits` bits spells by the opcode table. No row of spec/opcode_table.json gives bits, so
no word spells a command. -/
def decodeTableWord (_nbits _w : Nat) : Option Instr := none

end Sys2Proof
end

