-- ==== Sys2Proof/Machine/Operands.lean ====
section
/-! DEFINITION. The byte layouts of 12: fields, the frame and its check, request bodies, enumerated values, answer codes. -/

namespace Sys2Proof.Machine

/-! ## Fields (12 R176) -/

/-- The `n` bytes of a number, most significant first. -/
def beBytes : Nat → Nat → List Byte
  | 0, _ => []
  | n + 1, v => BitVec.ofNat 8 (v >>> (8 * n)) :: beBytes n v

/-- The number a list of bytes spells, most significant first. -/
def beNat (bs : List Byte) : Nat := bs.foldl (fun a b => a * 256 + b.toNat) 0

/-- The `len` bytes of a body from offset `off`. -/
def field (body : List Byte) (off len : Nat) : List Byte := (body.drop off).take len

/-- The unsigned field of `len` bytes at `off`. -/
def num (body : List Byte) (off len : Nat) : Nat := beNat (field body off len)

/-- The byte string of `8 * len` bits at `off`. -/
def str (w : Nat) (body : List Byte) (off : Nat) : BitVec w := BitVec.ofNat w (num body off (w / 8))

/-- The bytes of a byte string, first byte first. -/
def strBytes {w : Nat} (v : BitVec w) : List Byte := beBytes (w / 8) v.toNat

/-- The signed trim value of a 4-byte field: two's complement. -/
def signed4 (v : Nat) : Int := if v < 2147483648 then (v : Int) else (v : Int) - 4294967296

/-- The 4 bytes of a signed value. -/
def signed4Bytes (a : Int) : List Byte := beBytes 4 (a % 4294967296).toNat

/-- One byte of an enumerated or counted value. -/
def byte1 (v : Nat) : Byte := BitVec.ofNat 8 v

/-- 0 or 1. -/
def flagByte (b : Bool) : Byte := if b then 1 else 0

/-! ## The frame (12 Table 12.1, R177) -/

/-- One bit of the CRC-32 register, least significant bit first: 0xEDB88320 is the polynomial 0x04C11DB7 with its
bits reversed. -/
def crcShift (r : Nat) : Nat := if r % 2 = 1 then (r >>> 1) ^^^ 0xEDB88320 else r >>> 1

/-- One byte through the register. -/
def crcByte (r : Nat) (b : Byte) : Nat :=
  crcShift (crcShift (crcShift (crcShift (crcShift (crcShift (crcShift (crcShift (r ^^^ b.toNat))))))))

/-- CRC-32 of 12 R177: register of all ones, each byte least significant bit first, inverted at the end.
PRESUMED (log 10): the register's bit order is the usual CRC-32's; unsafe. -/
def crc32 (bs : List Byte) : Nat := (bs.foldl crcByte 0xFFFFFFFF) ^^^ 0xFFFFFFFF

/-- The bytes before the check field. -/
def TxFrame.front (f : TxFrame) : List Byte :=
  strBytes f.dst ++ strBytes f.src ++ [f.kind, f.tag] ++ beBytes 2 f.body.length ++ f.body

/-- The whole frame as its bytes leave (12 R177: the check matches the bytes). -/
def TxFrame.wire (f : TxFrame) : List Byte := f.front ++ beBytes 4 (crc32 f.front)

/-- The whole of an arriving frame: the address header judged at FRAME_HEADER and the bytes that followed it. -/
def wholeFrame (h : Header) (rest : List Byte) : List Byte := strBytes h.dst ++ strBytes h.src ++ rest

/-- The end checks of 09 R150 in their order: oversize, runt, length, check. -/
def frameGood (bytes : List Byte) : Bool :=
  bytes.length ≤ 2060 && 12 ≤ bytes.length && bytes.length == 12 + num bytes 6 2 &&
    num bytes (bytes.length - 4) 4 == crc32 (bytes.take (bytes.length - 4))

/-- The stored frame of a good frame (09 R148). -/
def storedFrame (h : Header) (bytes : List Byte) : Frame where
  src := h.src
  kind := bytes.getD 4 0
  tag := bytes.getD 5 0
  body := field bytes 8 (num bytes 6 2)

/-! ## Enumerated values (12 Table 12.7) and answer codes (12 Table 12.3) -/

/-- Answer code values. -/
def Code.value : Code → Byte
  | .ok => 0x00 | .clamped => 0x01 | .granted => 0x02 | .accepted => 0x03 | .expired => 0x04
  | .sealing => 0x10 | .role => 0x11 | .suspended => 0x12 | .mode => 0x13 | .malformed => 0x14 | .unknownKind => 0x15
  | .engineFault => 0x16 | .noTime => 0x17 | .screenLimit => 0x18 | .unknownGrant => 0x19 | .withdrawn => 0x1A
  | .tooEarly => 0x1B | .rateLimit => 0x1C | .queueFull => 0x1D | .timeout => 0x1E
  | .noParcel => 0x20 | .lapsed => 0x21 | .notYet => 0x22 | .pastWindow => 0x23 | .noTrack => 0x24
  | .windowClosed => 0x25 | .ended => 0x26 | .duplicate => 0x27 | .ingestBusy => 0x28 | .rejected => 0x29
  | .storeFull => 0x2A | .unknownParcel => 0x2B
  | .tableFull => 0x31 | .roleLimit => 0x32 | .misaligned => 0x33 | .conflict => 0x34 | .unknownStation => 0x35
  | .ownEntry => 0x36 | .lastProgramming => 0x37 | .unknownSetting => 0x38 | .readOnly => 0x39 | .keyMismatch => 0x3A
  | .locked => 0x3B | .grantsOpen => 0x3C | .timeRunning => 0x3D | .busy => 0x3E | .failed => 0x3F

/-- MALFORMED reasons (12 Table 12.4). -/
inductive BadForm
  | length | counts | window | duplicateScreen | duplicateTrack | trackId | trackKind | notScreen | badValue
  deriving DecidableEq, Repr

/-- Reason values (12 Table 12.4). -/
def BadForm.value : BadForm → Byte
  | .length => 1 | .counts => 2 | .window => 3 | .duplicateScreen => 4 | .duplicateTrack => 5 | .trackId => 6
  | .trackKind => 7 | .notScreen => 8 | .badValue => 9

/-- Track kind of a value. -/
def trackKindOf (b : Byte) : Option TrackKind :=
  if b == 1 then some .picture else if b == 2 then some .sound else if b == 3 then some .subtitle
  else if b == 4 then some .aux else none

/-- Track kind values. -/
def TrackKind.value : TrackKind → Byte
  | .picture => 1 | .sound => 2 | .subtitle => 3 | .aux => 4

/-- Role of a value. -/
def roleOf (b : Byte) : Option Role :=
  if b == 1 then some .screen else if b == 2 then some .programming else if b == 3 then some .monitor else none

/-- Role values. -/
def Role.value : Role → Byte
  | .screen => 1 | .programming => 2 | .monitor => 3

/-- Mode of a value. -/
def modeOf (b : Byte) : Option Mode :=
  if b == 1 then some .service else if b == 2 then some .showing else none

/-- Mode values. -/
def Mode.value : Mode → Byte
  | .service => 1 | .showing => 2

/-- Expiry reason values. -/
def Reason.value : Reason → Byte
  | .span => 1 | .withdrawn => 2 | .suspended => 3 | .clock => 4

/-- Service state values; STARTING answers nothing and has none. -/
def Service.value : Service → Byte
  | .starting => 0 | .operating => 1 | .sealedOff => 2

/-- Time state values. -/
def TimeState.value : TimeState → Byte
  | .running => 1 | .lost => 2

/-- Start cause values. -/
def StartCause.value : StartCause → Byte
  | .powerOn => 1 | .backupLost => 2 | .resetLine => 3 | .restart => 4

/-- Parcel entry state values. -/
def ParcelState.value : ParcelState → Byte
  | .latent => 1 | .live => 2 | .lapsed => 3 | .withdrawn => 4

/-- Grant state values. -/
def GrantState.value : GrantState → Byte
  | .opening _ => 1 | .opened => 2 | .expiring _ => 3

/-- Station state values. -/
def StationState.value : StationState → Byte
  | .enrolled => 1 | .suspended => 2

/-- Hold state values. -/
def HoldState.value : HoldState → Byte
  | .idle => 1 | .holding => 2

/-! ## Request bodies (12 Tables 12.6 and 12.8) -/

/-- A handle field: slot, then generation. -/
structure Handle where
  slot : Nat
  gen  : Nat
  deriving DecidableEq, Repr

/-- The handle at an offset. -/
def handleAt (body : List Byte) (off : Nat) : Handle where
  slot := num body off 1
  gen := num body (off + 1) 1

/-- The two bytes of a handle. -/
def Handle.bytes (h : Handle) : List Byte := [byte1 h.slot, byte1 h.gen]

/-- `n` byte strings of `w` bits, one after another from `off`. -/
def strs (w : Nat) (body : List Byte) (off n : Nat) : List (BitVec w) :=
  (List.range n).map fun i => str w body (off + (w / 8) * i)

/-- The MALFORMED reason of a body whose layout has one length and no counts (12 R178). -/
def lengthIs (n : Nat) (body : List Byte) : Option BadForm := if body.length = n then none else some .length

/-- The MALFORMED reason when the length is as laid out and the fields may fail (12 R178). -/
def lengthThen (n : Nat) (body : List Byte) (fieldsOk : Bool) : Option BadForm :=
  if body.length = n then (if fieldsOk then none else some .badValue) else some .length

/-! ### PARCEL_LOAD -/

/-- Screen count of a PARCEL_LOAD body. -/
def parcelScreenCount (body : List Byte) : Nat := num body 32 1
/-- Record count of a PARCEL_LOAD body. -/
def parcelRecordCount (body : List Byte) : Nat := num body 33 1
/-- Screen list of a PARCEL_LOAD body. -/
def parcelScreens (body : List Byte) : List Bytes16 := strs 128 body 34 (parcelScreenCount body)
/-- Offset of key record `i`. -/
def recordOffset (body : List Byte) (i : Nat) : Nat := 34 + 16 * parcelScreenCount body + 37 * i
/-- Track identifiers, in record order. -/
def parcelTracks (body : List Byte) : List TrackId :=
  (List.range (parcelRecordCount body)).map fun i => str 32 body (recordOffset body i)
/-- Track kind bytes, in record order. -/
def parcelKinds (body : List Byte) : List Byte :=
  (List.range (parcelRecordCount body)).map fun i => body.getD (recordOffset body i + 4) 0

/-- No element twice. -/
def distinct {α : Type} [DecidableEq α] : List α → Bool
  | [] => true
  | a :: t => !t.contains a && distinct t

/-- The form checks of 01 R3, Table 1.3, in order; none when the body is well formed. -/
def parcelForm (body : List Byte) : Option BadForm :=
  let s := parcelScreenCount body
  let r := parcelRecordCount body
  let st := num body 24 4
  let en := num body 28 4
  if body.length < 50 then some .length
  else if s = 0 ∨ 24 < s ∨ r = 0 ∨ 32 < r then some .counts
  else if body.length ≠ 50 + 16 * s + 37 * r then some .length
  else if en ≤ st ∨ 525600 < en - st ∨ 71582788 < en then some .window
  else if !distinct (parcelScreens body) then some .duplicateScreen
  else if !distinct (parcelTracks body) then some .duplicateTrack
  else if (parcelTracks body).contains 0 then some .trackId
  else if (parcelKinds body).any (fun k => (trackKindOf k).isNone) then some .trackKind
  else none

/-- Key record `i` of a well-formed body. -/
def recordAt (body : List Byte) (i : Nat) : KeyRecord where
  track := str 32 body (recordOffset body i)
  kind := (trackKindOf (body.getD (recordOffset body i + 4) 0)).getD .aux
  sealedKey := str 256 body (recordOffset body i + 5)

/-- The parcel a well-formed body carries (01 R1). -/
def parcelOf (body : List Byte) : Parcel where
  id := str 64 body 0
  feature := str 128 body 8
  winStart := num body 24 4
  winEnd := num body 28 4
  screens := parcelScreens body
  records := (List.range (parcelRecordCount body)).map (recordAt body)
  tag := str 128 body (recordOffset body (parcelRecordCount body))

/-! ### OPEN -/

/-- Track list of an OPEN body. -/
def openTracks (body : List Byte) : List TrackId := strs 32 body 25 (num body 24 1)

/-- The form checks of 05 R67, in order. -/
def openForm (body : List Byte) : Option BadForm :=
  if body.length < 25 then some .length
  else if 32 < num body 24 1 then some .counts
  else if body.length ≠ 25 + 4 * num body 24 1 then some .length
  else if !distinct (openTracks body) then some .duplicateTrack
  else if (openTracks body).contains 0 then some .trackId
  else none

/-! ### NOTICE_CONFIG -/

/-- One source entry of a NOTICE_CONFIG body: source number, enable, mask and level bytes. -/
structure ConfigEntry where
  number : Nat
  enable : Nat
  mask   : Nat
  level  : Nat
  deriving DecidableEq, Repr

/-- The entries of a NOTICE_CONFIG body. -/
def configEntries (body : List Byte) : List ConfigEntry :=
  (List.range (num body 1 1)).map fun i =>
    { number := num body (2 + 4 * i) 1, enable := num body (3 + 4 * i) 1,
      mask := num body (4 + 4 * i) 1, level := num body (5 + 4 * i) 1 }

/-- The MALFORMED check of 10 R167: LENGTH when the length does not match the entry count, VALUE when an entry
fails (12 R178; log 26). -/
def configForm (body : List Byte) : Option BadForm :=
  if body.length < 2 ∨ body.length ≠ 2 + 4 * num body 1 1 then some .length
  else if (configEntries body).all (fun e => e.number < 24 && e.enable < 2 && e.mask < 2) &&
      distinct ((configEntries body).map (·.number)) then none
  else some .badValue

end Sys2Proof.Machine
end

