-- ==== Sys2Proof/Machine/Ops.lean ====
section
/-! DEFINITION. The named operations the commands share: tables, answers, senders, the hold state, key slots and entries,
deadlines, grants, the arithmetic of 04, time loss, rebuild, the beginning of a start-up. -/

namespace Sys2Proof.Machine

/-! ## Tables of fixed length -/

/-- What place `i` holds. -/
def slotGet {α : Type} (t : List (Option α)) (i : Nat) : Option α := (t[i]?).join

/-- The lowest-numbered free place. -/
def lowestFree {α : Type} (t : List (Option α)) : Option Nat := t.findIdx? fun o => o.isNone

/-- The places in use with their contents, in ascending order. -/
def listUsed {α : Type} (t : List (Option α)) : List (Nat × α) :=
  t.zipIdx.filterMap fun p => p.1.map fun a => (p.2, a)

/-- How many places are in use. -/
def countUsed {α : Type} (t : List (Option α)) : Nat := t.countP fun o => o.isSome

/-- The free places, in ascending order. -/
def freePlaces {α : Type} (t : List (Option α)) : List Nat :=
  t.zipIdx.filterMap fun p => if p.1.isNone then some p.2 else none

/-- Parcel entry `i` (02 R18). -/
def State.entry (s : State) (i : Nat) : Option ParcelEntry := slotGet s.store.table i

/-- Grant record in slot `g` (06 R88). -/
def State.grant (s : State) (g : Nat) : Option Grant := slotGet s.grants.slots g

/-- Station entry in slot `i` (08 R129). -/
def State.station (s : State) (i : Nat) : Option Station := slotGet s.stations.entries i

/-- Write parcel table place `i`. -/
def State.setEntry (s : State) (i : Nat) (o : Option ParcelEntry) : State :=
  { s with store := { s.store with table := s.store.table.set i o } }

/-- Write grant slot `g`. -/
def State.setGrant (s : State) (g : Nat) (o : Option Grant) : State :=
  { s with grants := { s.grants with slots := s.grants.slots.set g o } }

/-- Write station slot `i`. -/
def State.setStation (s : State) (i : Nat) (o : Option Station) : State :=
  { s with stations := { s.stations with entries := s.stations.entries.set i o } }

/-- Free key slots (02 R21). -/
def State.freeKeySlots (s : State) : Nat := (freePlaces s.store.keys).length

/-- Parcel entries in use (02 R18). -/
def State.parcelsInUse (s : State) : Nat := countUsed s.store.table

/-- Grant records, in any state (06 R88). -/
def State.grantCount (s : State) : Nat := countUsed s.grants.slots

/-- The part's own address; 0xFFFE while its fuse word is uncorrectable (11 R169). -/
def State.ownAddr (s : State) : Addr := s.fuses.held.ownAddr.getD 0xFFFE

/-- Booth time now (03 R35). -/
def State.now (s : State) : Nat := s.clock.boothTime

/-! ## Engine state (05 R74) -/

/-- READY, BUSY or FAULT. -/
inductive EngineState
  | ready | busy | fault
  deriving DecidableEq, Repr

/-- FAULT after a failed KAT; otherwise BUSY with a job in flight or a result held; otherwise READY (05 R74). -/
def engineState (e : Engine) : EngineState :=
  if e.faulted then .fault else if e.job.isSome || e.held.isSome then .busy else .ready

/-- Engine state values (12 Table 12.7). -/
def EngineState.value : EngineState → Byte
  | .ready => 1 | .busy => 2 | .fault => 3

/-! ## Answers and checks -/

/-- A code with its detail bytes (12 R178). -/
structure Reply where
  code   : Code
  detail : List Byte
  deriving DecidableEq, Repr

/-- A refusal that carries its code alone. -/
def refuse (c : Code) : Reply := { code := c, detail := [] }

/-- A MALFORMED refusal with its reason (12 Table 12.4). -/
def malformed (b : BadForm) : Reply := { code := .malformed, detail := [b.value] }

/-- The answer queue has a free place (09 R153). -/
def State.hasRoom (s : State) : Bool := s.link.answers.length < 16

/-- Place an answer behind those waiting (09 R153). -/
def placeAnswer (a : Answer) (s : State) : State :=
  { s with link := { s.link with answers := s.link.answers ++ [a] } }

/-- Answer a request at the take: to the frame's source, with its tag (09 R152). -/
def reply (f : Frame) (r : Reply) (s : State) : State :=
  placeAnswer { dst := f.src, tag := f.tag, kind := f.kind, code := r.code, detail := r.detail } s

/-- A deferred answer to a request of kind `k`. -/
def replyLater (who : Requester) (k : Kind) (r : Reply) (s : State) : State :=
  placeAnswer { dst := who.addr, tag := who.tag, kind := k.value, code := r.code, detail := r.detail } s

/-- The first failing check gives the answer. -/
def firstFailure (checks : List (Bool × Reply)) : Option Reply := (checks.find? fun c => c.1).map fun c => c.2

/-- Run a request: answer the first failing check, or act. -/
def checked (f : Frame) (checks : List (Bool × Reply)) (act : State → State) (s : State) : State :=
  match firstFailure checks with
  | some r => reply f r s
  | none => act s

/-! ## Senders (08 R131, R132) -/

/-- Who a frame comes from: an entry in use, or the active boot address. -/
inductive Sender
  | station (slot : Nat) (e : Station)
  | boot
  deriving DecidableEq, Repr

/-- The boot address has the permissions of PROGRAMMING (08 R133). -/
def Sender.role : Sender → Role
  | .station _ e => e.role
  | .boot => .programming

/-- The boot address is never SUSPENDED (08 R132). -/
def Sender.isSuspended : Sender → Bool
  | .station _ e => e.state == .suspended
  | .boot => false

/-- The sender's slot, if it has one. -/
def Sender.slot : Sender → Option Nat
  | .station i _ => some i
  | .boot => none

/-- Entries in use of a role. -/
def roleCount (s : State) (r : Role) : Nat := ((listUsed s.stations.entries).filter fun p => p.2.role == r).length

/-- The boot address is active: its word is usable and no entry in use is PROGRAMMING (08 R132). -/
def bootActive (s : State) : Bool := s.fuses.held.bootAddr.isSome && roleCount s .programming == 0

/-- An address lies in the entry's block (08 R131). -/
def Station.covers (e : Station) (a : Addr) : Bool := e.base.toNat ≤ a.toNat && a.toNat < e.base.toNat + e.size

/-- The source match: an entry in use takes precedence over the boot address (08 R131, R132). -/
def matchSource (s : State) (a : Addr) : Option Sender :=
  match (listUsed s.stations.entries).find? fun p => p.2.covers a with
  | some p => some (.station p.1 p.2)
  | none => if bootActive s && s.fuses.held.bootAddr == some a then some .boot else none

/-- A frame discarded as stranger, at its header or at its take (09 R149, R152). -/
def discardStranger (s : State) : State :=
  raisePulse Src.stranger { s with link := { s.link with stranger := satAdd s.link.stranger 1 } }

/-! ### The checks that many requests share -/

/-- SEALED while the part is SEALED (11 R173). -/
def sealedCheck (s : State) : Bool × Reply := (s.control.service == .sealedOff, refuse .sealing)
/-- ROLE when the sender's role is not one of those permitted (08 R133). -/
def roleCheck (who : Sender) (allowed : List Role) : Bool × Reply := (!allowed.contains who.role, refuse .role)
/-- SUSPENDED when the matched entry is SUSPENDED (08 R134). -/
def suspendedCheck (who : Sender) : Bool × Reply := (who.isSuspended, refuse .suspended)
/-- MODE for a request taken only in SERVICE (08 R133). -/
def serviceOnly (s : State) : Bool × Reply := (s.stations.mode == .showing, refuse .mode)
/-- MALFORMED with its reason. -/
def formCheck (b : Option BadForm) : Bool × Reply := (b.isSome, malformed (b.getD .badValue))

/-! ## Receive store and hold state (09) -/

/-- Slots not free: the stored frames and the one arriving (09 R151). -/
def occupancy (s : State) : Nat := s.link.stored.length + (if s.link.arriving.isSome then 1 else 0)

/-- Length of the repeat timer (09 R156): HOLD_TIME x 4 / 5 rounded down, at least 1. -/
def repeatTime (holdTime : Nat) : Nat := max 1 (holdTime * 4 / 5)

/-- Make HOLD_TIME pending and start the repeat timer (09 R156). -/
def armHold (s : State) : State :=
  { s with link := { s.link with
      pendingHold := some s.stations.settings.holdTime, holdTimer := some (repeatTime s.stations.settings.holdTime) } }

/-- Enter HOLDING (09 R156). -/
def enterHold (s : State) : State :=
  raiseLevel Src.holdActive (armHold { s with link := { s.link with hold := .holding } })

/-- Release the hold (09 R157). -/
def releaseHold (s : State) : State :=
  clearLevel Src.holdActive
    { s with link := { s.link with hold := .idle, pendingHold := some 0, holdTimer := none } }

/-- Occupancy has risen (09 Table 9.2). -/
def occupancyRose (s : State) : State :=
  if s.link.hold == .idle && s.stations.settings.holdHigh ≤ occupancy s then enterHold s else s

/-- Occupancy has fallen (09 Table 9.2). -/
def occupancyFell (s : State) : State :=
  if s.link.hold == .holding && occupancy s < s.stations.settings.holdLow then releaseHold s else s

/-- The decoder may take a frame: out of STARTING, with a free answer place (09 R152, 11 R172). -/
def canTake (s : State) : Bool := s.awake && s.hasRoom

/-- The owner of a request kind: what the Request Decoder passes a matched request to (09 R152). -/
abbrev Owner := Sender → Frame → State → State

/-- The decoder settles a taken frame: a stranger is discarded, any other goes to its owner (09 R152). -/
def settle (owner : Owner) (f : Frame) (s : State) : State :=
  match matchSource s f.src with
  | none => discardStranger s
  | some who => owner who f s

/-- A request row: the take of one request of kind `k` (log 4). Nothing is taken while the decoder cannot take a
frame (log 5). -/
def takeRequest (k : Kind) (src : Addr) (tag : Byte) (body : List Byte) (owner : Owner) (s : State) : State :=
  if canTake s then settle owner { src := src, kind := k.value, tag := tag, body := body } s else s

/-! ## Deadline List (07 R111-R113) -/

/-- Insert behind every entry with a due smaller or equal, ahead of every larger one (07 R113). -/
def insertDeadline (d : Deadline) : List Deadline → List Deadline
  | [] => [d]
  | h :: t => if d.due < h.due then d :: h :: t else h :: insertDeadline d t

/-- Insert into the part's list. -/
def addDeadline (d : Deadline) (s : State) : State := { s with deadlines := insertDeadline d s.deadlines }

/-- Remove every entry that refers to parcel index `i` (02 R26). -/
def dropParcelDeadlines (i : Nat) (s : State) : State :=
  { s with deadlines := s.deadlines.filter fun d => !(d.kind != .spanEnd && d.ref == i) }

/-- Remove the SPAN_END of grant slot `g` (06 R93). -/
def dropSpanEnd (g : Nat) (s : State) : State :=
  { s with deadlines := s.deadlines.filter fun d => !(d.kind == .spanEnd && d.ref == g) }

/-! ## Parcel entries and key slots (02) -/

/-- Window start in booth seconds (04 R52). -/
def ParcelEntry.ss (e : ParcelEntry) : Nat := e.winStart * 60
/-- Window end in booth seconds (04 R52). -/
def ParcelEntry.es (e : ParcelEntry) : Nat := e.winEnd * 60
/-- LATENT or LIVE: the entry holds keys (02 Table 2.2). -/
def ParcelEntry.holdsKeys (e : ParcelEntry) : Bool := e.state == .latent || e.state == .live

/-- Purge due, saturating (04 Table 4.2). -/
def purgeAt (s : State) (e : ParcelEntry) : Nat := satAdd e.es (s.stations.settings.purgeDelay * 60)

/-- Free the slots of the references (02 R22). -/
def eraseKeys (refs : List KeyRef) (keys : List (Option Key)) : List (Option Key) :=
  refs.foldl (fun ks r => ks.set r.slot none) keys

/-- Erasure of entry `i` (02 R22): its slots are freed and its references emptied; its record count is kept. -/
def eraseEntry (i : Nat) (s : State) : State :=
  match s.entry i with
  | none => s
  | some e =>
    { s with store := { s.store with
        table := s.store.table.set i (some { e with refs := [] }), keys := eraseKeys e.refs s.store.keys } }

/-- Freeing an entry (02 R26): slots erased, deadlines of its index removed, index free. -/
def freeEntry (i : Nat) (s : State) : State :=
  dropParcelDeadlines i ((eraseEntry i s).setEntry i none)

/-- Free the entry if it is one that is freed at grant count 0 (02 R26). -/
def freeAtZero (i : Nat) (s : State) : State :=
  match s.entry i with
  | none => s
  | some e =>
    if e.grantCount = 0 ∧ (e.state = .withdrawn ∨ (e.state = .lapsed ∧ e.purgeDue)) then freeEntry i s else s

/-- A grant record naming entry `i` was freed: its count falls by 1 (02 R24), and it may be freed (02 R26). -/
def countDown (i : Nat) (s : State) : State :=
  match s.entry i with
  | none => s
  | some e => freeAtZero i (s.setEntry i (some { e with grantCount := e.grantCount - 1 }))

/-- A grant record naming entry `i` was allocated (02 R24). -/
def countUp (i : Nat) (s : State) : State :=
  match s.entry i with
  | none => s
  | some e => s.setEntry i (some { e with grantCount := e.grantCount + 1 })

/-- Give entry `i` another state. -/
def setEntryState (i : Nat) (st : ParcelState) (s : State) : State :=
  match s.entry i with
  | none => s
  | some e => s.setEntry i (some { e with state := st })

/-- The lapse of a LATENT or LIVE entry, without its PURGE (07 R117 steps 1, 2 and 4, R122 step 1). -/
def lapseEntry (i : Nat) (s : State) : State :=
  raisePulse Src.parcelLapsed (eraseEntry i (setEntryState i .lapsed s))

/-! ## Grants (06) -/

/-- The handle of grant slot `g` (06 R89). -/
def handleOf (s : State) (g : Nat) : Handle := { slot := g, gen := s.grants.gens.getD g 0 }

/-- The next generation of a slot: from 255 to 0 (06 R89). -/
def nextGen (n : Nat) : Nat := if 255 ≤ n then 0 else n + 1

/-- Freeing a record with its report (06 R93). -/
def freeGrant (g : Nat) (s : State) : State :=
  match s.grant g with
  | none => s
  | some r =>
    countDown r.parcel
      (dropSpanEnd g
        { s with grants :=
          { slots := s.grants.slots.set g none,
            gens := s.grants.gens.modify g nextGen,
            expireList := s.grants.expireList.filter fun h => h != g } })

/-- An OPEN record becomes EXPIRING and joins the tail of the expire list; it has no SPAN_END any more (06 R99, R100). -/
def expireGrant (g : Nat) (why : Reason) (s : State) : State :=
  match s.grant g with
  | none => s
  | some r =>
    dropSpanEnd g
      { s with grants := { s.grants with
          slots := s.grants.slots.set g (some { r with state := .expiring why }),
          expireList := s.grants.expireList ++ [g] } }

/-- The OPEN records a cause reaches, in ascending slot order (06 R100). -/
def reached (pick : Grant → Bool) (s : State) : List Nat :=
  ((listUsed s.grants.slots).filter fun p => p.2.state == .opened && pick p.2).map fun p => p.1

/-- A forced expiry (06 R100): every OPEN record reached becomes EXPIRING; FORCED_EXPIRY is raised once if any did. -/
def forceExpiry (pick : Grant → Bool) (why : Reason) (s : State) : State :=
  match reached pick s with
  | [] => s
  | hit => raisePulse Src.forcedExpiry (hit.foldl (fun t g => expireGrant g why t) s)

/-! ## Firing (07 R114-R119) -/

/-- WINDOW_START fires (07 R116). -/
def fireWindowStart (i : Nat) (s : State) : State :=
  match s.entry i with
  | some e => if e.state = .latent then setEntryState i .live s else s
  | none => s

/-- WINDOW_END fires (07 R117): the lapse, and the PURGE at Es + PURGE_DELAY x 60. -/
def fireWindowEnd (i : Nat) (s : State) : State :=
  match s.entry i with
  | some e =>
    if e.holdsKeys then addDeadline { due := purgeAt s e, kind := .purge, ref := i } (lapseEntry i s) else s
  | none => s

/-- PURGE fires (07 R118). -/
def firePurge (i : Nat) (s : State) : State :=
  match s.entry i with
  | some e =>
    if e.state = .lapsed then
      if e.grantCount = 0 then freeEntry i s else s.setEntry i (some { e with purgeDue := true })
    else s
  | none => s

/-- SPAN_END fires (06 R99). -/
def fireSpanEnd (g : Nat) (s : State) : State :=
  match s.grant g with
  | some r => if r.state = .opened then raisePulse Src.grantExpired (expireGrant g .span s) else s
  | none => s

/-- The owner acts on a deadline that has been removed from the list (07 R114). -/
def fireOne (d : Deadline) (s : State) : State :=
  match d.kind with
  | .windowStart => fireWindowStart d.ref s
  | .windowEnd => fireWindowEnd d.ref s
  | .purge => firePurge d.ref s
  | .spanEnd => fireSpanEnd d.ref s

/-- Take entries from the head while the head's due is at most `n` (07 R114), at most `fuel` of them. -/
def fireDue : Nat → Nat → State → State
  | 0, _, s => s
  | fuel + 1, n, s =>
    match s.deadlines with
    | [] => s
    | d :: t => if d.due ≤ n then fireDue fuel n (fireOne d { s with deadlines := t }) else s

/-- One event of the Deadline List at booth time `n` (07 R114, R115). Each entry fired inserts at most one PURGE, and a
PURGE inserts nothing, so twice the list's length is enough. -/
def runDeadlines (n : Nat) (s : State) : State := fireDue (2 * s.deadlines.length) n s

/-- A backward trim to booth time `n` (07 R119): each LIVE entry whose Ss lies ahead returns to LATENT, in ascending
index order. -/
def returnLatent (n : Nat) (s : State) : State :=
  (listUsed s.store.table).foldl
    (fun t p =>
      if p.2.state = .live ∧ n < p.2.ss then
        addDeadline { due := p.2.ss, kind := .windowStart, ref := p.1 } (setEntryState p.1 .latent t)
      else t) s

/-! ## Rebuild (07 R121, R122) -/

/-- Insert into a list kept in ascending order of window end, behind equals. -/
def insertByEnd (p : Nat × ParcelEntry) : List (Nat × ParcelEntry) → List (Nat × ParcelEntry)
  | [] => [p]
  | h :: t => if p.2.es < h.2.es then p :: h :: t else h :: insertByEnd p t

/-- Entries in ascending order of Es, ties in ascending index. -/
def byEnd (l : List (Nat × ParcelEntry)) : List (Nat × ParcelEntry) := l.foldl (fun acc p => insertByEnd p acc) []

/-- Step 1: catch-up lapses (07 Table 7.3). -/
def rebuildLapse (n : Nat) (s : State) : State :=
  (byEnd ((listUsed s.store.table).filter fun p => p.2.holdsKeys && p.2.es ≤ n)).foldl (fun t p => lapseEntry p.1 t) s

/-- Step 2: reclassification. -/
def rebuildClassify (n : Nat) (s : State) : State :=
  (listUsed s.store.table).foldl
    (fun t p =>
      if p.2.holdsKeys then setEntryState p.1 (if p.2.ss ≤ n then .live else .latent) t else t) s

/-- Step 3: LAPSED entries whose purge due has passed are freed. -/
def rebuildPurge (n : Nat) (s : State) : State :=
  (listUsed s.store.table).foldl
    (fun t p => if p.2.state = .lapsed ∧ purgeAt s p.2 ≤ n then freeEntry p.1 t else t) s

/-- The deadlines of one entry, in order (07 Table 7.4). -/
def entryDeadlines (s : State) (i : Nat) (e : ParcelEntry) : List Deadline :=
  match e.state with
  | .latent => [{ due := e.ss, kind := .windowStart, ref := i }, { due := e.es, kind := .windowEnd, ref := i }]
  | .live => [{ due := e.es, kind := .windowEnd, ref := i }]
  | .lapsed => [{ due := purgeAt s e, kind := .purge, ref := i }]
  | .withdrawn => []

/-- Step 4: deadlines of every entry in use, in ascending index order. -/
def rebuildInsert (s : State) : State :=
  (listUsed s.store.table).foldl
    (fun t p => (entryDeadlines s p.1 p.2).foldl (fun u d => addDeadline d u) t) s

/-- The rebuild at booth time `n`, from the parcel table alone (07 R121, R122). -/
def rebuildList (n : Nat) (s : State) : State :=
  rebuildInsert (rebuildPurge n (rebuildClassify n (rebuildLapse n { s with deadlines := [] })))

/-! ## Window and span arithmetic (04) -/

/-- The runtime clamp of 04 R54. -/
def clampRuntime (r : Nat) : Nat := max 60 (min 21600 r)

/-- Stage 1 (04 R55, Table 4.3): the effective start, or none for TOO_EARLY. -/
def effectiveStart (planned now prep late : Nat) : Option Nat :=
  if planned = 0 then some now
  else if satAdd now prep < planned then none
  else if planned < now - late then some now
  else some planned

/-- Stage 3 (04 R58): the span end, or none for WINDOW_CLOSED. -/
def spanEnd (q r extra now es tail : Nat) : Option Nat :=
  let a := satAdd (satAdd q r) extra
  let b := max a (satAdd now 60)
  let c := satAdd es tail
  if c ≤ now then none else some (min b c)

/-- The addition an EXTEND is allowed (04 R61). -/
def allowedAddition (requested used : Nat) : Nat := min (max 1 (min 3600 requested)) (7200 - used)

/-- The span end after an EXTEND (04 R62). -/
def extendedEnd (x add es tail : Nat) : Nat := min (satAdd x add) (satAdd es tail)

/-- Tokens and refill mark brought up to date at uptime `u` (04 R64). -/
def refreshTokens (tokens : Nat) (mark : Option Nat) (u burst refill : Nat) : Nat × Option Nat :=
  match mark with
  | none => (min tokens burst, none)
  | some m =>
    let k := (u - m) / refill
    if burst ≤ tokens + k then (burst, none) else (tokens + k, some (m + k * refill))

/-- A token spent at uptime `u` (04 R65). -/
def spendToken (tokens : Nat) (mark : Option Nat) (u : Nat) : Nat × Option Nat :=
  (tokens - 1, some (mark.getD u))

/-! ## Open Queue and staging queue -/

/-- Places of the Open Queue in use (05 R70). -/
def openPlaces (s : State) : Nat := s.openQueue.waiting.length + s.openQueue.due.length

/-- Every WAITING place picked passes to ANSWER_DUE with a code, in queue order (05 R71, R73). -/
def refuseWaiting (pick : OpenReq → Bool) (c : Code) (s : State) : State :=
  { s with openQueue :=
    { waiting := s.openQueue.waiting.filter fun w => !pick w,
      due := s.openQueue.due ++ (s.openQueue.waiting.filter pick).map fun w => { who := w.who, code := c } } }

/-- The head staging place is WAITING: it is offered to the arbiter (01 R7). -/
def headWaiting (s : State) : Bool :=
  match s.store.staging with
  | h :: _ => h.phase == .waiting
  | [] => false

/-- Set the pass-over count. -/
def setPassOver (n : Nat) (s : State) : State := { s with arbiter := { s.arbiter with passOver := n } }

/-- Every WAITING staging place passes to ANSWER_DUE with a code (01 R9). -/
def refuseStaging (c : Code) (s : State) : State :=
  { s with store := { s.store with staging := s.store.staging.map fun p =>
    if p.phase = .waiting then { p with phase := .answerDue c } else p } }

/-- Vacate the head staging place (01 R6, 05 R78). -/
def vacateHead (s : State) : State :=
  setPassOver 0 { s with store := { s.store with staging := s.store.staging.drop 1 } }

/-! ## Engine fault and time loss -/

/-- The engine enters, or stays in, FAULT (05 R84): queued opens and WAITING staged parcels are refused, and the
pass-over count becomes 0. -/
def enterFault (s : State) : State :=
  raiseLevel Src.engineFault
    (setPassOver 0 <| refuseStaging .engineFault
      (refuseWaiting (fun _ => true) .engineFault { s with engine := { s.engine with faulted := true } }))

/-- The time state becomes LOST (03 R39): OPEN grants expire CLOCK (06 R103), queued opens are refused (05 R73), the
Deadline List empties (07 R120). -/
def loseTime (s : State) : State :=
  raiseLevel Src.timeLost
    { refuseWaiting (fun _ => true) .noTime
        (forceExpiry (fun _ => true) .clock
          { s with clock := { s.clock with timeState := .lost, driftRun := 0 } }) with deadlines := [] }

/-- A measurement window opens, with no crystal second completed in it yet (03 R40). DESIGN CHOICE (log 12): windows open
with the CLOCK_CHECK phase, at the end of start-up, and where the window before ends. -/
def openWindow (s : State) : State := { s with clock := { s.clock with ticked := false } }

/-- The open window counts as deviating by more than 200 ppm: the deviation measured in it is greater, or no crystal
second was completed in it (03 R40). -/
def badWindow (deviation : Nat) (s : State) : Bool := !s.clock.ticked || decide (200 < deviation)

/-! ## Fuses and defaults (08 R145, 11 R169) -/

/-- A word as used: none when uncorrectable. -/
def FuseWord.used {α : Type} (w : FuseWord α) : Option α := if w.condition = .uncorrectable then none else some w.value

/-- The range of a setting, by its name value 1 to 11 (08 Table 8.4). -/
def settingRange : Nat → Nat × Nat
  | 1 => (0, 3600) | 2 => (0, 600) | 3 => (0, 3600) | 4 => (0, 14400) | 5 => (1, 15) | 6 => (60, 3600)
  | 7 => (4, 11) | 8 => (1, 10) | 9 => (1, 1000) | 10 => (600, 86400) | 11 => (0, 43200) | _ => (0, 0)

/-- A value brought into its setting's range; TEST_INTERVAL keeps 0 (08 R146). -/
def clampSetting (name v : Nat) : Nat :=
  if name = 10 ∧ v = 0 then 0 else max (settingRange name).1 (min (settingRange name).2 v)

/-- Read a setting by its name value (12 Table 12.7). -/
def Settings.get (t : Settings) : Nat → Nat
  | 1 => t.prep | 2 => t.late | 3 => t.overrun | 4 => t.tail | 5 => t.openBurst | 6 => t.openRefill
  | 7 => t.holdHigh | 8 => t.holdLow | 9 => t.holdTime | 10 => t.testInterval | 11 => t.purgeDelay | _ => 0

/-- Write a setting by its name value. -/
def Settings.put (t : Settings) (name v : Nat) : Settings :=
  match name with
  | 1 => { t with prep := v } | 2 => { t with late := v } | 3 => { t with overrun := v } | 4 => { t with tail := v }
  | 5 => { t with openBurst := v } | 6 => { t with openRefill := v } | 7 => { t with holdHigh := v }
  | 8 => { t with holdLow := v } | 9 => { t with holdTime := v } | 10 => { t with testInterval := v }
  | 11 => { t with purgeDelay := v } | _ => t

/-- HOLD_LOW kept below HOLD_HIGH (08 R145, R146). -/
def Settings.ordered (t : Settings) : Settings :=
  if t.holdHigh ≤ t.holdLow then { t with holdLow := t.holdHigh - 1 } else t

/-- The default of one setting: its fuse word clamped into range, or the hard default (08 R145). -/
def defaultOf (w : FuseWords) (name : Nat) : Nat :=
  match w.defaults[name - 1]? with
  | some d => clampSetting name ((d.used.map fun v => v.toNat).getD (hardDefaults.get name))
  | none => hardDefaults.get name

/-- The default settings (08 R145). -/
def fuseDefaults (w : FuseWords) : Settings :=
  Settings.ordered
    { prep := defaultOf w 1, late := defaultOf w 2, overrun := defaultOf w 3, tail := defaultOf w 4,
      openBurst := defaultOf w 5, openRefill := defaultOf w 6, holdHigh := defaultOf w 7, holdLow := defaultOf w 8,
      holdTime := defaultOf w 9, testInterval := defaultOf w 10, purgeDelay := defaultOf w 11 }

/-- The condition of every fuse word. -/
def fuseConditions (w : FuseWords) : List FuseCondition :=
  [w.siteSecret.condition, w.modeKey.condition, w.ownAddr.condition, w.bootAddr.condition, w.factoryFloor.condition,
   w.trimBudget] ++ w.defaults.map (fun d => d.condition) ++ [w.attnDefaults, w.serial.condition]

/-- Whether any of the conditions is uncorrectable, for each row of 11 Table 11.1. -/
def uncorrectableRows (w : FuseWords) : List Bool :=
  [w.siteSecret.condition == .uncorrectable, w.modeKey.condition == .uncorrectable,
   w.ownAddr.condition == .uncorrectable, w.bootAddr.condition == .uncorrectable,
   w.factoryFloor.condition == .uncorrectable, w.trimBudget == .uncorrectable,
   w.defaults.any (fun d => d.condition == .uncorrectable), w.attnDefaults == .uncorrectable,
   w.serial.condition == .uncorrectable]

/-- One bit per row, bit 0 for the first (12 Table 12.9). -/
def rowMask (rows : List Bool) : Nat := rows.foldr (fun b n => 2 * n + (if b then 1 else 0)) 0

/-- What FUSE_LOAD holds until the next start-up (11 R169, Table 11.1). -/
def loadFuses (w : FuseWords) : FuseHeld where
  siteSecret := w.siteSecret.used
  modeKey := w.modeKey.used
  ownAddr := w.ownAddr.used
  bootAddr := w.bootAddr.used
  factoryFloor := (w.factoryFloor.used.map fun v => v.toNat).getD 0
  defaults := fuseDefaults w
  serial := w.serial.used.getD 0
  corrected := (fuseConditions w).count .corrected
  uncorrectable := BitVec.ofNat 16 (rowMask (uncorrectableRows w))

/-- The refill value of the trim budget: 360 on every part (03 R42). -/
def fullBudget : Nat := 360

/-! ## The beginning of a start-up (11 R172, Table 11.3) -/

/-- Every volatile state of the part at its starting value, but for the mismatch count (11 R172). Drift run count and
fuse findings take theirs in FUSE_LOAD (03 R41, 11 R169), tokens in RETAINED_CHECK (11 R171). DESIGN CHOICE (log 32): the
recorded start cause, to which 11 R174 and Table 11.3 give no value until a start-up ends, keeps the former one. -/
def clearVolatile (s : State) : State :=
  { s with
    link := { up := s.link.up, arriving := none, stored := [], hold := .idle, holdTimer := none, pendingHold := none,
              answers := [], sending := none, good := 0, stranger := 0, overrun := 0, bad := 0 }
    stations := { s.stations with keyHolder := none }
    clock := { s.clock with uptime := 0, ticked := false }
    deadlines := []
    store := { s.store with staging := [] }
    openQueue := { waiting := [], due := [] }
    arbiter := { passOver := 0, testDue := false, lastKat := 0, selfTest := none }
    engine := { faulted := false, job := none, held := none }
    grants := { slots := s.grants.slots.map fun _ => none, gens := s.grants.gens.map fun _ => 0, expireList := [] }
    attention := clearNotices s.attention
    control := { s.control with service := .starting, sealing := false } }

/-- Operation ends and no phase runs: without main power, or while RST_N is low (11 R174). -/
def haltPart (s : State) : State :=
  let t := clearVolatile s
  { t with control := { t.control with phase := .halted } }

/-- A start-up with a cause is about to run from its first phase (11 R172). The mismatch count is kept by RESTART
and set to 0 by any other cause (08 R143, 11 R174). -/
def beginStartUp (cause : StartCause) (s : State) : State :=
  let t := clearVolatile s
  { t with
    stations := { t.stations with mismatch := if cause = .restart then t.stations.mismatch else 0 }
    control := { t.control with phase := .begin, beganBy := cause } }

end Sys2Proof.Machine
end

