-- ==== Sys2Proof/Machine/Opens.lean ====
section
/-! DEFINITION. Opens: OPEN admission, the Open Queue's answers and wait limit, the work at selection (05, 02 section 2.5). -/

namespace Sys2Proof.Machine

/-! ## OPEN admission (05 R67-R69) -/

/-- Grant records and WAITING requests of a station (05 R68 check 7, 06 R91). -/
def stationLoad (slot : Nat) (s : State) : Nat :=
  ((listUsed s.grants.slots).filter fun p => p.2.station == slot).length +
    (s.openQueue.waiting.filter fun w => w.station == slot).length

/-- The planned start of an OPEN body. -/
def openPlanned (body : List Byte) : Nat := num body 16 4

/-- Checks 1 to 8 of 05 Table 5.2, after the SEALED check. -/
def openChecks (who : Sender) (f : Frame) (s : State) : List (Bool × Reply) :=
  [ sealedCheck s,
    roleCheck who [.screen],
    (s.stations.mode == .service, refuse .mode),
    (s.engine.faulted, refuse .engineFault),
    (s.clock.timeState == .lost, refuse .noTime),
    formCheck (openForm f.body),
    suspendedCheck who,
    (decide (2 ≤ stationLoad (who.slot.getD 0) s), refuse .screenLimit),
    ((effectiveStart (openPlanned f.body) s.now s.stations.settings.prep s.stations.settings.late).isNone,
      refuse .tooEarly) ]

/-- The request as the Open Queue records it (05 Table 5.3). -/
def openReqOf (slot : Nat) (f : Frame) (s : State) : OpenReq where
  station := slot
  who := { addr := f.src, tag := f.tag }
  feature := str 128 f.body 0
  tracks := openTracks f.body
  planned := openPlanned f.body
  runtime := clampRuntime (num f.body 20 4)
  arrival := s.clock.uptime

/-- A station's tokens and refill mark. -/
def putTokens (slot : Nat) (e : Station) (t : Nat × Option Nat) (s : State) : State :=
  s.setStation slot (some { e with tokens := t.1, mark := t.2 })

/-- Checks 9 and 10 of 05 Table 5.2 and the admission (05 R69): the tokens are brought up to date whatever follows. -/
def admitOpen (slot : Nat) (e : Station) (f : Frame) (s : State) : State :=
  let u := s.clock.uptime
  let fresh := refreshTokens e.tokens e.mark u s.stations.settings.openBurst s.stations.settings.openRefill
  if fresh.1 = 0 then reply f (refuse .rateLimit) (raisePulse Src.rateLimited (putTokens slot e fresh s))
  else if 16 ≤ openPlaces s then reply f (refuse .queueFull) (putTokens slot e fresh s)
  else
    let t := putTokens slot e (spendToken fresh.1 fresh.2 u) s
    { t with openQueue := { t.openQueue with waiting := t.openQueue.waiting ++ [openReqOf slot f s] } }

/-- OPEN (05 R68). -/
def ownOpen : Owner := fun who f s =>
  checked f (openChecks who f s)
    (fun t => match who with
      | .station slot e => admitOpen slot e f t
      | .boot => t) s

/-- OPEN. -/
def execOpenKeys (src : Addr) (tag : Byte) (body : List Byte) (s : State) : Host.Outcome State Fault Refusal :=
  .next (takeRequest .openKeys src tag body ownOpen s)

/-! ## OPEN_ANSWER_DUE and OPEN_WAIT_TIMEOUT (05 R71, R72) -/

/-- The oldest ANSWER_DUE place is answered and vacated (05 R71). -/
def answerOpenDue (s : State) : State :=
  match s.openQueue.due with
  | [] => s
  | d :: t =>
    replyLater d.who .openKeys (refuse d.code) { s with openQueue := { s.openQueue with due := t } }

/-- OPEN_ANSWER_DUE. -/
def execOpenAnswerDue (s : State) : Host.Outcome State Fault Refusal :=
  .next (if canTake s then answerOpenDue s else s)

/-- A WAITING place has waited 30 uptime seconds (05 R72). -/
def timedOut (s : State) (w : OpenReq) : Bool := 30 ≤ s.clock.uptime - w.arrival

/-- The wait limit (05 R72). -/
def timeOutOpens (s : State) : State :=
  if s.openQueue.waiting.any (timedOut s) then
    raisePulse Src.queueTimeout (refuseWaiting (timedOut s) .timeout s)
  else s

/-- OPEN_WAIT_TIMEOUT. -/
def execOpenWaitTimeout (s : State) : Host.Outcome State Fault Refusal :=
  .next (if s.awake then timeOutOpens s else s)

/-! ## Parcel selection (02 R27-R30) -/

/-- Entry `a` is chosen before entry `b` (02 R30): larger Es, then higher ingest sequence. -/
def selectBefore (a b : ParcelEntry) : Bool := b.es < a.es || (a.es == b.es && b.ingestSeq < a.ingestSeq)

/-- The candidate chosen: the first among equals has the lowest index. -/
def chooseEntry : List (Nat × ParcelEntry) → Option (Nat × ParcelEntry)
  | [] => none
  | p :: t => some (t.foldl (fun a b => if selectBefore b.2 a.2 then b else a) p)

/-- The five narrowing steps of 02 Table 2.4 and the choice. -/
def selectParcel (table : List (Option ParcelEntry)) (fingerprint feature : Bytes16) (q : Nat)
    (tracks : List TrackId) : Except Code (Nat × ParcelEntry) :=
  let c1 := (listUsed table).filter fun p => p.2.feature == feature && p.2.screens.contains fingerprint
  let c2 := c1.filter fun p => p.2.holdsKeys
  let c3 := c2.filter fun p => p.2.ss ≤ q
  let c4 := c3.filter fun p => q < p.2.es
  let c5 := c4.filter fun p => tracks.all fun t => p.2.refs.any fun r => r.track == t
  if c1.isEmpty then .error .noParcel
  else if c2.isEmpty then .error .lapsed
  else if c3.isEmpty then .error .notYet
  else if c4.isEmpty then .error .pastWindow
  else match chooseEntry c5 with
    | none => .error .noTrack
    | some p => .ok p

/-- The released key references (02 R29). -/
def releasedRefs (e : ParcelEntry) (tracks : List TrackId) : List KeyRef :=
  if tracks.isEmpty then e.refs else tracks.filterMap fun t => e.refs.find? fun r => r.track == t

/-! ## The work at selection (05 R80) -/

/-- What steps 1 to 5 of 05 Table 5.6 find. -/
structure OpenPlan where
  parcel  : Nat
  refs    : List KeyRef
  wrapKey : Key
  q       : Nat
  x       : Nat
  deriving DecidableEq, Repr

/-- Steps 1 to 5 of 05 Table 5.6, with one reading of booth time. -/
def planOpen (w : OpenReq) (s : State) : Except Code OpenPlan :=
  match s.station w.station with
  | none => .error .suspended
  | some e =>
    if e.state = .suspended then .error .suspended
    else if s.clock.timeState = .lost then .error .noTime
    else match effectiveStart w.planned s.now s.stations.settings.prep s.stations.settings.late with
      | none => .error .tooEarly
      | some q =>
        match selectParcel s.store.table e.fingerprint w.feature q w.tracks with
        | .error c => .error c
        | .ok p =>
          match spanEnd q w.runtime s.stations.settings.overrun s.now p.2.es s.stations.settings.tail with
          | none => .error .windowClosed
          | some x =>
            .ok { parcel := p.1, refs := releasedRefs p.2 w.tracks, wrapKey := e.wrapKey.getD 0, q := q, x := x }

/-- The copy of the store-form keys REWRAP works from (02 R23), in released-track order. -/
def copyKeys (s : State) (refs : List KeyRef) : List (TrackId × Key) :=
  refs.map fun r => (r.track, (slotGet s.store.keys r.slot).getD 0)

/-- Steps 6 and 7 of 05 Table 5.6 in grant slot `g`: the OPENING record, the grant count, the REWRAP job. -/
def startRewrap (g : Nat) (w : OpenReq) (p : OpenPlan) (s : State) : State :=
  let t := countUp p.parcel (s.setGrant g (some
    { state := .opening w.who, station := w.station, parcel := p.parcel, tracks := p.refs.map fun r => r.track,
      q := p.q, r := w.runtime, x := p.x, used := 0 }))
  { t with engine := { t.engine with
      job := some (.rewrap g (s.grants.gens.getD g 0) p.wrapKey (copyKeys s p.refs)) } }

/-- Take WAITING place `i` out of the queue. -/
def removeWaiting (i : Nat) (s : State) : State :=
  { s with openQueue := { s.openQueue with waiting := s.openQueue.waiting.eraseIdx i } }

/-- A place refused at selection passes to ANSWER_DUE with its code (05 R80). -/
def refusePlace (i : Nat) (w : OpenReq) (c : Code) (s : State) : State :=
  let t := removeWaiting i s
  { t with openQueue := { t.openQueue with due := t.openQueue.due ++ [{ who := w.who, code := c }] } }

/-- The work on selected place `i`, which holds `w` (05 R80). The Bool says whether the arbiter is done: after a
refusal it chooses again (05 R77). A free grant slot is always found (06 R91); in a state without one the place stays
WAITING (log 22). -/
def selectOpen (i : Nat) (w : OpenReq) (s : State) : State × Bool :=
  match planOpen w s with
  | .error c => (refusePlace i w c s, false)
  | .ok p =>
    match lowestFree s.grants.slots with
    | some g => (startRewrap g w p (removeWaiting i s), true)
    | none => (s, true)

end Sys2Proof.Machine
end

