-- ==== Sys2Proof/Machine/Engine.lean ====
section
/-! DEFINITION. The Engine Arbiter and the Key Transform Engine: the arbiter's choice, job completions, SELF_TEST, the
postings of REWRAP and SELF_TEST results, the periodic test (05). -/

namespace Sys2Proof.Machine

/-! ## The arbiter's choice (05 R77, R78) -/

/-- What the arbiter chooses. -/
inductive Choice
  | nothing
  | kat (cause : KatCause)
  | verify
  | select (index : Nat) (w : OpenReq)
  deriving DecidableEq, Repr

/-- The rank of a station read from the Station Table at this moment (05 R77). -/
def rankOf (s : State) (slot : Nat) : Nat :=
  match s.station slot with
  | some e => e.rank
  | none => 0

/-- The WAITING place of the station with the highest rank, the oldest of its places (05 R77 step 3). -/
def pickWaiting (s : State) : Option (Nat × OpenReq) :=
  match s.openQueue.waiting.zipIdx with
  | [] => none
  | p :: t =>
    let best := t.foldl (fun a b => if rankOf s a.1.station < rankOf s b.1.station then b else a) p
    some (best.2, best.1)

/-- The five steps of 05 R77 while the engine is READY in OPERATING. -/
def chooseReady (s : State) : Choice :=
  match s.arbiter.selfTest with
  | some who => .kat (.selfTest who)
  | none =>
    if headWaiting s && s.arbiter.passOver == 4 then .verify
    else match pickWaiting s with
      | some p => .select p.1 p.2
      | none =>
        if s.arbiter.testDue then .kat .periodic
        else if headWaiting s then .verify
        else .nothing

/-- The choice in the state as it stands: in STARTING only the start-up KAT of the ENGINE_TEST phase (05 R87), in SEALED
nothing (11 R173), in FAULT only a waiting SELF_TEST with no answer held (05 R77, R85). -/
def choose (s : State) : Choice :=
  if s.engine.job.isSome || s.engine.held.isSome then .nothing
  else match s.control.service with
    | .starting => if s.control.phase = .engineTest ∧ !s.engine.faulted then .kat .startUp else .nothing
    | .sealedOff => .nothing
    | .operating =>
      if s.engine.faulted then
        match s.arbiter.selfTest with
        | some who => .kat (.selfTest who)
        | none => .nothing
      else chooseReady s

/-- Start a KAT; a SELF_TEST stops waiting. -/
def startKat (cause : KatCause) (s : State) : State :=
  { s with
    engine := { s.engine with job := some (.kat cause) }
    arbiter := { s.arbiter with selfTest := match cause with | .selfTest _ => none | _ => s.arbiter.selfTest } }

/-- Start the VERIFY of the head (01 R7, 05 R78). -/
def startVerify (s : State) : State :=
  setPassOver 0
    { s with
      engine := { s.engine with job := some .verify }
      store := { s.store with staging := match s.store.staging with
        | h :: t => { h with phase := .verifying false } :: t
        | [] => [] } }

/-- An open selected while the head staging place is WAITING (05 R78). -/
def countPassOver (s : State) : State :=
  if headWaiting s then setPassOver (s.arbiter.passOver + 1) s else s

/-- The arbiter chooses, and chooses again at once after a selection that refused (05 R77); each refusal takes one
WAITING place out, so one more than their number is enough. DESIGN CHOICE (log 30): several places refused here enter
ANSWER_DUE one after another, in the order of their selections, and are answered in that order (05 R71). -/
def arbitrate : Nat → State → State
  | 0, s => s
  | fuel + 1, s =>
    match choose s with
    | .nothing => s
    | .kat cause => startKat cause s
    | .verify => startVerify s
    | .select i w =>
      let r := selectOpen i w (countPassOver s)
      if r.2 then r.1 else arbitrate fuel r.1

/-- ENGINE_ARBITER_CHOICE. -/
def execEngineArbiterChoice (s : State) : Host.Outcome State Fault Refusal :=
  .next (arbitrate (s.openQueue.waiting.length + 1) s)

/-! ## Completions (05 R75, R76, R84, R86) -/

/-- A completed KAT: last KAT time, due flag, job gone (05 R75). -/
def endKat (s : State) : State :=
  { s with
    engine := { s.engine with job := none }
    arbiter := { s.arbiter with lastKat := s.clock.uptime, testDue := false } }

/-- FAULT is left (05 R86). -/
def leaveFault (s : State) : State :=
  clearLevel Src.engineFault { s with engine := { s.engine with faulted := false } }

/-- Hold a result. -/
def holdResult (h : Held) (s : State) : State := { s with engine := { s.engine with held := some h } }

/-- A KAT completes (05 R75, R84, R86, R87). After the start-up KAT the CLOCK_CHECK phase and its window begin. -/
def completeKat (pass : Bool) (s : State) : State :=
  match s.engine.job with
  | some (.kat cause) =>
    let t := endKat s
    match cause with
    | .periodic => if pass then t else enterFault t
    | .selfTest who =>
      raisePulse Src.selfTestDone
        (if pass then holdResult (.selfTestOk who) (leaveFault t)
         else holdResult (.selfTestFailed who) (enterFault t))
    | .startUp =>
      let u := openWindow (if pass then t else enterFault t)
      { u with control := { u.control with phase := .clockCheck, sealing := u.control.sealing || !pass } }
  | _ => s

/-- KAT_COMPLETE. -/
def execKatComplete (pass : Bool) (s : State) : Host.Outcome State Fault Refusal := .next (completeKat pass s)

/-- A REWRAP completes with the wrapped keys, in released-track order (05 R76); the engine keeps its copy of the
store-form keys beside them (02 R23). -/
def completeRewrap (s : State) : State :=
  match s.engine.job with
  | some (.rewrap g gen wk ks) =>
    { s with engine := { s.engine with
        job := none, held := some (.rewrapped g gen ks (ks.map fun p => (p.1, Config.wrapped wk p.2))) } }
  | _ => s

/-- REWRAP_COMPLETE. -/
def execRewrapComplete (s : State) : Host.Outcome State Fault Refusal := .next (completeRewrap s)

/-! ## REWRAP_POSTING (05 R82, R83) -/

/-- The posting checks of 05 Table 5.7, in order. -/
def rewrapRefusal (r : Grant) (s : State) : Option Code :=
  let entryState := (s.entry r.parcel).map fun e => e.state
  if (s.station r.station).map (fun e => e.state) ≠ some .enrolled then some .suspended
  else if s.clock.timeState = .lost then some .noTime
  else if entryState = some .withdrawn ∨ entryState = none then some .withdrawn
  else if entryState = some .lapsed then some .lapsed
  else if r.x ≤ s.now then some .expired
  else none

/-- The GRANTED detail (12 Table 12.5). -/
def grantedDetail (g : Nat) (r : Grant) (ks : List (TrackId × WrappedKey)) (s : State) : List Byte :=
  (handleOf s g).bytes ++ beBytes 4 r.q ++ beBytes 4 r.x ++ beBytes 4 r.r ++ [byte1 r.parcel, byte1 ks.length] ++
    ks.flatMap fun p => strBytes p.1 ++ strBytes p.2

/-- The grant is committed (05 R83): OPEN, its SPAN_END inserted, GRANT_OPENED raised. -/
def commitGrant (g : Nat) (r : Grant) (s : State) : State :=
  raisePulse Src.grantOpened
    (addDeadline { due := r.x, kind := .spanEnd, ref := g }
      (s.setGrant g (some { r with state := .opened, used := 0 })))

/-- A held REWRAP result is posted, and the engine's copy of the keys is destroyed with it (05 R82). A result whose
OPENING record is gone is discarded without an answer (02 R23). -/
def postRewrap (s : State) : State :=
  match s.engine.held with
  | some (.rewrapped g gen _ ks) =>
    let t := { s with engine := { s.engine with held := none } }
    match s.grant g with
    | some r =>
      match r.state with
      | .opening who =>
        if s.grants.gens.getD g 0 = gen then
          match rewrapRefusal r s with
          | some c => replyLater who .openKeys (refuse c) (freeGrant g t)
          | none => replyLater who .openKeys { code := .granted, detail := grantedDetail g r ks s } (commitGrant g r t)
        else t
      | _ => t
    | none => t
  | _ => s

/-- REWRAP_POSTING: when the answer queue has a free place (05 R81). -/
def execRewrapPosting (s : State) : Host.Outcome State Fault Refusal :=
  .next (if canTake s then postRewrap s else s)

/-! ## SELF_TEST (05 R85, R86) -/

/-- A SELF_TEST is waiting, its KAT in flight, or its answer held (05 R85). -/
def selfTestBusy (s : State) : Bool :=
  s.arbiter.selfTest.isSome ||
    (match s.engine.job with | some (.kat (.selfTest _)) => true | _ => false) ||
    (match s.engine.held with | some (.selfTestOk _) => true | some (.selfTestFailed _) => true | _ => false)

/-- Checks of 05 R85. -/
def selfTestChecks (who : Sender) (f : Frame) (s : State) : List (Bool × Reply) :=
  [ sealedCheck s,
    roleCheck who [.programming],
    suspendedCheck who,
    serviceOnly s,
    formCheck (lengthIs 0 f.body),
    (selfTestBusy s, refuse .busy) ]

/-- SELF_TEST is recorded as waiting (05 R85). -/
def ownSelfTest : Owner := fun who f s =>
  checked f (selfTestChecks who f s)
    (fun t => { t with arbiter := { t.arbiter with selfTest := some { addr := f.src, tag := f.tag } } }) s

/-- SELF_TEST. -/
def execSelfTest (src : Addr) (tag : Byte) (body : List Byte) (s : State) : Host.Outcome State Fault Refusal :=
  .next (takeRequest .selfTest src tag body ownSelfTest s)

/-- The held SELF_TEST answer is placed (05 R86). -/
def postSelfTest (s : State) : State :=
  match s.engine.held with
  | some (.selfTestOk who) =>
    replyLater who .selfTest (refuse .ok) { s with engine := { s.engine with held := none } }
  | some (.selfTestFailed who) =>
    replyLater who .selfTest (refuse .failed) { s with engine := { s.engine with held := none } }
  | _ => s

/-- SELF_TEST_POSTING. -/
def execSelfTestPosting (s : State) : Host.Outcome State Fault Refusal :=
  .next (if canTake s then postSelfTest s else s)

/-! ## The periodic test (05 R79) -/

/-- The arbiter examines TEST_INTERVAL at an uptime second (05 R79). -/
def examineTestInterval (s : State) : State :=
  let iv := s.stations.settings.testInterval
  if iv = 0 then { s with arbiter := { s.arbiter with testDue := false } }
  else if s.arbiter.lastKat + iv ≤ s.clock.uptime then { s with arbiter := { s.arbiter with testDue := true } }
  else s

/-- PERIODIC_TEST_DUE. -/
def execPeriodicTestDue (s : State) : Host.Outcome State Fault Refusal :=
  .next (if s.awake then examineTestInterval s else s)

end Sys2Proof.Machine
end

