-- ==== Sys2Proof/Machine/Grants.lean ====
section
/-! DEFINITION. Grants: CLOSE, EXTEND, GRANT_LIST (06, 04 section 4.7). -/

namespace Sys2Proof.Machine

/-- The record a handle names for a station (06 R96): same generation, held by the station, OPEN or EXPIRING. -/
def namedGrant (who : Sender) (h : Handle) (s : State) : Option Grant :=
  match s.grant h.slot with
  | none => none
  | some r =>
    match r.state with
    | .opening _ => none
    | _ => if s.grants.gens.getD h.slot 0 = h.gen ∧ who.slot = some r.station then some r else none

/-- The detail of an EXPIRED answer to CLOSE or EXTEND (12 Table 12.4). -/
def expiredReply (h : Handle) (why : Reason) (r : Grant) : Reply where
  code := .expired
  detail := h.bytes ++ [why.value] ++ beBytes 4 r.x

/-! ## CLOSE (06 R95-R98) -/

/-- Checks of 06 R95. -/
def closeChecks (who : Sender) (f : Frame) (s : State) : List (Bool × Reply) :=
  [ sealedCheck s,
    roleCheck who [.screen],
    suspendedCheck who,
    formCheck (lengthIs 2 f.body),
    ((namedGrant who (handleAt f.body 0) s).isNone, refuse .unknownGrant) ]

/-- The answer to a CLOSE of a record (06 R97, R98). -/
def closeReply (h : Handle) (r : Grant) : Reply :=
  match r.state with
  | .expiring why => expiredReply h why r
  | _ => { code := .ok, detail := h.bytes ++ beBytes 4 r.x }

/-- The record is freed and the CLOSE answered (06 R97, R98). -/
def closeGrant (who : Sender) (f : Frame) (s : State) : State :=
  let h := handleAt f.body 0
  match namedGrant who h s with
  | none => s
  | some r => reply f (closeReply h r) (freeGrant h.slot s)

/-- CLOSE (06 R95). -/
def ownClose : Owner := fun who f s => checked f (closeChecks who f s) (closeGrant who f) s

/-- CLOSE. -/
def execClose (src : Addr) (tag : Byte) (body : List Byte) (s : State) : Host.Outcome State Fault Refusal :=
  .next (takeRequest .close src tag body ownClose s)

/-! ## EXTEND (06 R106, R107) -/

/-- The EXPIRED check of 06 R106: it carries the record's reason and X. -/
def extendExpired (h : Handle) (r : Option Grant) : Bool × Reply :=
  match r with
  | some g =>
    match g.state with
    | .expiring why => (true, expiredReply h why g)
    | _ => (false, refuse .expired)
  | none => (false, refuse .expired)

/-- The record's parcel entry is WITHDRAWN. -/
def parcelWithdrawn (r : Option Grant) (s : State) : Bool :=
  match r with
  | some g => (s.entry g.parcel).map (fun e => e.state) == some .withdrawn
  | none => false

/-- Checks of 06 R106. -/
def extendChecks (who : Sender) (f : Frame) (s : State) : List (Bool × Reply) :=
  let h := handleAt f.body 0
  [ sealedCheck s,
    roleCheck who [.screen],
    suspendedCheck who,
    formCheck (lengthIs 6 f.body),
    ((namedGrant who h s).isNone, refuse .unknownGrant),
    extendExpired h (namedGrant who h s),
    (parcelWithdrawn (namedGrant who h s) s, refuse .withdrawn) ]

/-- The span end an EXTEND of `requested` seconds gives (04 R61, R62). -/
def extendTo (r : Grant) (requested : Nat) (s : State) : Nat :=
  match s.entry r.parcel with
  | some e => extendedEnd r.x (allowedAddition requested r.used) e.es s.stations.settings.tail
  | none => r.x

/-- Move a record's span end and its deadline (04 R62, 07 R113). -/
def moveSpanEnd (g : Nat) (r : Grant) (x : Nat) (s : State) : State :=
  addDeadline { due := x, kind := .spanEnd, ref := g }
    (dropSpanEnd g (s.setGrant g (some { r with x := x, used := r.used + (x - r.x) })))

/-- The EXTEND carried out (06 R107). -/
def extendGrant (who : Sender) (f : Frame) (s : State) : State :=
  let h := handleAt f.body 0
  match namedGrant who h s with
  | none => s
  | some r =>
    let requested := num f.body 2 4
    let x := extendTo r requested s
    if r.x < x then
      reply f
        { code := if x - r.x = requested then .ok else .clamped,
          detail := h.bytes ++ beBytes 4 x ++ beBytes 2 (x - r.x) ++ beBytes 2 (r.used + (x - r.x)) }
        (moveSpanEnd h.slot r x s)
    else reply f { code := .clamped, detail := h.bytes ++ beBytes 4 r.x ++ beBytes 2 0 ++ beBytes 2 r.used } s

/-- EXTEND (06 R106). -/
def ownExtend : Owner := fun who f s => checked f (extendChecks who f s) (extendGrant who f) s

/-- EXTEND. -/
def execExtend (src : Addr) (tag : Byte) (body : List Byte) (s : State) : Host.Outcome State Fault Refusal :=
  .next (takeRequest .extend src tag body ownExtend s)

/-! ## GRANT_LIST (06 R108, R109) -/

/-- Checks of 06 R108, in the order 08 R133 gives. -/
def grantListChecks (who : Sender) (f : Frame) (s : State) : List (Bool × Reply) :=
  [ sealedCheck s, suspendedCheck who, formCheck (lengthIs 0 f.body) ]

/-- The records listed: a screen's own, or all (06 R109). -/
def listedGrants (who : Sender) (s : State) : List (Nat × Grant) :=
  (listUsed s.grants.slots).filter fun p => who.role != .screen || who.slot == some p.2.station

/-- The 21-byte summary of a record (12 Table 12.9). -/
def grantSummary (s : State) (p : Nat × Grant) : List Byte :=
  (handleOf s p.1).bytes ++ [p.2.state.value, byte1 p.2.station, byte1 p.2.parcel, byte1 p.2.tracks.length] ++
    beBytes 4 p.2.q ++ beBytes 4 p.2.r ++ beBytes 4 p.2.x ++ beBytes 2 p.2.used ++
    [match p.2.state with | .expiring why => why.value | _ => 0]

/-- The GRANT_LIST detail (06 R109). -/
def grantListDetail (who : Sender) (s : State) : List Byte :=
  beBytes 4 s.now ++ [byte1 (listedGrants who s).length] ++ (listedGrants who s).flatMap (grantSummary s)

/-- GRANT_LIST (06 R109). -/
def ownGrantList : Owner := fun who f s =>
  checked f (grantListChecks who f s) (fun t => reply f { code := .ok, detail := grantListDetail who t } t) s

/-- GRANT_LIST. -/
def execGrantList (src : Addr) (tag : Byte) (body : List Byte) (s : State) : Host.Outcome State Fault Refusal :=
  .next (takeRequest .grantList src tag body ownGrantList s)

end Sys2Proof.Machine
end

