-- ==== Sys2Proof/Machine/LinkPort.lean ====
section
/-! DEFINITION. The Link Port: arriving frames, the repeat timer, the transmitter, the link's state, STATUS (09). -/

namespace Sys2Proof.Machine

/-! ## The receive side (09 R149, R150) -/

/-- The destination filter (09 R149); with an uncorrectable own address only 0xFFFE passes (11 R169). -/
def destinationMine (dst : Addr) (s : State) : Bool := s.fuses.held.ownAddr == some dst || dst == 0xFFFE

/-- The three decisions on a complete address header (09 R149). -/
def judgeHeader (dst src : Addr) (s : State) : State :=
  if !destinationMine dst s then s
  else if (matchSource s src).isNone then discardStranger s
  else if 12 ≤ occupancy s then
    raisePulse Src.overrun { s with link := { s.link with overrun := satAdd s.link.overrun 1 } }
  else occupancyRose { s with link := { s.link with arriving := some { dst := dst, src := src } } }

/-- FRAME_HEADER: out of STARTING, with the link up, while no other frame holds the arriving slot (log 16). -/
def execFrameHeader (dst src : Addr) (s : State) : Host.Outcome State Fault Refusal :=
  .next (if s.awake && s.link.up && s.link.arriving.isNone then judgeHeader dst src s else s)

/-- The end of the frame that holds the arriving slot (09 R150). -/
def endFrame (h : Header) (rest : List Byte) (s : State) : State :=
  let bytes := wholeFrame h rest
  let t := { s with link := { s.link with arriving := none } }
  if frameGood bytes then
    { t with link := { t.link with
        stored := t.link.stored ++ [storedFrame h bytes], good := satAdd t.link.good 1 } }
  else
    occupancyFell (raisePulse Src.badFrame { t with link := { t.link with bad := satAdd t.link.bad 1 } })

/-- FRAME_END. -/
def execFrameEnd (rest : List Byte) (s : State) : Host.Outcome State Fault Refusal :=
  .next (match s.link.arriving with
    | some h => if s.awake then endFrame h rest s else s
    | none => s)

/-- HOLD_REPEAT_TIMER (09 R156, R157). -/
def execHoldRepeatTimer (s : State) : Host.Outcome State Fault Refusal :=
  .next (if s.awake && s.link.hold == .holding then
      if s.stations.settings.holdLow ≤ occupancy s then armHold s else releaseHold s
    else s)

/-! ## The transmit side (09 R154, R155) -/

/-- The transmit arbiter may choose: the link is up and the transmitter is not sending. -/
def canSend (s : State) : Bool := s.awake && s.link.up && s.link.sending.isNone

/-- The transmitter takes a frame and sends it whole, from the part's own address. -/
def startSending (dst : Addr) (kind tag : Byte) (body : List Byte) (s : State) : State :=
  { s with link := { s.link with
      sending := some { dst := dst, src := s.ownAddr, kind := kind, tag := tag, body := body } } }

/-- The pending HOLD value is taken (09 R154): to 0xFFFF, tag 0, and no value is pending after it. -/
def sendHoldValue (v : Nat) (s : State) : State :=
  startSending 0xFFFF holdKind 0 (beBytes 2 v) { s with link := { s.link with pendingHold := none } }

/-- SEND_HOLD. -/
def execSendHold (s : State) : Host.Outcome State Fault Refusal :=
  .next (match s.link.pendingHold with
    | some v => if canSend s then sendHoldValue v s else s
    | none => s)

/-- The reason an EXPIRE frame carries. -/
def expiryReason (r : Grant) : Reason :=
  match r.state with
  | .expiring why => why
  | _ => .span

/-- The EXPIRE body (12 Table 12.6). -/
def expireBody (g : Nat) (r : Grant) (s : State) : List Byte :=
  (handleOf s g).bytes ++ [(expiryReason r).value] ++ beBytes 4 r.x ++ beBytes 4 s.now

/-- The base address of a station (06 R105). -/
def baseOf (slot : Nat) (s : State) : Addr :=
  match s.station slot with
  | some e => e.base
  | none => 0

/-- The EXPIRE frame of the record in slot `g` is taken and the record freed (06 R105). -/
def sendExpireFor (g : Nat) (s : State) : State :=
  match s.grant g with
  | some r => freeGrant g (startSending (baseOf r.station s) expireKind 0 (expireBody g r s) s)
  | none => s

/-- SEND_EXPIRE: with no HOLD value pending. -/
def execSendExpire (s : State) : Host.Outcome State Fault Refusal :=
  .next (match s.grants.expireList with
    | g :: _ => if canSend s && s.link.pendingHold.isNone then sendExpireFor g s else s
    | [] => s)

/-- The ANSWER body (12 R178). -/
def Answer.body (a : Answer) : List Byte := [a.code.value, a.kind] ++ a.detail

/-- SEND_ANSWER: with no HOLD value pending and the expire list empty; the place is freed at the take (09 R153, R154). -/
def execSendAnswer (s : State) : Host.Outcome State Fault Refusal :=
  .next (match s.link.answers with
    | a :: t =>
      if canSend s && s.link.pendingHold.isNone && s.grants.expireList.isEmpty then
        startSending a.dst answerKind a.tag a.body { s with link := { s.link with answers := t } }
      else s
    | [] => s)

/-- The NOTICE body (12 Table 12.6). -/
def noticeBody (n : Nat) (s : State) : List Byte :=
  [byte1 n, byte1 (s.source n).level, flagByte (s.source n).status] ++ beBytes 4 s.now

/-- SEND_NOTICE: fourth in the arbiter's order (09 R154, 10 R165). -/
def execSendNotice (s : State) : Host.Outcome State Fault Refusal :=
  .next (match firstPending s.attention with
    | some n =>
      if canSend s && s.link.pendingHold.isNone && s.grants.expireList.isEmpty && s.link.answers.isEmpty then
        startSending 0xFFFD noticeKind 0 (noticeBody n s) (s.modSource n fun c => { c with pending := false })
      else s
    | none => s)

/-- The frame is the OK answer of a RESTART. -/
def isRestartOk (f : TxFrame) : Bool := f.kind == answerKind && f.body.take 2 == [Code.ok.value, Kind.restart.value]

/-- The frame being sent has left the port (09 R154). When it is the OK answer of a RESTART, start-up begins with cause
RESTART (11 R175). -/
def finishSending (f : TxFrame) (s : State) : State :=
  let t := { s with link := { s.link with sending := none } }
  if isRestartOk f then beginStartUp .restart t else t

/-- TRANSMIT_FRAME_END: a frame taken before the link went down is counted as sent all the same (09 R155). -/
def execTransmitFrameEnd (s : State) : Host.Outcome State Fault Refusal :=
  .next (match s.link.sending with
    | some f => if s.awake then finishSending f s else s
    | none => s)

/-- LINK_DOWN (09 R155). -/
def execLinkDown (s : State) : Host.Outcome State Fault Refusal :=
  .next { s with link := { s.link with up := false } }

/-- LINK_UP (09 R155). -/
def execLinkUp (s : State) : Host.Outcome State Fault Refusal :=
  .next { s with link := { s.link with up := true } }

/-! ## STATUS (09 R159) -/

/-- The STATUS detail: 36 bytes (09 Table 9.3, 12 Table 12.9). -/
def statusDetail (s : State) : List Byte :=
  [s.control.service.value, s.stations.mode.value, s.clock.timeState.value] ++ beBytes 4 s.now ++
    beBytes 4 s.clock.uptime ++ [(engineState s.engine).value, s.control.cause.value, byte1 s.parcelsInUse] ++
    beBytes 2 s.freeKeySlots ++
    [byte1 s.grantCount, byte1 s.openQueue.waiting.length, byte1 s.store.staging.length, s.link.hold.value] ++
    beBytes 4 s.link.good ++ beBytes 4 s.link.stranger ++ beBytes 4 s.link.overrun ++ beBytes 4 s.link.bad

/-- STATUS (09 R159): its only refusal is MALFORMED. -/
def ownStatus : Owner := fun _ f s =>
  checked f [formCheck (lengthIs 0 f.body)] (fun t => reply f { code := .ok, detail := statusDetail t } t) s

/-- STATUS. -/
def execStatus (src : Addr) (tag : Byte) (body : List Byte) (s : State) : Host.Outcome State Fault Refusal :=
  .next (takeRequest .status src tag body ownStatus s)

end Sys2Proof.Machine
end

