-- ==== Sys2Proof/Machine/Modes.lean ====
section
/-! DEFINITION. Modes and settings: MODE_KEY, MODE_CHANGE, ZEROIZE, SETTING_WRITE, SETTING_READ (08 sections 8.6, 8.7). -/

namespace Sys2Proof.Machine

/-! ## MODE_KEY (08 R142) -/

/-- Checks of 08 R142. -/
def modeKeyChecks (who : Sender) (f : Frame) (s : State) : List (Bool × Reply) :=
  [ sealedCheck s, roleCheck who [.programming], suspendedCheck who, formCheck (lengthIs 16 f.body) ]

/-- What the mode-key holder holds. -/
def setHolder (k : Option Bytes16) (s : State) : State := { s with stations := { s.stations with keyHolder := k } }

/-- MODE_KEY (08 R142). -/
def ownModeKey : Owner := fun who f s =>
  checked f (modeKeyChecks who f s) (fun t => reply f (refuse .ok) (setHolder (some (str 128 f.body 0)) t)) s

/-- MODE_KEY. -/
def execModeKey (src : Addr) (tag : Byte) (body : List Byte) (s : State) : Host.Outcome State Fault Refusal :=
  .next (takeRequest .modeKey src tag body ownModeKey s)

/-! ## MODE_CHANGE (08 R143) -/

/-- The target mode of a body. -/
def targetMode (body : List Byte) : Option Mode := modeOf (body.getD 0 0)

/-- Checks of 08 R143. -/
def modeChangeChecks (who : Sender) (f : Frame) (s : State) : List (Bool × Reply) :=
  [ sealedCheck s,
    roleCheck who [.programming],
    suspendedCheck who,
    formCheck (lengthThen 1 f.body (targetMode f.body).isSome) ]

/-- The mismatch count. -/
def setMismatch (n : Nat) (s : State) : State := { s with stations := { s.stations with mismatch := n } }

/-- The mode, with MODE_CHANGED raised (08 R143). -/
def changeMode (m : Mode) (s : State) : State :=
  raisePulse Src.modeChanged { s with stations := { s.stations with mode := m } }

/-- The holder matches the fuse mode key; an empty holder is a mismatch (08 R143). -/
def keyMatches (s : State) : Bool := s.stations.keyHolder.isSome && s.stations.keyHolder == s.fuses.held.modeKey

/-- Step 3 of 08 R143, after a match: what the target gives, with its code. -/
def enterMode (target : Mode) (s : State) : State × Code :=
  if target = s.stations.mode then (s, .ok)
  else match target with
    | .service =>
      if s.grantCount ≠ 0 then (s, .grantsOpen)
      else (changeMode .service (refuseWaiting (fun _ => true) .mode s), .ok)
    | .showing =>
      if s.clock.timeState = .lost then (s, .noTime)
      else if s.engine.faulted then (s, .engineFault)
      else (changeMode .showing s, .ok)

/-- The three steps of 08 R143. -/
def evaluateModeChange (target : Mode) (s : State) : State × Code :=
  if 4 ≤ s.stations.mismatch then (setHolder none s, .locked)
  else if keyMatches s then enterMode target (setMismatch 0 (setHolder none s))
  else (raisePulse Src.keyMismatch (setMismatch (s.stations.mismatch + 1) (setHolder none s)), .keyMismatch)

/-- MODE_CHANGE past its checks: the answer carries the mode and the mismatch count after it. -/
def modeChangeTo (target : Mode) (f : Frame) (s : State) : State :=
  let t := evaluateModeChange target s
  reply f { code := t.2, detail := [t.1.stations.mode.value, byte1 t.1.stations.mismatch] } t.1

/-- MODE_CHANGE (08 R143). -/
def ownModeChange : Owner := fun who f s =>
  checked f (modeChangeChecks who f s)
    (fun t => match targetMode f.body with
      | some m => modeChangeTo m f t
      | none => t) s

/-- MODE_CHANGE. -/
def execModeChange (src : Addr) (tag : Byte) (body : List Byte) (s : State) : Host.Outcome State Fault Refusal :=
  .next (takeRequest .modeChange src tag body ownModeChange s)

/-! ## ZEROIZE (08 R144) -/

/-- Checks of 08 R144. -/
def zeroizeChecks (who : Sender) (f : Frame) (s : State) : List (Bool × Reply) :=
  [ sealedCheck s, roleCheck who [.programming], suspendedCheck who, serviceOnly s, formCheck (lengthIs 0 f.body) ]

/-- A VERIFY in flight or held is discarded (01 R9, 05 R87). -/
def dropVerify (e : Engine) : Engine where
  faulted := e.faulted
  job := if e.job = some .verify then none else e.job
  held := match e.held with
    | some (.verifyPass _) => none
    | some .verifyFail => none
    | h => h

/-- What ZEROIZE erases (08 R144, 02 R32, 05 R73, R87, 10 R168). -/
def eraseAll (s : State) : State :=
  { s with
    deadlines := []
    store := { s.store with
      table := s.store.table.map fun _ => none, keys := s.store.keys.map fun _ => none, staging := [] }
    openQueue := { waiting := [], due := [] }
    arbiter := { s.arbiter with passOver := 0 }
    engine := dropVerify s.engine
    grants := { s.grants with slots := s.grants.slots.map fun _ => none, expireList := [] }
    stations := { s.stations with
      entries := s.stations.entries.map fun _ => none, settings := s.fuses.held.defaults, keyHolder := none }
    attention := takeAttentionDefaults s.attention }

/-- ZEROIZE (08 R144): the OK answer first, then the erasure. -/
def ownZeroize : Owner := fun who f s =>
  checked f (zeroizeChecks who f s) (fun t => eraseAll (reply f (refuse .ok) t)) s

/-- ZEROIZE. -/
def execZeroize (src : Addr) (tag : Byte) (body : List Byte) (s : State) : Host.Outcome State Fault Refusal :=
  .next (takeRequest .zeroize src tag body ownZeroize s)

/-! ## SETTING_WRITE (08 R146) -/

/-- The setting name of a body (12 Table 12.7). -/
def settingName (body : List Byte) : Nat := num body 0 1

/-- One of the thirteen names. -/
def knownSetting (n : Nat) : Bool := 1 ≤ n && n ≤ 13

/-- Checks of 08 R146. -/
def settingWriteChecks (who : Sender) (f : Frame) (s : State) : List (Bool × Reply) :=
  [ sealedCheck s,
    roleCheck who [.programming],
    suspendedCheck who,
    serviceOnly s,
    formCheck (lengthIs 5 f.body),
    (!knownSetting (settingName f.body), refuse .unknownSetting),
    (decide (12 ≤ settingName f.body), refuse .readOnly) ]

/-- The settings after a write of `v` to setting `n`: stored clamped, then HOLD_LOW kept below HOLD_HIGH (08 R146). -/
def writeSetting (t : Settings) (n v : Nat) : Settings := (t.put n (clampSetting n v)).ordered

/-- HOLD_LOW was adjusted by the write. -/
def holdLowAdjusted (t : Settings) (n v : Nat) : Bool :=
  (t.put n (clampSetting n v)).holdHigh ≤ (t.put n (clampSetting n v)).holdLow

/-- The answer (08 R146): CLAMPED when either adjustment was made; the stored value of the named setting, and the new
HOLD_LOW when it was adjusted. DEDUCED (log 17): also when the write named HOLD_LOW itself. -/
def settingWriteReply (t : Settings) (n v : Nat) : Reply :=
  let t' := writeSetting t n v
  { code := if clampSetting n v = v ∧ !holdLowAdjusted t n v then .ok else .clamped,
    detail := beBytes 4 (t'.get n) ++ [if holdLowAdjusted t n v then byte1 t'.holdLow else 0] }

/-- SETTING_WRITE past its checks. -/
def storeSetting (f : Frame) (s : State) : State :=
  let n := settingName f.body
  let v := num f.body 1 4
  reply f (settingWriteReply s.stations.settings n v)
    { s with stations := { s.stations with settings := writeSetting s.stations.settings n v } }

/-- SETTING_WRITE (08 R146). -/
def ownSettingWrite : Owner := fun who f s => checked f (settingWriteChecks who f s) (storeSetting f) s

/-- SETTING_WRITE. -/
def execSettingWrite (src : Addr) (tag : Byte) (body : List Byte) (s : State) : Host.Outcome State Fault Refusal :=
  .next (takeRequest .settingWrite src tag body ownSettingWrite s)

/-! ## SETTING_READ (08 R147) -/

/-- Checks of 08 R147. -/
def settingReadChecks (who : Sender) (f : Frame) (s : State) : List (Bool × Reply) :=
  [ sealedCheck s,
    roleCheck who [.programming, .monitor],
    suspendedCheck who,
    formCheck (lengthIs 1 f.body),
    (!knownSetting (settingName f.body), refuse .unknownSetting) ]

/-- Seconds left in the trim year (03 R42). -/
def trimYearLeft (s : State) : Nat := 31536000 - s.clock.trimYear

/-- The SETTING_READ detail (12 Table 12.9). -/
def settingReadDetail (n : Nat) (s : State) : List Byte :=
  if n = 12 then beBytes 4 s.clock.trimBudget ++ beBytes 4 (trimYearLeft s)
  else if n = 13 then beBytes 4 s.ownAddr.toNat
  else beBytes 4 (s.stations.settings.get n)

/-- SETTING_READ (08 R147). -/
def ownSettingRead : Owner := fun who f s =>
  checked f (settingReadChecks who f s)
    (fun t => reply f { code := .ok, detail := settingReadDetail (settingName f.body) t } t) s

/-- SETTING_READ. -/
def execSettingRead (src : Addr) (tag : Byte) (body : List Byte) (s : State) : Host.Outcome State Fault Refusal :=
  .next (takeRequest .settingRead src tag body ownSettingRead s)

end Sys2Proof.Machine
end

