-- ==== Sys2Proof/Machine/Notices.lean ====
section
/-! DEFINITION. NOTICE_READ and NOTICE_CONFIG (10 section 10.5). -/

namespace Sys2Proof.Machine

/-! ## NOTICE_READ (10 R166) -/

/-- The clear field is 1 (log 18: read at offset 0 whatever the body's length). -/
def wantsClear (body : List Byte) : Bool := body.head? == some 1

/-- Checks of 10 R166. -/
def noticeReadChecks (who : Sender) (f : Frame) (s : State) : List (Bool × Reply) :=
  [ sealedCheck s,
    (who.role == .screen || (who.role == .monitor && wantsClear f.body), refuse .role),
    suspendedCheck who,
    formCheck (lengthThen 1 f.body (num f.body 0 1 < 2)) ]

/-- The six bytes of a source (12 Table 12.9). -/
def sourceBytes (c : Source) : List Byte :=
  [flagByte c.status, flagByte c.history, flagByte c.pending, flagByte c.enable, flagByte c.mask, byte1 c.level]

/-- The NOTICE_READ detail, before any clearing (10 R166). -/
def noticeReadDetail (s : State) : List Byte :=
  s.attention.sources.flatMap sourceBytes ++ [byte1 s.attention.threshold, flagByte s.attnLow]

/-- NOTICE_READ past its checks. -/
def readNotices (f : Frame) (s : State) : State :=
  let t := reply f { code := .ok, detail := noticeReadDetail s } s
  if wantsClear f.body then { t with attention := clearPulses t.attention } else t

/-- NOTICE_READ (10 R166). -/
def ownNoticeRead : Owner := fun who f s => checked f (noticeReadChecks who f s) (readNotices f) s

/-- NOTICE_READ. -/
def execNoticeRead (src : Addr) (tag : Byte) (body : List Byte) (s : State) : Host.Outcome State Fault Refusal :=
  .next (takeRequest .noticeRead src tag body ownNoticeRead s)

/-! ## NOTICE_CONFIG (10 R167) -/

/-- Checks of 10 R167. -/
def noticeConfigChecks (who : Sender) (f : Frame) (s : State) : List (Bool × Reply) :=
  [ sealedCheck s, roleCheck who [.programming], suspendedCheck who, formCheck (configForm f.body) ]

/-- The level stored for a requested one (10 R167): 1 to 7, and 7 for FAULT. -/
def storedLevel (number level : Nat) : Nat := if number = Src.fault then 7 else max 1 (min 7 level)

/-- A source under its new configuration: disabling it clears its flag (10 R165). -/
def configured (e : ConfigEntry) (c : Source) : Source :=
  { c with enable := e.enable == 1, mask := e.mask == 1, level := storedLevel e.number e.level,
           pending := c.pending && e.enable == 1 }

/-- Every entry stored for its source (10 R167). -/
def applyEntries (es : List ConfigEntry) (sources : List Source) : List Source :=
  es.foldl (fun acc e => acc.modify e.number (configured e)) sources

/-- The flags a threshold write sets (10 R165): every source at level 7, raised and enabled after the request. -/
def flagLevelSeven (sources : List Source) : List Source :=
  sources.map fun c => { c with pending := c.pending || (c.level == 7 && c.status && c.enable) }

/-- The threshold field; 0xFF leaves the threshold unchanged (12 R179). -/
def thresholdField (body : List Byte) : Nat := num body 0 1

/-- The attention state after the request (10 R167). -/
def configureAttention (body : List Byte) (a : Attention) : Attention :=
  let sources := applyEntries (configEntries body) a.sources
  if thresholdField body = 255 then { a with sources := sources }
  else { sources := flagLevelSeven sources, threshold := min 7 (thresholdField body) }

/-- A stored value differs from the value requested (10 R167). -/
def configClamped (body : List Byte) : Bool :=
  (thresholdField body != 255 && 7 < thresholdField body) ||
    (configEntries body).any fun e => storedLevel e.number e.level != e.level

/-- The NOTICE_CONFIG detail (12 Table 12.9). -/
def noticeConfigDetail (a : Attention) : List Byte :=
  [byte1 a.threshold] ++ a.sources.flatMap fun c => [flagByte c.enable, flagByte c.mask, byte1 c.level]

/-- NOTICE_CONFIG past its checks: carried out whole, in one step. -/
def configureNotices (f : Frame) (s : State) : State :=
  let a := configureAttention f.body s.attention
  reply f { code := if configClamped f.body then .clamped else .ok, detail := noticeConfigDetail a }
    { s with attention := a }

/-- NOTICE_CONFIG (10 R167). -/
def ownNoticeConfig : Owner := fun who f s => checked f (noticeConfigChecks who f s) (configureNotices f) s

/-- NOTICE_CONFIG. -/
def execNoticeConfig (src : Addr) (tag : Byte) (body : List Byte) (s : State) : Host.Outcome State Fault Refusal :=
  .next (takeRequest .noticeConfig src tag body ownNoticeConfig s)

end Sys2Proof.Machine
end

