-- ==== Sys2Proof/Machine/Parcels.lean ====
section
/-! DEFINITION. Parcels: PARCEL_LOAD, PARCEL_WITHDRAW, PARCEL_LIST, VERIFY_COMPLETE, VERIFY_POSTING, STAGING_ANSWER_DUE
(01, 02, 07 section 7.6). -/

namespace Sys2Proof.Machine

/-! ## PARCEL_LOAD at arrival (01 R2-R6) -/

/-- The identifier is held by an entry in use or by an occupied staging place, in any state or phase (01 R5). -/
def identifierHeld (id : ParcelId) (s : State) : Bool :=
  (listUsed s.store.table).any (fun p => p.2.id == id) || s.store.staging.any (fun p => p.parcel.id == id)

/-- The arrival checks, in the order of 01 Table 1.2. -/
def loadChecks (who : Sender) (f : Frame) (s : State) : List (Bool × Reply) :=
  [ sealedCheck s,
    roleCheck who [.programming],
    suspendedCheck who,
    (s.engine.faulted, refuse .engineFault),
    (s.clock.timeState == .lost, refuse .noTime),
    formCheck (parcelForm f.body),
    (decide ((parcelOf f.body).winEnd * 60 ≤ s.now), refuse .ended),
    (identifierHeld (parcelOf f.body).id s, refuse .duplicate),
    (decide (2 ≤ s.store.staging.length), refuse .ingestBusy) ]

/-- Stage the parcel behind any occupied place (01 R6). -/
def stageParcel (f : Frame) (s : State) : State :=
  { s with store := { s.store with staging := s.store.staging ++
    [{ parcel := parcelOf f.body, answerTo := f.src, tag := f.tag, phase := .waiting }] } }

/-- PARCEL_LOAD (01 R2). -/
def ownParcelLoad : Owner := fun who f s => checked f (loadChecks who f s) (stageParcel f) s

/-- PARCEL_LOAD. -/
def execParcelLoad (src : Addr) (tag : Byte) (body : List Byte) (s : State) : Host.Outcome State Fault Refusal :=
  .next (takeRequest .parcelLoad src tag body ownParcelLoad s)

/-! ## PARCEL_WITHDRAW (07 R123-R127) -/

/-- Checks of 07 R123. -/
def withdrawChecks (who : Sender) (f : Frame) (s : State) : List (Bool × Reply) :=
  [ sealedCheck s,
    roleCheck who [.programming],
    suspendedCheck who,
    formCheck (lengthThen 9 f.body (num f.body 8 1 < 2)) ]

/-- A staging place in WAITING or VERIFYING that carries the identifier (07 R124). -/
def stagedPlace (id : ParcelId) (s : State) : Option Nat :=
  s.store.staging.findIdx? fun p =>
    p.parcel.id == id && (match p.phase with | .answerDue _ => false | _ => true)

/-- The OK detail: outcome, records made EXPIRING, grant count after (12 Table 12.9). -/
def withdrawDetail (outcome expired count : Nat) : List Byte := [byte1 outcome, byte1 expired, byte1 count]

/-- Withdrawal of staging place `i` (07 R124): STAGED from WAITING, MARKED from VERIFYING. -/
def withdrawStaged (i : Nat) (p : StagingPlace) (f : Frame) (s : State) : State :=
  match p.phase with
  | .waiting =>
    let t := { s with store := { s.store with
      staging := s.store.staging.set i { p with phase := .answerDue .withdrawn } } }
    reply f { code := .ok, detail := withdrawDetail 1 0 0 } (if i = 0 then setPassOver 0 t else t)
  | .verifying _ =>
    reply f { code := .ok, detail := withdrawDetail 2 0 0 }
      { s with store := { s.store with staging := s.store.staging.set i { p with phase := .verifying true } } }
  | .answerDue _ => s

/-- Steps 1 to 4 of 07 R126 on entry `i`. -/
def withdrawEntry (i : Nat) (e : ParcelEntry) (s : State) : State :=
  dropParcelDeadlines i (eraseEntry i (s.setEntry i (some { e with state := .withdrawn, purgeDue := false })))

/-- Withdrawal of table entry `i` (07 R125, R126). -/
def withdrawCommitted (i : Nat) (e : ParcelEntry) (force : Bool) (f : Frame) (s : State) : State :=
  if e.grantCount = 0 then reply f { code := .ok, detail := withdrawDetail 3 0 0 } (freeEntry i s)
  else
    let named : Grant → Bool := fun g => force && g.parcel == i
    let expired := (reached named s).length
    reply f { code := .ok, detail := withdrawDetail 4 expired e.grantCount }
      (forceExpiry named .withdrawn (withdrawEntry i e s))

/-- The withdrawal past its checks (07 R124). -/
def withdraw (f : Frame) (s : State) : State :=
  let id : ParcelId := str 64 f.body 0
  match stagedPlace id s with
  | some i =>
    match s.store.staging[i]? with
    | some p => withdrawStaged i p f s
    | none => s
  | none =>
    match (listUsed s.store.table).find? fun p => p.2.id == id with
    | some p => withdrawCommitted p.1 p.2 (num f.body 8 1 == 1) f s
    | none => reply f (refuse .unknownParcel) s

/-- PARCEL_WITHDRAW (07 R123). -/
def ownParcelWithdraw : Owner := fun who f s => checked f (withdrawChecks who f s) (withdraw f) s

/-- PARCEL_WITHDRAW. -/
def execParcelWithdraw (src : Addr) (tag : Byte) (body : List Byte) (s : State) : Host.Outcome State Fault Refusal :=
  .next (takeRequest .parcelWithdraw src tag body ownParcelWithdraw s)

/-! ## PARCEL_LIST (02 R33, R34) -/

/-- Checks of 02 R33, in the order 08 R133 gives. -/
def parcelListChecks (who : Sender) (f : Frame) (s : State) : List (Bool × Reply) :=
  [ sealedCheck s,
    roleCheck who [.programming, .monitor],
    suspendedCheck who,
    formCheck (lengthThen 1 f.body (num f.body 0 1 < 64)) ]

/-- The 41-byte summary of an entry (12 Table 12.9). -/
def parcelSummary (p : Nat × ParcelEntry) : List Byte :=
  [byte1 p.1] ++ strBytes p.2.id ++ strBytes p.2.feature ++ beBytes 4 p.2.winStart ++ beBytes 4 p.2.winEnd ++
    [p.2.state.value, byte1 p.2.recordCount] ++ beBytes 4 p.2.ingestSeq ++ [byte1 p.2.grantCount, flagByte p.2.purgeDue]

/-- The entries in use from an index on. -/
def parcelsFrom (first : Nat) (s : State) : List (Nat × ParcelEntry) :=
  (listUsed s.store.table).filter fun p => first ≤ p.1

/-- The PARCEL_LIST detail (02 R34): at most 32 summaries; the continuation index, or 0xFF (12 R176). -/
def parcelListDetail (first : Nat) (s : State) : List Byte :=
  let found := parcelsFrom first s
  let shown := found.take 32
  let next : Byte := match found[32]? with | some p => byte1 p.1 | none => 0xFF
  [byte1 s.parcelsInUse] ++ beBytes 2 s.freeKeySlots ++ beBytes 4 s.store.ingestSeq ++ [next, byte1 shown.length] ++
    shown.flatMap parcelSummary

/-- PARCEL_LIST (02 R34). -/
def ownParcelList : Owner := fun who f s =>
  checked f (parcelListChecks who f s)
    (fun t => reply f { code := .ok, detail := parcelListDetail (num f.body 0 1) t } t) s

/-- PARCEL_LIST. -/
def execParcelList (src : Addr) (tag : Byte) (body : List Byte) (s : State) : Host.Outcome State Fault Refusal :=
  .next (takeRequest .parcelList src tag body ownParcelList s)

/-! ## VERIFY_COMPLETE (01 R10) -/

/-- The integrity tag computed over a parcel's fields. -/
def computedTag (secret : Key) (p : Parcel) : Bytes16 :=
  Config.integrityTag secret p.id p.feature p.winStart p.winEnd p.screens
    (p.records.map fun r => (r.track, r.kind.value, r.sealedKey))

/-- The store-form keys of a parcel's records, in record order; none when any fails to unseal. -/
def storeForms (secret : Key) (p : Parcel) : Option (List Key) :=
  p.records.mapM fun r => Config.storeForm secret r.sealedKey

/-- The outcome of VERIFY on a parcel: PASS with its store-form keys when the tags match and every key unseals,
otherwise FAIL. -/
def verifyOutcome (secret : Key) (p : Parcel) : Held :=
  if p.tag = computedTag secret p then
    match storeForms secret p with
    | some ks => .verifyPass ks
    | none => .verifyFail
  else .verifyFail

/-- A VERIFY job completes on the head's parcel; the engine holds the result (05 R81). It runs in OPERATING alone, where
the site secret is held (11 R172); without one the secret reads 0 (log 22). -/
def completeVerify (s : State) : State :=
  match s.engine.job, s.store.staging with
  | some .verify, p :: _ =>
    { s with engine := { s.engine with
        job := none, held := some (verifyOutcome (s.fuses.held.siteSecret.getD 0) p.parcel) } }
  | _, _ => s

/-- VERIFY_COMPLETE. Its operand has one value and says nothing of the outcome. -/
def execVerifyComplete (_done : Unit) (s : State) : Host.Outcome State Fault Refusal := .next (completeVerify s)

/-! ## VERIFY_POSTING (01 R11-R17) -/

/-- Entry `a` is reclaimed before entry `b` (01 R13): smaller Es, then smaller ingest sequence. -/
def reclaimBefore (a b : ParcelEntry) : Bool := a.es < b.es || (a.es == b.es && a.ingestSeq < b.ingestSeq)

/-- Of several, the one that comes before every other; the first in the list among equals. -/
def bestOf (before : ParcelEntry → ParcelEntry → Bool) : List (Nat × ParcelEntry) → Option (Nat × ParcelEntry)
  | [] => none
  | p :: t => some (t.foldl (fun a b => if before b.2 a.2 then b else a) p)

/-- Reclaim (01 R13): the LAPSED entry with grant count 0 that comes first is freed. -/
def reclaim (s : State) : State :=
  match bestOf reclaimBefore ((listUsed s.store.table).filter fun p => p.2.state == .lapsed && p.2.grantCount == 0) with
  | some p => freeEntry p.1 s
  | none => s

/-- Reclaim runs only when the table is full (01 R13). -/
def makeRoom (s : State) : State := if (lowestFree s.store.table).isNone then reclaim s else s

/-- The STORE_FULL answer (01 R14): cause, free key slots, free entries. -/
def storeFullReply (cause : Nat) (s : State) : Reply where
  code := .storeFull
  detail := [byte1 cause] ++ beBytes 2 s.freeKeySlots ++ [byte1 (s.store.table.length - s.parcelsInUse)]

/-- Write keys into slots, one for one (01 R15). -/
def writeKeys (slots : List Nat) (ks : List Key) (keys : List (Option Key)) : List (Option Key) :=
  (slots.zip ks).foldl (fun acc p => acc.set p.1 (some p.2)) keys

/-- The new ingest sequence (01 R16). -/
def nextSeq (s : State) : Nat := satAdd s.store.ingestSeq 1

/-- The entry a parcel is committed as (01 R15, R17). -/
def newEntry (p : Parcel) (slots : List Nat) (s : State) : ParcelEntry where
  state := if p.winStart * 60 ≤ s.now then .live else .latent
  id := p.id
  feature := p.feature
  winStart := p.winStart
  winEnd := p.winEnd
  screens := p.screens
  refs := List.zipWith (fun r k => { track := r.track, kind := r.kind, slot := k }) p.records slots
  recordCount := p.records.length
  ingestSeq := nextSeq s
  grantCount := 0
  purgeDue := false

/-- Insert a committed entry's deadlines (01 R17). -/
def insertEntryDeadlines (i : Nat) (e : ParcelEntry) (s : State) : State :=
  (entryDeadlines s i e).foldl (fun u d => addDeadline d u) s

/-- The commit (01 R15-R17) at a free index, with the ACCEPTED answer. -/
def commitParcel (i : Nat) (p : Parcel) (ks : List Key) (s : State) : State × Reply :=
  let slots := (freePlaces s.store.keys).take p.records.length
  let e := newEntry p slots s
  let t := insertEntryDeadlines i e
    { s with store := { s.store with
        table := s.store.table.set i (some e), keys := writeKeys slots ks s.store.keys, ingestSeq := nextSeq s } }
  (raisePulse Src.parcelAccepted t,
   { code := .accepted, detail := [byte1 i, e.state.value] ++ beBytes 2 t.freeKeySlots })

/-- Checks 5 and 6 of 01 Table 1.6, and the commit. -/
def storeParcel (p : Parcel) (ks : List Key) (s : State) : State × Reply :=
  let t := makeRoom s
  match lowestFree t.store.table with
  | none => (raisePulse Src.storeFull t, storeFullReply 1 t)
  | some i =>
    if t.freeKeySlots < p.records.length then (raisePulse Src.storeFull t, storeFullReply 2 t)
    else commitParcel i p ks t

/-- The posting checks in the order of 01 Table 1.6. `outcome` is none for FAIL. -/
def settleVerify (p : StagingPlace) (outcome : Option (List Key)) (s : State) : State × Reply :=
  match outcome with
  | none => (raisePulse Src.parcelRejected s, refuse .rejected)
  | some ks =>
    if p.phase = .verifying true then (s, refuse .withdrawn)
    else if s.clock.timeState = .lost then (s, refuse .noTime)
    else if p.parcel.winEnd * 60 ≤ s.now then (s, refuse .ended)
    else storeParcel p.parcel ks s

/-- The outcome a held VERIFY result carries; none when the held result is no VERIFY result. -/
def heldVerify (e : Engine) : Option (Option (List Key)) :=
  match e.held with
  | some (.verifyPass ks) => some (some ks)
  | some .verifyFail => some none
  | _ => none

/-- A held VERIFY result is posted (01 R11): the head is settled and vacated, the answer placed, the engine READY. -/
def postVerify (s : State) : State :=
  match heldVerify s.engine, s.store.staging with
  | some outcome, p :: _ =>
    let t := settleVerify p outcome { s with engine := { s.engine with held := none } }
    replyLater { addr := p.answerTo, tag := p.tag } .parcelLoad t.2 (vacateHead t.1)
  | _, _ => s

/-- VERIFY_POSTING: when the answer queue has a free place (05 R81). -/
def execVerifyPosting (s : State) : Host.Outcome State Fault Refusal :=
  .next (if canTake s then postVerify s else s)

/-! ## STAGING_ANSWER_DUE (01 R8) -/

/-- The first staging place in ANSWER_DUE, with its refusal code. -/
def dueStaging : List StagingPlace → Nat → Option (Nat × StagingPlace × Code)
  | [], _ => none
  | p :: t, i =>
    match p.phase with
    | .answerDue c => some (i, p, c)
    | _ => dueStaging t (i + 1)

/-- Its refusal answer is placed and the place vacated (01 R8). -/
def answerStaging (s : State) : State :=
  match dueStaging s.store.staging 0 with
  | none => s
  | some (i, p, c) =>
    let t := { s with store := { s.store with staging := s.store.staging.eraseIdx i } }
    replyLater { addr := p.answerTo, tag := p.tag } .parcelLoad (refuse c) (if i = 0 then setPassOver 0 t else t)

/-- STAGING_ANSWER_DUE. -/
def execStagingAnswerDue (s : State) : Host.Outcome State Fault Refusal :=
  .next (if canTake s then answerStaging s else s)

end Sys2Proof.Machine
end

