-- ==== Sys2Proof/Machine/Power.lean ====
section
/-! DEFINITION. Power, the reset line, the start-up phases, RESTART (11). -/

namespace Sys2Proof.Machine

/-- The start-up control's next phase. -/
def setPhase (p : StartPhase) (s : State) : State := { s with control := { s.control with phase := p } }

/-! ## Power and the reset line (11 R172, R174) -/

/-- POWER_ON: a start-up begins with cause POWER_ON, or, with RST_N low, the part is held at its beginning (log 15). -/
def execPowerOn (s : State) : Host.Outcome State Fault Refusal :=
  .next (if s.control.power then s
    else
      let t := { s with control := { s.control with power := true } }
      if t.control.resetLow then haltPart t else beginStartUp .powerOn t)

/-- POWER_LOSS: operation ends at once; the backup domain keeps its contents (11 R174, R170). -/
def execPowerLoss (s : State) : Host.Outcome State Fault Refusal :=
  .next (if s.control.power then haltPart { s with control := { s.control with power := false } } else s)

/-- RESET_LINE_ASSERT: the part is held at the beginning of start-up (11 R174). -/
def execResetLineAssert (s : State) : Host.Outcome State Fault Refusal :=
  .next (if s.control.resetLow then s
    else
      let t := { s with control := { s.control with resetLow := true } }
      if t.control.power then haltPart t else t)

/-- RESET_LINE_RELEASE: a start-up begins with cause RESET_LINE (11 R174). -/
def execResetLineRelease (s : State) : Host.Outcome State Fault Refusal :=
  .next (if s.control.resetLow then
      let t := { s with control := { s.control with resetLow := false } }
      if t.control.power then beginStartUp .resetLine t else t
    else s)

/-- RETAINED_LOSS: VBACKUP absent while main power is off (11 R170). With main power on, VDD keeps the store. -/
def execRetainedLoss (s : State) : Host.Outcome State Fault Refusal :=
  .next (if s.control.power then s else { s with control := { s.control with storeValid := false } })

/-! ## The phases (11 Table 11.2) -/

/-- START_UP_BEGIN (11 R172): STARTING, volatile state at its starting values; FUSE_LOAD runs next (log 14). -/
def execStartUpBegin (s : State) : Host.Outcome State Fault Refusal :=
  .next (if s.control.phase = .begin then setPhase .fuseLoad (beginStartUp s.control.beganBy s) else s)

/-- The site secret, the mode key or the own address is unusable: the start-up is sealing (11 R172). -/
def fusesSeal (h : FuseHeld) : Bool := h.siteSecret.isNone || h.modeKey.isNone || h.ownAddr.isNone

/-- FUSE_LOAD past its gate (11 R169, 03 R41). -/
def readFuses (s : State) : State :=
  let h := loadFuses s.fuses.words
  let t := { s with
    fuses := { s.fuses with held := h }
    clock := { s.clock with driftRun := 0 }
    control := { s.control with sealing := s.control.sealing || fusesSeal h } }
  let u := if h.corrected = 0 then t else raisePulse Src.fuseCorrected t
  if h.uncorrectable = 0 then u else raiseLevel Src.fuseFault u

/-- FUSE_LOAD. -/
def execFuseLoad (s : State) : Host.Outcome State Fault Refusal :=
  .next (if s.control.phase = .fuseLoad then setPhase .retainedCheck (readFuses s) else s)

/-- A sound store's corrections (11 R171): grant counts to 0, WITHDRAWN and purge-due LAPSED entries freed (02 R31);
tokens at OPEN_BURST, refill marks idle (04 R63). -/
def correctStore (s : State) : State :=
  let t := (listUsed s.store.table).foldl
    (fun u p => freeAtZero p.1 (u.setEntry p.1 (some { p.2 with grantCount := 0 }))) s
  { t with stations := { t.stations with
      entries := t.stations.entries.map fun o => o.map fun e =>
        { e with tokens := t.stations.settings.openBurst, mark := none } } }

/-- A lost store's values (11 R171, 02 R32, 03 R49, 08 R145, 10 R168). DESIGN CHOICE (log 31): where the store held SHOW,
the change to SERVICE raises no MODE_CHANGED (08 R141, R143 leave it open). -/
def loseStore (s : State) : State :=
  raiseLevel Src.timeLost
    { s with
      store := { s.store with
        table := s.store.table.map fun _ => none, keys := s.store.keys.map fun _ => none, ingestSeq := 0 }
      stations := { s.stations with
        entries := s.stations.entries.map fun _ => none, mode := .service, settings := s.fuses.held.defaults,
        mismatch := 0 }
      clock := { s.clock with
        timeState := .lost, floor := s.fuses.held.factoryFloor, boothTime := s.fuses.held.factoryFloor,
        trimBudget := fullBudget, trimYear := 0 }
      attention := takeAttentionDefaults s.attention
      control := { s.control with storeValid := true, beganBy := .backupLost } }

/-- RETAINED_CHECK: the store is lost when its supplies were, or when its contents are found damaged (11 R170, R171,
log 13). -/
def execRetainedCheck (damaged : Bool) (s : State) : Host.Outcome State Fault Refusal :=
  .next (if s.control.phase = .retainedCheck then
      setPhase .engineTest (if s.control.storeValid && !damaged then correctStore s else loseStore s)
    else s)

/-- REBUILD runs when the time state is RUNNING and the start-up is not sealing (11 R172). -/
def rebuildRuns (s : State) : Bool := s.clock.timeState == .running && !s.control.sealing

/-- CLOCK_CHECK: one measurement window (03 R41). -/
def execClockCheck (deviation : Nat) (s : State) : Host.Outcome State Fault Refusal :=
  .next (if s.control.phase = .clockCheck then
      let bad := badWindow deviation s
      let t := { s with clock := { s.clock with driftRun := if bad then 1 else 0, ticked := false } }
      setPhase (if rebuildRuns s then .rebuild else .finish) (followLevel Src.clockDrift bad t)
    else s)

/-- REBUILD (07 R121, R122). -/
def execRebuild (s : State) : Host.Outcome State Fault Refusal :=
  .next (if s.control.phase = .rebuild then setPhase .finish (rebuildList s.now s) else s)

/-- A level source evaluated against its condition (10 R168). -/
def evaluateLevel (n : Nat) (cond : Bool) (s : State) : State := s.modSource n fun c => { c with status := cond }

/-- The end-of-start-up evaluation (10 R168): level sources, FAULT, flags. -/
def endNotices (s : State) : State :=
  let fuseFault := s.fuses.held.uncorrectable != 0
  let off := s.control.service == .sealedOff
  let lost := s.clock.timeState == .lost
  let t := evaluateLevel Src.sealing off (evaluateLevel Src.timeLost lost
    (evaluateLevel Src.engineFault s.engine.faulted (evaluateLevel Src.fuseFault fuseFault
      (evaluateLevel Src.clockDrift (decide (0 < s.clock.driftRun))
        (evaluateLevel Src.holdActive (s.link.hold == .holding) s)))))
  let u := t.modSource Src.fault fun c => { c with status := c.status || off || lost || s.engine.faulted || fuseFault }
  { u with attention := flagRaised u.attention }

/-- The end of start-up (11 R172): the service state, the recorded cause, uptime 0, the monitor's first window (03 R41),
the notices, and, on entry to
OPERATING after a REBUILD, the due deadlines taken once (07 R115). -/
def endStartUp (s : State) : State :=
  let t := endNotices { s with
    control := { s.control with
      service := if s.control.sealing then .sealedOff else .operating, phase := .none, cause := s.control.beganBy }
    clock := { s.clock with uptime := 0, ticked := false }
    arbiter := { s.arbiter with lastKat := 0 } }
  if rebuildRuns t then runDeadlines t.now t else t

/-- START_UP_END. -/
def execStartUpEnd (s : State) : Host.Outcome State Fault Refusal :=
  .next (if s.control.phase = .finish then endStartUp s else s)

/-! ## RESTART (11 R175) -/

/-- Checks of 11 R175: no SEALED check. -/
def restartChecks (who : Sender) (f : Frame) : List (Bool × Reply) :=
  [ roleCheck who [.programming], suspendedCheck who, formCheck (lengthIs 0 f.body) ]

/-- The RESTART detail (12 Table 12.9): serial, corrected-word count, uncorrectable words. -/
def restartDetail (h : FuseHeld) : List Byte :=
  strBytes h.serial ++ [byte1 h.corrected] ++ strBytes h.uncorrectable

/-- RESTART (11 R175): answered OK at once; the start-up begins when that answer has been sent. -/
def ownRestart : Owner := fun who f s =>
  checked f (restartChecks who f) (fun t => reply f { code := .ok, detail := restartDetail t.fuses.held } t) s

/-- RESTART. -/
def execRestart (src : Addr) (tag : Byte) (body : List Byte) (s : State) : Host.Outcome State Fault Refusal :=
  .next (takeRequest .restart src tag body ownRestart s)

end Sys2Proof.Machine
end

