-- ==== Sys2Proof/Machine/Stations.lean ====
section
/-! DEFINITION. The station table: STATION_ENROL, STATION_RETIRE, STATION_SUSPEND, STATION_RESUME, STATION_RANK,
STATION_LIST (08 sections 8.1 to 8.5). -/

namespace Sys2Proof.Machine

/-! ## STATION_ENROL (08 R135, R136) -/

/-- The fields of a STATION_ENROL body (12 Table 12.6). -/
structure Enrolment where
  role        : Option Role
  base        : Addr
  size        : Nat
  fingerprint : Bytes16
  auditorium  : Nat
  rank        : Nat
  wrapKey     : Key
  deriving DecidableEq, Repr

/-- Reading the body. -/
def enrolmentOf (body : List Byte) : Enrolment where
  role := roleOf (body.getD 0 0)
  base := str 16 body 1
  size := num body 3 1
  fingerprint := str 128 body 4
  auditorium := num body 20 1
  rank := num body 21 1
  wrapKey := str 256 body 22

/-- Most entries in use of a role (08 R130). -/
def roleLimit : Role → Nat
  | .screen => 24
  | .programming => 2
  | .monitor => 6

/-- The role limit of 08 Table 8.3 check 2; an unknown role passes. -/
def roleIsFull (e : Enrolment) (s : State) : Bool :=
  match e.role with
  | some r => roleLimit r ≤ roleCount s r
  | none => false

/-- The field values of 08 Table 8.3 check 3 (the block contains neither 0x0000 nor a group address). -/
def enrolmentValid (e : Enrolment) : Bool :=
  (e.size == 1 || e.size == 2 || e.size == 4 || e.size == 8) &&
    e.base != 0 && e.base.toNat + e.size ≤ 0xFFF0 &&
    (match e.role with
      | none => false
      | some .screen => 1 ≤ e.rank && e.rank ≤ 31 && 1 ≤ e.auditorium && e.auditorium ≤ 24
      | some _ => e.rank == 0 && e.auditorium == 0)

/-- Two blocks share an address. -/
def blocksMeet (base1 : Addr) (size1 : Nat) (base2 : Addr) (size2 : Nat) : Bool :=
  base1.toNat < base2.toNat + size2 && base2.toNat < base1.toNat + size1

/-- The slots a block collides with, and 0xFF for the part's own address (08 Table 8.3, 12 Table 12.4). -/
def addressCollisions (e : Enrolment) (s : State) : List Nat :=
  ((listUsed s.stations.entries).filter fun p => blocksMeet e.base e.size p.2.base p.2.size).map (fun p => p.1) ++
    (match s.fuses.held.ownAddr with
      | some a => if e.base.toNat ≤ a.toNat && a.toNat < e.base.toNat + e.size then [255] else []
      | none => [])

/-- The slot a CONFLICT names. With one collision it is that one; with several the spec does not say which:
FREE VALUE (log 11). -/
def namedCollision (cs : List Nat) : Nat :=
  match cs with
  | [c] => c
  | _ => cs.getD (Config.conflictPick cs % cs.length) 0

/-- A CONFLICT answer: field value and slot (12 Table 12.4). -/
def conflictCheck (fieldValue : Byte) (cs : List Nat) : Bool × Reply :=
  (!cs.isEmpty, { code := .conflict, detail := [fieldValue, byte1 (namedCollision cs)] })

/-- The slots of the entries in use that satisfy a condition. -/
def slotsWhere (s : State) (hit : Station → Bool) : List Nat :=
  ((listUsed s.stations.entries).filter fun p => hit p.2).map fun p => p.1

/-- Checks of 08 R135. -/
def enrolChecks (who : Sender) (f : Frame) (s : State) : List (Bool × Reply) :=
  let e := enrolmentOf f.body
  [ sealedCheck s,
    roleCheck who [.programming],
    suspendedCheck who,
    serviceOnly s,
    formCheck (lengthIs 54 f.body),
    ((lowestFree s.stations.entries).isNone, refuse .tableFull),
    (roleIsFull e s, refuse .roleLimit),
    formCheck (if enrolmentValid e then none else some .badValue),
    (e.base.toNat % e.size != 0, refuse .misaligned),
    conflictCheck 1 (addressCollisions e s),
    conflictCheck 2 (if e.role = some .screen then slotsWhere s fun t => t.role == .screen && t.rank == e.rank else []),
    conflictCheck 3 (slotsWhere s fun t => t.fingerprint == e.fingerprint),
    conflictCheck 4
      (if e.role = some .screen then slotsWhere s fun t => t.role == .screen && t.auditorium == e.auditorium else []) ]

/-- The new entry (08 R136): ENROLLED, tokens at OPEN_BURST, mark idle; a wrap key only for a screen. -/
def newStation (e : Enrolment) (r : Role) (s : State) : Station where
  state := .enrolled
  role := r
  base := e.base
  size := e.size
  fingerprint := e.fingerprint
  auditorium := e.auditorium
  rank := e.rank
  wrapKey := if r = .screen then some e.wrapKey else none
  tokens := s.stations.settings.openBurst
  mark := none

/-- The enrolment past its checks (08 R136). -/
def enrol (f : Frame) (s : State) : State :=
  let e := enrolmentOf f.body
  match lowestFree s.stations.entries, e.role with
  | some i, some r => reply f { code := .ok, detail := [byte1 i] } (s.setStation i (some (newStation e r s)))
  | _, _ => s

/-- STATION_ENROL (08 R135). -/
def ownStationEnrol : Owner := fun who f s => checked f (enrolChecks who f s) (enrol f) s

/-- STATION_ENROL. -/
def execStationEnrol (src : Addr) (tag : Byte) (body : List Byte) (s : State) : Host.Outcome State Fault Refusal :=
  .next (takeRequest .stationEnrol src tag body ownStationEnrol s)

/-! ## Requests that name a slot -/

/-- The slot field. -/
def slotField (body : List Byte) : Nat := num body 0 1

/-- MALFORMED when the body is not one slot below 32 (12 R179). -/
def slotForm (body : List Byte) : Option BadForm := lengthThen 1 body (slotField body < 32)

/-- UNKNOWN_STATION when the slot is FREE. -/
def stationCheck (slot : Nat) (s : State) : Bool × Reply := ((s.station slot).isNone, refuse .unknownStation)

/-- Another PROGRAMMING entry in a given state, beside the target's slot. -/
def otherProgramming (slot : Nat) (st : StationState) (s : State) : Bool :=
  (listUsed s.stations.entries).any fun p => p.1 != slot && p.2.role == .programming && p.2.state == st

/-- The target is PROGRAMMING and, if asked, ENROLLED. -/
def targetProgramming (slot : Nat) (onlyEnrolled : Bool) (s : State) : Bool :=
  match s.station slot with
  | some e => e.role == .programming && (!onlyEnrolled || e.state == .enrolled)
  | none => false

/-! ## STATION_RETIRE (08 R137) -/

/-- Checks of 08 R137. -/
def retireChecks (who : Sender) (f : Frame) (s : State) : List (Bool × Reply) :=
  let slot := slotField f.body
  [ sealedCheck s,
    roleCheck who [.programming],
    suspendedCheck who,
    serviceOnly s,
    formCheck (slotForm f.body),
    stationCheck slot s,
    (targetProgramming slot true s && !otherProgramming slot .enrolled s && otherProgramming slot .suspended s,
      refuse .lastProgramming) ]

/-- STATION_RETIRE (08 R137): the entry becomes FREE and its fields and runtime record are discarded. -/
def ownStationRetire : Owner := fun who f s =>
  checked f (retireChecks who f s) (fun t => reply f (refuse .ok) (t.setStation (slotField f.body) none)) s

/-- STATION_RETIRE. -/
def execStationRetire (src : Addr) (tag : Byte) (body : List Byte) (s : State) : Host.Outcome State Fault Refusal :=
  .next (takeRequest .stationRetire src tag body ownStationRetire s)

/-! ## STATION_SUSPEND (08 R138) -/

/-- Checks of 08 R138. -/
def suspendChecks (who : Sender) (f : Frame) (s : State) : List (Bool × Reply) :=
  let slot := slotField f.body
  [ sealedCheck s,
    roleCheck who [.programming],
    suspendedCheck who,
    formCheck (slotForm f.body),
    stationCheck slot s,
    (targetProgramming slot false s && !otherProgramming slot .enrolled s, refuse .lastProgramming),
    (who.slot == some slot, refuse .ownEntry) ]

/-- The effect on a screen's opens and grants, in the step of the suspension (05 R73, 06 R101). -/
def stopScreen (slot : Nat) (s : State) : State :=
  forceExpiry (fun g => g.station == slot) .suspended (refuseWaiting (fun w => w.station == slot) .suspended s)

/-- Suspension of entry `e` in `slot` (08 R138), with the counts of its answer. -/
def suspendStation (slot : Nat) (e : Station) (f : Frame) (s : State) : State :=
  if e.state = .suspended then reply f { code := .ok, detail := [0, 0] } s
  else
    let t := s.setStation slot (some { e with state := .suspended })
    if e.role = .screen then
      reply f
        { code := .ok,
          detail := [byte1 (reached (fun g => g.station == slot) s).length,
                     byte1 (s.openQueue.waiting.filter fun w => w.station == slot).length] }
        (stopScreen slot t)
    else reply f { code := .ok, detail := [0, 0] } t

/-- STATION_SUSPEND past its checks. -/
def suspend (f : Frame) (s : State) : State :=
  match s.station (slotField f.body) with
  | some e => suspendStation (slotField f.body) e f s
  | none => s

/-- STATION_SUSPEND (08 R138). -/
def ownStationSuspend : Owner := fun who f s => checked f (suspendChecks who f s) (suspend f) s

/-- STATION_SUSPEND. -/
def execStationSuspend (src : Addr) (tag : Byte) (body : List Byte) (s : State) : Host.Outcome State Fault Refusal :=
  .next (takeRequest .stationSuspend src tag body ownStationSuspend s)

/-! ## STATION_RESUME (08 R138) -/

/-- Checks of 08 R138. -/
def resumeChecks (who : Sender) (f : Frame) (s : State) : List (Bool × Reply) :=
  [ sealedCheck s,
    roleCheck who [.programming],
    suspendedCheck who,
    formCheck (slotForm f.body),
    stationCheck (slotField f.body) s ]

/-- A resumed entry is ENROLLED; an ENROLLED one is unchanged. -/
def resume (f : Frame) (s : State) : State :=
  match s.station (slotField f.body) with
  | some e => reply f (refuse .ok) (s.setStation (slotField f.body) (some { e with state := .enrolled }))
  | none => s

/-- STATION_RESUME (08 R138). -/
def ownStationResume : Owner := fun who f s => checked f (resumeChecks who f s) (resume f) s

/-- STATION_RESUME. -/
def execStationResume (src : Addr) (tag : Byte) (body : List Byte) (s : State) : Host.Outcome State Fault Refusal :=
  .next (takeRequest .stationResume src tag body ownStationResume s)

/-! ## STATION_RANK (08 R139) -/

/-- The new rank. -/
def rankField (body : List Byte) : Nat := num body 1 1

/-- The target's role is not SCREEN. -/
def notScreen (slot : Nat) (s : State) : Bool :=
  match s.station slot with
  | some e => e.role != .screen
  | none => false

/-- The slots of the other screens in use that hold a rank. -/
def rankHolders (slot rank : Nat) (s : State) : List Nat :=
  ((listUsed s.stations.entries).filter fun p => p.1 != slot && p.2.role == .screen && p.2.rank == rank).map
    fun p => p.1

/-- Checks of 08 R139. -/
def rankChecks (who : Sender) (f : Frame) (s : State) : List (Bool × Reply) :=
  let slot := slotField f.body
  let rank := rankField f.body
  [ sealedCheck s,
    roleCheck who [.programming],
    suspendedCheck who,
    formCheck (lengthThen 2 f.body (decide (slot < 32) && decide (1 ≤ rank) && decide (rank ≤ 31))),
    stationCheck slot s,
    (notScreen slot s, malformed .notScreen),
    conflictCheck 2 (rankHolders slot rank s) ]

/-- The target's rank becomes the new rank. -/
def giveRank (f : Frame) (s : State) : State :=
  match s.station (slotField f.body) with
  | some e => reply f (refuse .ok) (s.setStation (slotField f.body) (some { e with rank := rankField f.body }))
  | none => s

/-- STATION_RANK (08 R139). -/
def ownStationRank : Owner := fun who f s => checked f (rankChecks who f s) (giveRank f) s

/-- STATION_RANK. -/
def execStationRank (src : Addr) (tag : Byte) (body : List Byte) (s : State) : Host.Outcome State Fault Refusal :=
  .next (takeRequest .stationRank src tag body ownStationRank s)

/-! ## STATION_LIST (08 R140) -/

/-- Checks of 08 R140, in the order 08 R133 gives. -/
def stationListChecks (who : Sender) (f : Frame) (s : State) : List (Bool × Reply) :=
  [ sealedCheck s, roleCheck who [.programming, .monitor], suspendedCheck who, formCheck (lengthIs 0 f.body) ]

/-- The 24 bytes of an entry (12 Table 12.9). -/
def stationSummary (p : Nat × Station) : List Byte :=
  [byte1 p.1, p.2.state.value, p.2.role.value] ++ strBytes p.2.base ++ [byte1 p.2.size] ++
    strBytes p.2.fingerprint ++ [byte1 p.2.auditorium, byte1 p.2.rank]

/-- The STATION_LIST detail (12 Table 12.9). -/
def stationListDetail (s : State) : List Byte :=
  [flagByte (bootActive s), byte1 (roleCount s .screen), byte1 (roleCount s .programming),
   byte1 (roleCount s .monitor), byte1 (countUsed s.stations.entries)] ++
    (listUsed s.stations.entries).flatMap stationSummary

/-- STATION_LIST (08 R140). -/
def ownStationList : Owner := fun who f s =>
  checked f (stationListChecks who f s) (fun t => reply f { code := .ok, detail := stationListDetail t } t) s

/-- STATION_LIST. -/
def execStationList (src : Addr) (tag : Byte) (body : List Byte) (s : State) : Host.Outcome State Fault Refusal :=
  .next (takeRequest .stationList src tag body ownStationList s)

end Sys2Proof.Machine
end

