-- ==== Sys2Proof/Machine/Time.lean ====
section
/-! DEFINITION. Booth time: the crystal second, the main-clock second, the oscillator monitor, TIME_TRIM, TIME_SET (03). -/

namespace Sys2Proof.Machine

/-! ## The crystal second (03 R35, R37, R43, R47) -/

/-- The last value of the trim-year counter (03 R43). -/
def trimYearEnd : Nat := 31535999

/-- The wrap: the counter to 0, B to 360 (03 R43). -/
def wrapTrimYear (s : State) : State :=
  { s with clock := { s.clock with trimYear := 0, trimBudget := fullBudget } }

/-- The trim-year counter's part of a crystal second (03 R43). -/
def countTrimYear (s : State) : State :=
  if trimYearEnd ≤ s.clock.trimYear then wrapTrimYear s
  else { s with clock := { s.clock with trimYear := s.clock.trimYear + 1 } }

/-- The time floor at a booth-minute boundary (03 R47). -/
def raiseFloor (s : State) : State :=
  { s with clock := { s.clock with floor := max s.clock.floor s.clock.boothTime } }

/-- Booth time one second further, and the floor when that lands on a multiple of 60 (03 R35, R47). -/
def advanceBooth (s : State) : State :=
  let t := { s with clock := { s.clock with boothTime := s.clock.boothTime + 1 } }
  if t.clock.boothTime % 60 = 0 then raiseFloor t else t

/-- Booth time's part of a crystal second; the advance is handed to the Deadline List while main power is on and the
part is not STARTING (03 R35). -/
def tickBooth (s : State) : State :=
  if s.clock.timeState = .running ∧ s.clock.boothTime < maxCount then
    let t := advanceBooth s
    if t.awake then runDeadlines t.now t else t
  else s

/-- A crystal second is completed in the window that is open (03 R40). -/
def noteTick (s : State) : State := { s with clock := { s.clock with ticked := true } }

/-- CRYSTAL_SECOND (03 R35, R37, R40): with the retained store lost the backup domain does not count (log 25). -/
def execCrystalSecond (s : State) : Host.Outcome State Fault Refusal :=
  .next (if s.control.storeValid then tickBooth (countTrimYear (noteTick s)) else noteTick s)

/-- TRIM_YEAR_WRAP: the wrap alone, when the counter stands at its end (03 R43, log 6). -/
def execTrimYearWrap (s : State) : Host.Outcome State Fault Refusal :=
  .next (if s.control.storeValid && decide (trimYearEnd ≤ s.clock.trimYear) then wrapTrimYear s else s)

/-! ## The main-clock second and the oscillator monitor (03 R36, R40) -/

/-- The drift run count reaches 16 (03 R40): it returns to 0, CLOCK_DRIFT clears, and a RUNNING time state is lost. -/
def reachDriftLimit (s : State) : State :=
  let t := clearLevel Src.clockDrift { s with clock := { s.clock with driftRun := 0 } }
  if t.clock.timeState = .running then loseTime t else t

/-- The open measurement window ends and the next one opens (03 R40). -/
def measure (deviation : Nat) (s : State) : State :=
  let t := openWindow s
  if badWindow deviation s then
    if 15 ≤ t.clock.driftRun then reachDriftLimit t
    else raiseLevel Src.clockDrift { t with clock := { t.clock with driftRun := t.clock.driftRun + 1 } }
  else clearLevel Src.clockDrift { t with clock := { t.clock with driftRun := 0 } }

/-- Uptime one second further, saturating (03 R36). -/
def countUptime (s : State) : State := { s with clock := { s.clock with uptime := satAdd s.clock.uptime 1 } }

/-- MAIN_CLOCK_SECOND (03 R36): uptime, then its holders in the order R36 lists them (log 7): the Open Queue's wait
limit, the periodic test, the oscillator monitor. Token refill is lazy (04 R64). -/
def execMainClockSecond (deviation : Nat) (s : State) : Host.Outcome State Fault Refusal :=
  .next (if s.awake then measure deviation (examineTestInterval (timeOutOpens (countUptime s))) else s)

/-- DRIFT_RUN_LIMIT: the window that makes the count reach 16 (03 R40, log 6). -/
def execDriftRunLimit (s : State) : Host.Outcome State Fault Refusal :=
  .next (if s.awake && decide (15 ≤ s.clock.driftRun) then reachDriftLimit (openWindow s) else s)

/-! ## TIME_TRIM (03 R44-R46) -/

/-- Checks of 03 R44. -/
def trimChecks (who : Sender) (f : Frame) (s : State) : List (Bool × Reply) :=
  [ sealedCheck s,
    roleCheck who [.programming],
    suspendedCheck who,
    (s.clock.timeState == .lost, refuse .noTime),
    formCheck (lengthIs 4 f.body) ]

/-- The applied trim (03 R45): range limit, budget limit, upper end, lower end. -/
def appliedTrim (d : Int) (budget now : Nat) : Int :=
  let a1 := max (-3600) (min 3600 d)
  let a2 := max (-(budget : Int)) (min (budget : Int) a1)
  let a3 := min ((maxCount : Int) - now) a2
  max (-(now : Int)) a3

/-- Booth time moved by `a` and its magnitude spent; a forward trim onto or across a multiple of 60 updates the floor
(03 R45, R46). -/
def moveBooth (a : Int) (s : State) : State :=
  let before := s.now
  let after := ((before : Int) + a).toNat
  let t := { s with clock := { s.clock with boothTime := after, trimBudget := s.clock.trimBudget - a.natAbs } }
  if 0 < a ∧ before / 60 < after / 60 then raiseFloor t else t

/-- The trim's event for the Deadline List (03 R46): forward fires, backward returns entries to LATENT, 0 nothing. -/
def handTrim (a : Int) (s : State) : State :=
  if 0 < a then runDeadlines s.now s else if a < 0 then returnLatent s.now s else s

/-- A trim of `d` carried out (03 R45, R46). -/
def applyTrim (d : Int) (s : State) : State :=
  let a := appliedTrim d s.clock.trimBudget s.now
  let t := handTrim a (moveBooth a s)
  if a = d then t else raisePulse Src.trimClamped t

/-- The detail of a TIME_TRIM answer (12 Table 12.9): applied trim, booth time and B after it. -/
def trimDetail (a : Int) (s : State) : List Byte :=
  signed4Bytes a ++ beBytes 4 s.now ++ beBytes 2 s.clock.trimBudget

/-- TIME_TRIM past its checks. -/
def trimTime (f : Frame) (s : State) : State :=
  let d := signed4 (num f.body 0 4)
  let a := appliedTrim d s.clock.trimBudget s.now
  let t := applyTrim d s
  reply f { code := if a = d then .ok else .clamped, detail := trimDetail a t } t

/-- TIME_TRIM (03 R44). -/
def ownTimeTrim : Owner := fun who f s => checked f (trimChecks who f s) (trimTime f) s

/-- TIME_TRIM. -/
def execTimeTrim (src : Addr) (tag : Byte) (body : List Byte) (s : State) : Host.Outcome State Fault Refusal :=
  .next (takeRequest .timeTrim src tag body ownTimeTrim s)

/-! ## TIME_SET (03 R48) -/

/-- Checks of 03 R48. -/
def setTimeChecks (who : Sender) (f : Frame) (s : State) : List (Bool × Reply) :=
  [ sealedCheck s,
    roleCheck who [.programming],
    suspendedCheck who,
    serviceOnly s,
    (s.clock.timeState == .running, refuse .timeRunning),
    formCheck (lengthIs 4 f.body) ]

/-- Booth time set to `v`, or to the floor if `v` lies below it; RUNNING; TIME_LOST clears; rebuild (03 R48, 07 R121). -/
def establishTime (v : Nat) (s : State) : State :=
  let n := max v s.clock.floor
  rebuildList n
    (clearLevel Src.timeLost { s with clock := { s.clock with boothTime := n, timeState := .running } })

/-- TIME_SET past its checks. -/
def setTime (f : Frame) (s : State) : State :=
  let v := num f.body 0 4
  let t := establishTime v s
  reply f
    { code := if v < s.clock.floor then .clamped else .ok,
      detail := beBytes 4 t.now ++ beBytes 4 t.clock.floor } t

/-- TIME_SET (03 R48). -/
def ownTimeSet : Owner := fun who f s => checked f (setTimeChecks who f s) (setTime f) s

/-- TIME_SET. -/
def execTimeSet (src : Addr) (tag : Byte) (body : List Byte) (s : State) : Host.Outcome State Fault Refusal :=
  .next (takeRequest .timeSet src tag body ownTimeSet s)

end Sys2Proof.Machine
end

