-- ==== Sys2Proof/Machine/Take.lean ====
section
/-! DEFINITION. The Request Decoder's take: FRAME_TAKE and UNKNOWN_KIND (09 R152). -/

namespace Sys2Proof.Machine

/-- UNKNOWN_KIND (09 R152): answered before any role, mode or sealed check; the answer carries the unrecognised kind
value (12 R178). -/
def ownUnknownKind : Owner := fun _ f s => reply f (refuse .unknownKind) s

/-- UNKNOWN_KIND: the take of a frame whose kind is no request kind; a request kind is no occasion for this row (log 27). -/
def execUnknownKind (src : Addr) (tag kind : Byte) (body : List Byte) (s : State) : Host.Outcome State Fault Refusal :=
  .next (if canTake s && (kindOf kind).isNone then
      settle ownUnknownKind { src := src, kind := kind, tag := tag, body := body } s
    else s)

/-- The owner of each request kind. -/
def ownerOf : Kind → Owner
  | .status => ownStatus
  | .parcelLoad => ownParcelLoad
  | .parcelWithdraw => ownParcelWithdraw
  | .parcelList => ownParcelList
  | .openKeys => ownOpen
  | .close => ownClose
  | .extend => ownExtend
  | .grantList => ownGrantList
  | .timeTrim => ownTimeTrim
  | .timeSet => ownTimeSet
  | .stationEnrol => ownStationEnrol
  | .stationRetire => ownStationRetire
  | .stationSuspend => ownStationSuspend
  | .stationResume => ownStationResume
  | .stationRank => ownStationRank
  | .stationList => ownStationList
  | .modeKey => ownModeKey
  | .modeChange => ownModeChange
  | .settingWrite => ownSettingWrite
  | .settingRead => ownSettingRead
  | .zeroize => ownZeroize
  | .noticeRead => ownNoticeRead
  | .noticeConfig => ownNoticeConfig
  | .selfTest => ownSelfTest
  | .restart => ownRestart

/-- The owner of a taken frame, by its kind byte. -/
def ownerOfFrame (f : Frame) : Owner :=
  match kindOf f.kind with
  | some k => ownerOf k
  | none => ownUnknownKind

/-- FRAME_TAKE (09 R152): the oldest stored frame leaves its slot, occupancy falls, and the frame is settled. -/
def takeFrame (f : Frame) (s : State) : State :=
  settle (ownerOfFrame f) f
    (occupancyFell { s with link := { s.link with stored := s.link.stored.drop 1 } })

/-- FRAME_TAKE. -/
def execFrameTake (s : State) : Host.Outcome State Fault Refusal :=
  .next (match s.link.stored with
    | f :: _ => if canTake s then takeFrame f s else s
    | [] => s)

end Sys2Proof.Machine
end

