-- ==== Sys2Proof/Machine/Dispatch.lean ====
section
/-! DEFINITION. One arm per command. -/

namespace Sys2Proof.Machine

/-- What a command does to everything but the queue of waiting commands. -/
def exec (i : Instr) (s : State) : Host.Outcome State Fault Refusal :=
  match i with
  | .frameHeader dst src => Sys2Proof.Machine.execFrameHeader dst src s
  | .frameEnd rest => Sys2Proof.Machine.execFrameEnd rest s
  | .holdRepeatTimer => Sys2Proof.Machine.execHoldRepeatTimer s
  | .frameTake => Sys2Proof.Machine.execFrameTake s
  | .unknownKind src tag kind body => Sys2Proof.Machine.execUnknownKind src tag kind body s
  | .status src tag body => Sys2Proof.Machine.execStatus src tag body s
  | .parcelLoad src tag body => Sys2Proof.Machine.execParcelLoad src tag body s
  | .parcelWithdraw src tag body => Sys2Proof.Machine.execParcelWithdraw src tag body s
  | .parcelList src tag body => Sys2Proof.Machine.execParcelList src tag body s
  | .openKeys src tag body => Sys2Proof.Machine.execOpenKeys src tag body s
  | .close src tag body => Sys2Proof.Machine.execClose src tag body s
  | .extend src tag body => Sys2Proof.Machine.execExtend src tag body s
  | .grantList src tag body => Sys2Proof.Machine.execGrantList src tag body s
  | .timeTrim src tag body => Sys2Proof.Machine.execTimeTrim src tag body s
  | .timeSet src tag body => Sys2Proof.Machine.execTimeSet src tag body s
  | .stationEnrol src tag body => Sys2Proof.Machine.execStationEnrol src tag body s
  | .stationRetire src tag body => Sys2Proof.Machine.execStationRetire src tag body s
  | .stationSuspend src tag body => Sys2Proof.Machine.execStationSuspend src tag body s
  | .stationResume src tag body => Sys2Proof.Machine.execStationResume src tag body s
  | .stationRank src tag body => Sys2Proof.Machine.execStationRank src tag body s
  | .stationList src tag body => Sys2Proof.Machine.execStationList src tag body s
  | .modeKey src tag body => Sys2Proof.Machine.execModeKey src tag body s
  | .modeChange src tag body => Sys2Proof.Machine.execModeChange src tag body s
  | .settingWrite src tag body => Sys2Proof.Machine.execSettingWrite src tag body s
  | .settingRead src tag body => Sys2Proof.Machine.execSettingRead src tag body s
  | .zeroize src tag body => Sys2Proof.Machine.execZeroize src tag body s
  | .noticeRead src tag body => Sys2Proof.Machine.execNoticeRead src tag body s
  | .noticeConfig src tag body => Sys2Proof.Machine.execNoticeConfig src tag body s
  | .selfTest src tag body => Sys2Proof.Machine.execSelfTest src tag body s
  | .restart src tag body => Sys2Proof.Machine.execRestart src tag body s
  | .crystalSecond => Sys2Proof.Machine.execCrystalSecond s
  | .trimYearWrap => Sys2Proof.Machine.execTrimYearWrap s
  | .mainClockSecond deviation => Sys2Proof.Machine.execMainClockSecond deviation s
  | .driftRunLimit => Sys2Proof.Machine.execDriftRunLimit s
  | .openWaitTimeout => Sys2Proof.Machine.execOpenWaitTimeout s
  | .periodicTestDue => Sys2Proof.Machine.execPeriodicTestDue s
  | .engineArbiterChoice => Sys2Proof.Machine.execEngineArbiterChoice s
  | .katComplete pass => Sys2Proof.Machine.execKatComplete pass s
  | .verifyComplete done => Sys2Proof.Machine.execVerifyComplete done s
  | .rewrapComplete => Sys2Proof.Machine.execRewrapComplete s
  | .verifyPosting => Sys2Proof.Machine.execVerifyPosting s
  | .rewrapPosting => Sys2Proof.Machine.execRewrapPosting s
  | .selfTestPosting => Sys2Proof.Machine.execSelfTestPosting s
  | .openAnswerDue => Sys2Proof.Machine.execOpenAnswerDue s
  | .stagingAnswerDue => Sys2Proof.Machine.execStagingAnswerDue s
  | .sendHold => Sys2Proof.Machine.execSendHold s
  | .sendExpire => Sys2Proof.Machine.execSendExpire s
  | .sendAnswer => Sys2Proof.Machine.execSendAnswer s
  | .sendNotice => Sys2Proof.Machine.execSendNotice s
  | .linkDown => Sys2Proof.Machine.execLinkDown s
  | .linkUp => Sys2Proof.Machine.execLinkUp s
  | .powerOn => Sys2Proof.Machine.execPowerOn s
  | .powerLoss => Sys2Proof.Machine.execPowerLoss s
  | .resetLineAssert => Sys2Proof.Machine.execResetLineAssert s
  | .resetLineRelease => Sys2Proof.Machine.execResetLineRelease s
  | .startUpBegin => Sys2Proof.Machine.execStartUpBegin s
  | .fuseLoad => Sys2Proof.Machine.execFuseLoad s
  | .retainedCheck damaged => Sys2Proof.Machine.execRetainedCheck damaged s
  | .clockCheck deviation => Sys2Proof.Machine.execClockCheck deviation s
  | .rebuild => Sys2Proof.Machine.execRebuild s
  | .startUpEnd => Sys2Proof.Machine.execStartUpEnd s
  | .transmitFrameEnd => Sys2Proof.Machine.execTransmitFrameEnd s
  | .retainedLoss => Sys2Proof.Machine.execRetainedLoss s

end Sys2Proof.Machine
end

