-- ==== Sys2Proof/Safety.lean ====
section
/-! DEFINITION. The terms claims use: who is served, a state with an answer placed, the conditions on a state that every
step keeps, the commands that may do a guarded thing. -/

namespace Sys2Proof.Machine

/-! ## Requests -/

/-- The state with an answer placed behind those waiting: to `dst`, with the request's tag and kind (09 R152, R153). -/
def answered (s : State) (dst : Addr) (tag : Byte) (k : Kind) (code : Code) (detail : List Byte) : State :=
  { s with link := { s.link with answers := s.link.answers ++
    [{ dst := dst, tag := tag, kind := k.value, code := code, detail := detail }] } }

/-- A request from `src` reaches its owner in OPERATING: the answer queue has a free place, and the source matches
`who` (09 R152). -/
structure Served (s : State) (src : Addr) (who : Sender) : Prop where
  power : s.control.power = true
  service : s.control.service = .operating
  room : s.link.answers.length < 16
  source : matchSource s src = some who

/-- A request from an ENROLLED programming station or the active boot address reaches its owner. -/
structure ServedProgrammer (s : State) (src : Addr) (who : Sender) : Prop extends Served s src who where
  role : who.role = .programming
  enrolled : who.isSuspended = false

/-- A request from an ENROLLED screen in `slot` reaches its owner. -/
structure ServedScreen (s : State) (src : Addr) (slot : Nat) (e : Station) : Prop extends
    Served s src (.station slot e) where
  role : e.role = .screen
  enrolled : e.state = .enrolled

/-- The part counts, sends and takes: main power on, out of STARTING. -/
def Awake (s : State) : Prop := s.control.power = true ∧ s.control.service ≠ .starting

/-- The transmitter may take something: awake, link up, not sending (09 R154). -/
def MaySend (s : State) : Prop := Awake s ∧ s.link.up = true ∧ s.link.sending = none

/-- A posting may be made: awake, with a free answer place (05 R81). -/
def MayPost (s : State) : Prop := Awake s ∧ s.link.answers.length < 16

/-! ## Capacities and ranges -/

/-- Every table has its fixed length and every queue keeps to its places (02 R18, R21, 05 R70, R78, 01 R6, 06 R88,
08 R129, R143, 09 R151, R153, 10 R160). -/
structure Capacities (s : State) : Prop where
  stations : s.stations.entries.length = 32
  parcels : s.store.table.length = 64
  keys : s.store.keys.length = 512
  grants : s.grants.slots.length = 48
  gens : s.grants.gens.length = 48
  sources : s.attention.sources.length = 24
  answers : s.link.answers.length ≤ 16
  receive : occupancy s ≤ 12
  staging : s.store.staging.length ≤ 2
  opens : openPlaces s ≤ 16
  passOver : s.arbiter.passOver ≤ 4
  mismatch : s.stations.mismatch ≤ 4

/-- The grant records and WAITING requests of a station slot are at most 2 together (06 R91). -/
def ScreenLimit (s : State) : Prop := ∀ slot : Nat, stationLoad slot s ≤ 2

/-- Two address blocks share no address (08 R130). -/
def BlocksApart (e f : Station) : Prop :=
  e.base.toNat + e.size ≤ f.base.toNat ∨ f.base.toNat + f.size ≤ e.base.toNat

/-- The limits that entries in use satisfy at every moment (08 R130). The own address is the fuse word's, which does not
change (11 R169). -/
structure StationsDistinct (s : State) : Prop where
  held : s.fuses.held.ownAddr = s.fuses.words.ownAddr.used
  blocks : ∀ i j e f, i ≠ j → s.station i = some e → s.station j = some f → BlocksApart e f
  own : ∀ i e a, s.station i = some e → s.fuses.held.ownAddr = some a → e.covers a = false
  aligned : ∀ i e, s.station i = some e → e.base.toNat % e.size = 0
  ranked : ∀ i e, s.station i = some e → e.role = .screen → e.rank ≠ 0
  ranks : ∀ i j e f, i ≠ j → s.station i = some e → s.station j = some f → e.role = .screen → f.role = .screen →
    e.rank ≠ f.rank
  fingerprints : ∀ i j e f, i ≠ j → s.station i = some e → s.station j = some f → e.fingerprint ≠ f.fingerprint
  auditoriums : ∀ i j e f, i ≠ j → s.station i = some e → s.station j = some f → e.role = .screen →
    f.role = .screen → e.auditorium ≠ f.auditorium
  roles : ∀ r, roleCount s r ≤ roleLimit r

/-- A setting's value lies in its range, TEST_INTERVAL also at 0 (08 Table 8.4). -/
def settingFits (name v : Nat) : Prop :=
  ((settingRange name).1 ≤ v ∧ v ≤ (settingRange name).2) ∨ (name = 10 ∧ v = 0)

/-- Eleven settings in range, HOLD_LOW below HOLD_HIGH (08 Table 8.4, R145, R146). -/
def settingsFit (t : Settings) : Prop := (∀ n, 1 ≤ n → n ≤ 11 → settingFits n (t.get n)) ∧ t.holdLow < t.holdHigh

/-- The counts of 03 Table 3.1, the link counters (09 R158), the ingest sequence counter (01 R16), generations (06 R89),
extension used (04 R61), tokens (04 R63), the notice threshold and levels (10 R160), the factory floor and every
setting lie in their ranges. -/
structure ValuesInRange (s : State) : Prop where
  boothTime : s.clock.boothTime ≤ maxCount
  uptime : s.clock.uptime ≤ maxCount
  driftRun : s.clock.driftRun ≤ 16
  trimBudget : s.clock.trimBudget ≤ 360
  trimYear : s.clock.trimYear ≤ 31535999
  floor : s.clock.floor ≤ maxCount
  factoryFloor : s.fuses.held.factoryFloor ≤ maxCount
  counters : s.link.good ≤ maxCount ∧ s.link.stranger ≤ maxCount ∧ s.link.overrun ≤ maxCount ∧ s.link.bad ≤ maxCount
  ingestSeq : s.store.ingestSeq ≤ maxCount
  generations : ∀ n ∈ s.grants.gens, n ≤ 255
  extensions : ∀ g r, s.grant g = some r → r.used ≤ 7200
  tokens : ∀ i e, s.station i = some e → e.tokens ≤ 15
  threshold : s.attention.threshold ≤ 7
  levels : ∀ c ∈ s.attention.sources, 1 ≤ c.level ∧ c.level ≤ 7
  settings : settingsFit s.stations.settings
  defaults : settingsFit s.fuses.held.defaults

/-! ## Deadlines, expiries, keys, grant counts -/

/-- The Deadline List stands in ascending order of due (07 R111). -/
def InOrder (l : List Deadline) : Prop := l.Pairwise fun a b => a.due ≤ b.due

/-- A slot holds an EXPIRING record. -/
def isExpiring (s : State) (g : Nat) : Prop := ∃ r why, s.grant g = some r ∧ r.state = .expiring why

/-- The expire list holds exactly the EXPIRING records, each once (06 R104), and a SPAN_END refers to an OPEN record
(07 Table 7.1). -/
structure ExpiryListed (s : State) : Prop where
  once : s.grants.expireList.Nodup
  exact : ∀ g, g ∈ s.grants.expireList ↔ isExpiring s g
  spans : ∀ d ∈ s.deadlines, d.kind = .spanEnd → ∃ r, s.grant d.ref = some r ∧ r.state = .opened

/-- While time runs and the part is out of STARTING, every OPEN record has its SPAN_END at X in the list (07 Table 7.1,
R112). -/
def SpansListed (s : State) : Prop :=
  s.clock.timeState = .running → s.control.service ≠ .starting → ∀ g r, s.grant g = some r → r.state = .opened →
    { due := r.x, kind := .spanEnd, ref := g } ∈ s.deadlines

/-- The list is the one that the states of entries and records give while time runs: in OPERATING, and at the end of a
start-up that ran REBUILD (07 R112, R121). -/
def ListServes (s : State) : Prop :=
  s.clock.timeState = .running ∧
    (s.control.service = .operating ∨ (s.control.phase = .finish ∧ s.control.sealing = false))

/-- The Deadline List agrees with the parcel table and the grant table (07 Table 7.1, R111, R112): each deadline once, at
the due its kind gives, for an entry or record in a state that has it; each parcel entry has its deadlines; and none is
listed before REBUILD. Windows end after they start, staged or committed (01 Table 1.2). -/
structure DeadlinesMatch (s : State) : Prop where
  order : InOrder s.deadlines
  once : (s.deadlines.map fun d => (d.kind, d.ref)).Nodup
  starts : ∀ d ∈ s.deadlines, d.kind = .windowStart → ∃ e, s.entry d.ref = some e ∧ e.state = .latent ∧ d.due = e.ss
  ends : ∀ d ∈ s.deadlines, d.kind = .windowEnd → ∃ e, s.entry d.ref = some e ∧ e.holdsKeys = true ∧ d.due = e.es
  purges : ∀ d ∈ s.deadlines, d.kind = .purge → ∃ e, s.entry d.ref = some e ∧ e.state = .lapsed
  spans : ∀ d ∈ s.deadlines, d.kind = .spanEnd → ∃ r, s.grant d.ref = some r ∧ r.state = .opened ∧ d.due = r.x
  listed : ListServes s → ∀ i e, s.entry i = some e →
    (e.state = .latent → { due := e.ss, kind := .windowStart, ref := i } ∈ s.deadlines) ∧
    (e.holdsKeys = true → { due := e.es, kind := .windowEnd, ref := i } ∈ s.deadlines) ∧
    (e.state = .lapsed → e.purgeDue = false → ∃ d ∈ s.deadlines, d.kind = .purge ∧ d.ref = i)
  early : s.control.phase ≠ .none → s.control.phase ≠ .finish → s.deadlines = []
  windows : ∀ i e, s.entry i = some e → e.winStart < e.winEnd
  staged : ∀ p ∈ s.store.staging, p.parcel.winStart < p.parcel.winEnd

/-- Every held key slot is referenced by an entry that is LATENT or LIVE (02 R21). -/
def KeysReferenced (s : State) : Prop :=
  ∀ k v, slotGet s.store.keys k = some v →
    ∃ i e, s.entry i = some e ∧ e.holdsKeys = true ∧ ∃ r ∈ e.refs, r.slot = k

/-- How many grant records, in any state, name parcel entry `i`. -/
def recordsNaming (s : State) (i : Nat) : Nat := (listUsed s.grants.slots).countP fun p => p.2.parcel == i

/-- The start-up has not yet passed RETAINED_CHECK, or no start-up runs without main power or with RST_N low. -/
def beforeCheck (p : StartPhase) : Bool := p == .halted || p == .begin || p == .fuseLoad || p == .retainedCheck

/-- Grant counts agree with the grant table from RETAINED_CHECK on (02 R24, R31), every record names an entry in use,
and the two states in which no grant exists have none: STARTING (06 R110) and SERVICE mode (08 R141). -/
structure GrantsCounted (s : State) : Prop where
  counts : beforeCheck s.control.phase = false →
    ∀ i e, s.entry i = some e → e.grantCount = recordsNaming s i
  named : ∀ g r, s.grant g = some r → (s.entry r.parcel).isSome = true
  none : s.control.service = .starting ∨ s.stations.mode = .service →
    (∀ g, s.grant g = none) ∧ s.openQueue.waiting = []
  phase : s.control.phase ≠ .none → s.control.service = .starting
  startUpKat : s.engine.job = some (.kat .startUp) → s.control.phase = .engineTest

/-- The entry that record `r` names leaves with it (02 R26): `r` is its last record, and it is WITHDRAWN, or LAPSED with
purge due. -/
def leavesWith (s : State) (r : Grant) : Bool :=
  match s.entry r.parcel with
  | some e => decide (e.grantCount ≤ 1 ∧ (e.state = .withdrawn ∨ (e.state = .lapsed ∧ e.purgeDue = true)))
  | none => false

/-- `t` is `s` with the record `r` of grant slot `g` freed and its freeing reported (06 R93, 02 R24, R26): generation
advanced, expire list and SPAN_END left, the entry's count lowered, the entry freed when it is one that is freed at 0.
Every other deadline stays but for those of an entry freed; every key slot stays but for those an entry freed refers to,
and an entry that is freed so refers to none (02 R22). -/
structure RecordFreed (s t : State) (g : Nat) (r : Grant) : Prop where
  slot : t.grant g = none
  others : ∀ h, h ≠ g → t.grant h = s.grant h
  gens : t.grants.gens = s.grants.gens.modify g nextGen
  list : t.grants.expireList = s.grants.expireList.filter fun h => h != g
  spans : ∀ d ∈ t.deadlines, ¬(d.kind = .spanEnd ∧ d.ref = g)
  entry : ∀ e, s.entry r.parcel = some e → t.entry r.parcel =
    if e.grantCount ≤ 1 ∧ (e.state = .withdrawn ∨ (e.state = .lapsed ∧ e.purgeDue = true)) then none
    else some { e with grantCount := e.grantCount - 1 }
  entries : ∀ i, i ≠ r.parcel → t.entry i = s.entry i
  deadlines : t.deadlines = s.deadlines.filter fun d =>
    !(d.kind == .spanEnd && d.ref == g) && !(leavesWith s r && d.kind != .spanEnd && d.ref == r.parcel)
  keysLeft : leavesWith s r = false → t.store.keys = s.store.keys
  keysFreed : leavesWith s r = true → ∀ e, s.entry r.parcel = some e → t.store.keys = eraseKeys e.refs s.store.keys

/-- `t` is `s` after a KAT that failed (05 R75, R84): the job gone and the engine in FAULT; every WAITING open and
parcel refused ENGINE_FAULT; pass-over count 0, the KAT's uptime recorded, due flag clear; ENGINE_FAULT raised, and
FAULT with it where it was clear. The held result, the clock and start-up control are left to the caller. -/
structure FaultEntered (s t : State) : Prop where
  faulted : t.engine.faulted = true
  job : t.engine.job = none
  opens : t.openQueue = { waiting := [], due := s.openQueue.due ++
    s.openQueue.waiting.map (fun w => { who := w.who, code := .engineFault }) }
  parcels : t.store = { s.store with staging := s.store.staging.map fun p =>
    if p.phase = .waiting then { p with phase := .answerDue .engineFault } else p }
  arbiter : t.arbiter = { s.arbiter with passOver := 0, lastKat := s.clock.uptime, testDue := false }
  raised : s.attention.sources.length = 24 → (t.source Src.engineFault).status = true ∧
    ((s.source Src.engineFault).status = false → (t.source Src.fault).status = true)
  rest : t = { s with
    engine := t.engine
    openQueue := t.openQueue
    store := t.store
    arbiter := t.arbiter
    attention := t.attention
    clock := t.clock
    control := t.control }

/-! ## Parcel selection -/

/-- The condition of one step of 02 Table 2.4 on an entry in use, for a screen, its request and effective start `q`. -/
def narrows (st : Station) (w : OpenReq) (q : Nat) (e : ParcelEntry) : Nat → Prop
  | 1 => e.feature = w.feature ∧ st.fingerprint ∈ e.screens
  | 2 => e.state = .latent ∨ e.state = .live
  | 3 => e.ss ≤ q
  | 4 => q < e.es
  | 5 => ∀ k ∈ w.tracks, ∃ r ∈ e.refs, r.track = k
  | _ => True

/-- Entry `e` in place `i` is left after the first `n` steps (02 R28). -/
def LeftAfter (s : State) (st : Station) (w : OpenReq) (q n i : Nat) (e : ParcelEntry) : Prop :=
  s.entry i = some e ∧ ∀ m ≤ n, narrows st w q e m

/-- Step `n` leaves no candidate, and the steps before it left one (02 R28). -/
def LostAt (s : State) (st : Station) (w : OpenReq) (q n : Nat) : Prop :=
  (∀ i e, ¬LeftAfter s st w q n i e) ∧ (n = 1 ∨ ∃ i e, LeftAfter s st w q (n - 1) i e)

/-- Entry `e` in place `i` is the one that 02 R30 chooses: the largest Es, then the highest ingest sequence, then the
lowest index. -/
def Chosen (s : State) (st : Station) (w : OpenReq) (q i : Nat) (e : ParcelEntry) : Prop :=
  LeftAfter s st w q 5 i e ∧ ∀ j f, LeftAfter s st w q 5 j f → j ≠ i →
    f.es < e.es ∨ (f.es = e.es ∧ (f.ingestSeq < e.ingestSeq ∨ (f.ingestSeq = e.ingestSeq ∧ i < j)))

/-- Entry `e` in place `i` is the one that reclaim frees (01 R13): LAPSED with grant count 0, of those the smallest Es,
then the smallest ingest sequence, then the lowest index. -/
def Reclaimed (s : State) (i : Nat) (e : ParcelEntry) : Prop :=
  s.entry i = some e ∧ e.state = .lapsed ∧ e.grantCount = 0 ∧
    ∀ j f, s.entry j = some f → f.state = .lapsed → f.grantCount = 0 → j ≠ i →
      e.es < f.es ∨ (e.es = f.es ∧ (e.ingestSeq < f.ingestSeq ∨ (e.ingestSeq = f.ingestSeq ∧ i < j)))

/-- `t` differs from `s` in the grant table, the parcel table, the key store and the Deadline List at most. -/
def OnlyGrantsAndParcels (s t : State) : Prop :=
  t = { s with
    grants := t.grants
    deadlines := t.deadlines
    store := { s.store with table := t.store.table, keys := t.store.keys } }

/-! ## Requests by kind -/

/-- The row of a request kind. -/
def requestRow (k : Kind) (src : Addr) (tag : Byte) (body : List Byte) : Instr :=
  match k with
  | .status => .status src tag body
  | .parcelLoad => .parcelLoad src tag body
  | .parcelWithdraw => .parcelWithdraw src tag body
  | .parcelList => .parcelList src tag body
  | .openKeys => .openKeys src tag body
  | .close => .close src tag body
  | .extend => .extend src tag body
  | .grantList => .grantList src tag body
  | .timeTrim => .timeTrim src tag body
  | .timeSet => .timeSet src tag body
  | .stationEnrol => .stationEnrol src tag body
  | .stationRetire => .stationRetire src tag body
  | .stationSuspend => .stationSuspend src tag body
  | .stationResume => .stationResume src tag body
  | .stationRank => .stationRank src tag body
  | .stationList => .stationList src tag body
  | .modeKey => .modeKey src tag body
  | .modeChange => .modeChange src tag body
  | .settingWrite => .settingWrite src tag body
  | .settingRead => .settingRead src tag body
  | .zeroize => .zeroize src tag body
  | .noticeRead => .noticeRead src tag body
  | .noticeConfig => .noticeConfig src tag body
  | .selfTest => .selfTest src tag body
  | .restart => .restart src tag body

/-- 08 Table 8.2, by role; NOTICE_READ depends on its clear field. -/
def permitted (k : Kind) (body : List Byte) (r : Role) : Bool :=
  match k with
  | .status | .grantList => true
  | .openKeys | .close | .extend => r == .screen
  | .parcelList | .stationList | .settingRead => r == .programming || r == .monitor
  | .noticeRead => r == .programming || (r == .monitor && body.head? != some 1)
  | .parcelLoad | .parcelWithdraw | .timeTrim | .timeSet | .stationEnrol | .stationRetire | .stationSuspend
  | .stationResume | .stationRank | .modeKey | .modeChange | .settingWrite | .zeroize | .noticeConfig | .selfTest
  | .restart => r == .programming

/-- The requests of 08 Table 8.2 that are taken in SERVICE only, but for OPEN. -/
def serviceKinds : List Kind := [.stationEnrol, .stationRetire, .settingWrite, .zeroize, .timeSet, .selfTest]

/-! ## Commands that may do a guarded thing -/

/-- The commands in whose step the mode may change (08 R141): MODE_CHANGE, as a row or as the oldest stored frame, and
RETAINED_CHECK, which sets it to SERVICE. -/
def mayChangeMode (s : State) : Instr → Bool
  | .modeChange _ _ _ => true
  | .frameTake =>
    match s.link.stored with
    | f :: _ => kindOf f.kind == some .modeChange
    | [] => false
  | .retainedCheck _ => true
  | _ => false

end Sys2Proof.Machine
end

