-- ==== Sys2Proof/WellFormed.lean ====
section
/-! DEFINITION. The commands that the world outside the part can bring about. -/

namespace Sys2Proof

/-- The body of a frame the port can have stored: 0-2,048 bytes (09 Table 9.1, R150). -/
def bodyFits (body : List Byte) : Bool := body.length ≤ 2048

/-- Whether a command can occur. A request is the take of a frame the port stored, so its body is at most 2,048
bytes; the row UNKNOWN_KIND is the take of a frame whose kind is no request kind (09 R152). Every other command can
occur with any operands. -/
def WellFormed : Instr → Bool
  | .unknownKind _ _ kind body => bodyFits body && (kindOf kind).isNone
  | .status _ _ body => bodyFits body
  | .parcelLoad _ _ body => bodyFits body
  | .parcelWithdraw _ _ body => bodyFits body
  | .parcelList _ _ body => bodyFits body
  | .openKeys _ _ body => bodyFits body
  | .close _ _ body => bodyFits body
  | .extend _ _ body => bodyFits body
  | .grantList _ _ body => bodyFits body
  | .timeTrim _ _ body => bodyFits body
  | .timeSet _ _ body => bodyFits body
  | .stationEnrol _ _ body => bodyFits body
  | .stationRetire _ _ body => bodyFits body
  | .stationSuspend _ _ body => bodyFits body
  | .stationResume _ _ body => bodyFits body
  | .stationRank _ _ body => bodyFits body
  | .stationList _ _ body => bodyFits body
  | .modeKey _ _ body => bodyFits body
  | .modeChange _ _ body => bodyFits body
  | .settingWrite _ _ body => bodyFits body
  | .settingRead _ _ body => bodyFits body
  | .zeroize _ _ body => bodyFits body
  | .noticeRead _ _ body => bodyFits body
  | .noticeConfig _ _ body => bodyFits body
  | .selfTest _ _ body => bodyFits body
  | .restart _ _ body => bodyFits body
  | .frameHeader _ _ => true
  | .frameEnd _ => true
  | .holdRepeatTimer => true
  | .frameTake => true
  | .crystalSecond => true
  | .trimYearWrap => true
  | .mainClockSecond _ => true
  | .driftRunLimit => true
  | .openWaitTimeout => true
  | .periodicTestDue => true
  | .engineArbiterChoice => true
  | .katComplete _ => true
  | .verifyComplete _ => true
  | .rewrapComplete => true
  | .verifyPosting => true
  | .rewrapPosting => true
  | .selfTestPosting => true
  | .openAnswerDue => true
  | .stagingAnswerDue => true
  | .sendHold => true
  | .sendExpire => true
  | .sendAnswer => true
  | .sendNotice => true
  | .linkDown => true
  | .linkUp => true
  | .powerOn => true
  | .powerLoss => true
  | .resetLineAssert => true
  | .resetLineRelease => true
  | .startUpBegin => true
  | .fuseLoad => true
  | .retainedCheck _ => true
  | .clockCheck _ => true
  | .rebuild => true
  | .startUpEnd => true
  | .transmitFrameEnd => true
  | .retainedLoss => true

end Sys2Proof
end

