-- ==== Sys2Proof/Certificates/Slice0/Obligations.lean ====
section
/-! DEFINITION. The statements for the provers. "spec nn Rm" is rule Rm of the file of spec/ whose name begins with nn. -/

open Sys2Proof Sys2Proof.Machine

/-! ## The queue -/

/-- A step runs the command at the front of the queue on the state with the queue's rest. -/
def Obligations.FrontCommandRuns : Prop :=
  ∀ (c : Instr) (rest : List Instr) (s : State),
    step { s with pending := c :: rest } = exec c { s with pending := rest }

/-- With no command waiting the part idles. The model's choice (DESIGN CHOICE, log 3), no rule of the spec. -/
def Obligations.EmptyQueueIdles : Prop := ∀ s : State, s.pending = [] → step s = .next s

/-- Every command answers a next state, and none touches the queue of waiting commands. -/
def Obligations.EveryCommandRunsAndKeepsTheQueue : Prop :=
  ∀ (c : Instr) (s : State), ∃ t, exec c s = .next t ∧ t.pending = s.pending

/-- Table 12.2: each request kind has its value, ANSWER, HOLD, EXPIRE and NOTICE have 0x01 to 0x04, a kind's value names
that kind, and a byte that is no request kind's value, those four among them, names none. -/
def Obligations.KindValuesRead : Prop :=
  (∀ k : Kind, kindOf k.value = some k) ∧
  (∀ (b : Byte) (k : Kind), kindOf b = some k → b = k.value) ∧
  kindOf answerKind = none ∧ kindOf holdKind = none ∧ kindOf expireKind = none ∧ kindOf noticeKind = none ∧
  answerKind = 0x01 ∧ holdKind = 0x02 ∧ expireKind = 0x03 ∧ noticeKind = 0x04 ∧
  Kind.status.value = 0x10 ∧
  Kind.parcelLoad.value = 0x20 ∧ Kind.parcelWithdraw.value = 0x21 ∧ Kind.parcelList.value = 0x22 ∧
  Kind.openKeys.value = 0x30 ∧ Kind.close.value = 0x31 ∧ Kind.extend.value = 0x32 ∧ Kind.grantList.value = 0x33 ∧
  Kind.timeTrim.value = 0x40 ∧ Kind.timeSet.value = 0x41 ∧
  Kind.stationEnrol.value = 0x50 ∧ Kind.stationRetire.value = 0x51 ∧ Kind.stationSuspend.value = 0x52 ∧
  Kind.stationResume.value = 0x53 ∧ Kind.stationRank.value = 0x54 ∧ Kind.stationList.value = 0x55 ∧
  Kind.modeKey.value = 0x60 ∧ Kind.modeChange.value = 0x61 ∧ Kind.settingWrite.value = 0x62 ∧
  Kind.settingRead.value = 0x63 ∧ Kind.zeroize.value = 0x64 ∧
  Kind.noticeRead.value = 0x70 ∧ Kind.noticeConfig.value = 0x71 ∧ Kind.selfTest.value = 0x78 ∧
  Kind.restart.value = 0x7F

/-! ## Conditions that every step keeps -/

/-- The state after reset, with the contents the model chose for it (log 1, 2), meets every condition of the
invariants below. -/
def Obligations.ResetMeetsTheInvariants : Prop :=
  Capacities State.reset ∧ ValuesInRange State.reset ∧ InOrder State.reset.deadlines ∧
  ExpiryListed State.reset ∧ KeysReferenced State.reset ∧ GrantsCounted State.reset ∧
  ScreenLimit State.reset ∧ StationsDistinct State.reset ∧ DeadlinesMatch State.reset ∧ SpansListed State.reset

/-- Tables keep their length and queues keep to their places; a station slot keeps to two records and WAITING requests
(spec 06 R91); the station table keeps its limits: blocks, ranks, fingerprints and auditoriums distinct, role counts
within theirs (spec 08 R130). -/
def Obligations.CapacitiesKept : Prop :=
  (∀ s t : State, Capacities s → step s = .next t → Capacities t) ∧
  (∀ s t : State, ScreenLimit s → step s = .next t → ScreenLimit t) ∧
  (∀ s t : State, StationsDistinct s → step s = .next t → StationsDistinct t)

/-- The counts of booth time, the link counters, the ingest sequence counter, generations, extension used, tokens, the
notice threshold and levels, and every setting stay in their ranges (spec 01 R16, 03 Table 3.1, 04 R61, R63, 06 R89,
08 R145, R146, 09 R158, 10 R160). -/
def Obligations.ValuesKeptInRange : Prop :=
  ∀ s t : State, ValuesInRange s → step s = .next t → ValuesInRange t

/-- The Deadline List stays in ascending order of due (spec 07 R111). In a state whose grants are counted it stays in
agreement with the parcel table and the grant table: each deadline once, for an entry or record in a state that has it,
and every entry with its deadlines while the list serves (Table 7.1, R112, R113). With the tables at their lengths it
then holds at most 176 entries (R112). -/
def Obligations.DeadlinesKeptInOrder : Prop :=
  (∀ s t : State, InOrder s.deadlines → step s = .next t → InOrder t.deadlines) ∧
  (∀ s t : State, GrantsCounted s → DeadlinesMatch s → step s = .next t → DeadlinesMatch t) ∧
  (∀ s : State, Capacities s → DeadlinesMatch s → s.deadlines.length ≤ 176)

/-- The expire list stays the list of the EXPIRING records, each once, and SPAN_END deadlines stay those of OPEN
records (spec 06 R104, 07 Table 7.1). In a state whose grants are counted, every OPEN record keeps its SPAN_END at X in
the list while time runs and the part is out of STARTING (07 Table 7.1, R112): no grant is without an end. -/
def Obligations.ExpiryListKept : Prop :=
  (∀ s t : State, ExpiryListed s → step s = .next t → ExpiryListed t) ∧
  (∀ s t : State, GrantsCounted s → SpansListed s → step s = .next t → SpansListed t)

/-- A held key slot stays referenced by a LATENT or LIVE entry (spec 02 R21). -/
def Obligations.KeysReferencedKept : Prop :=
  ∀ s t : State, KeysReferenced s → step s = .next t → KeysReferenced t

/-- Grant counts stay equal to the number of records naming the entry, and STARTING and SERVICE stay without grants
(spec 02 R24, 06 R110, 08 R141). -/
def Obligations.GrantsCountedKept : Prop :=
  ∀ s t : State, GrantsCounted s → step s = .next t → GrantsCounted t

/-! ## Rules of the whole machine -/

/-- An entry that is LAPSED or WITHDRAWN never becomes LATENT or LIVE again (spec 02 R20). Where a VERIFY_POSTING
reclaims it and commits a parcel at its index, the new entry carries the next ingest sequence. -/
def Obligations.LapseIsOneWay : Prop :=
  ∀ (c : Instr) (s t : State) (i : Nat) (e e' : ParcelEntry),
    exec c s = .next t → s.entry i = some e → e.state = .lapsed ∨ e.state = .withdrawn → t.entry i = some e' →
    (e'.state = .lapsed ∨ e'.state = .withdrawn) ∨ (c = .verifyPosting ∧ e'.ingestSeq = satAdd s.store.ingestSeq 1)

/-- No command but REWRAP_POSTING places a GRANTED answer that carries anything (spec 05 R83: posting is the only step
at which wrapped keys leave the part). -/
def Obligations.OnlyPostingReleasesKeys : Prop :=
  ∀ (c : Instr) (s t : State) (a : Answer),
    exec c s = .next t → a ∈ t.link.answers → a.code = .granted → a.detail ≠ [] →
    a ∈ s.link.answers ∨ c = .rewrapPosting

/-- The mode changes by MODE_CHANGE and RETAINED_CHECK alone (spec 08 R141). -/
def Obligations.ModeChangesOnlyByItsCommands : Prop :=
  ∀ (c : Instr) (s t : State),
    exec c s = .next t → t.stations.mode ≠ s.stations.mode → mayChangeMode s c = true

/-- The Deadline List takes its due entries at booth time `n` (spec 07 R114). None due at or before `n` is left, and the
list is in order. A head beyond `n` fires nothing. A head that is due leaves the list, its owner acts, and the rest is
taken from the state as it then stands: a WINDOW_START makes its LATENT entry LIVE (R116); a WINDOW_END makes its entry
LAPSED, erases its slots and references, inserts its PURGE and raises PARCEL_LAPSED (R117); a PURGE frees its LAPSED
entry at grant count 0, or sets purge due (R118); a SPAN_END makes its OPEN record EXPIRING, SPAN, at the tail of the
expire list and raises GRANT_EXPIRED (06 R99). -/
def Obligations.FiringLeavesNothingDue : Prop :=
  ∀ (n : Nat) (s : State),
    (InOrder s.deadlines →
      InOrder (runDeadlines n s).deadlines ∧ ∀ d ∈ (runDeadlines n s).deadlines, n < d.due) ∧
    ((∀ d rest, s.deadlines = d :: rest → n < d.due) → runDeadlines n s = s) ∧
    ∀ (d : Deadline) (rest : List Deadline), s.deadlines = d :: rest → d.due ≤ n →
      (∀ e, s.entry d.ref = some e →
        (d.kind = .windowStart → e.state = .latent →
          runDeadlines n s = runDeadlines n { s with
            deadlines := rest
            store := { s.store with table := s.store.table.set d.ref (some { e with state := .live }) } }) ∧
        (d.kind = .windowEnd → e.holdsKeys = true →
          runDeadlines n s = runDeadlines n (raisePulse Src.parcelLapsed { s with
            deadlines := insertDeadline
              { due := min (e.es + s.stations.settings.purgeDelay * 60) 4294967295, kind := .purge, ref := d.ref } rest
            store := { s.store with
              table := s.store.table.set d.ref (some { e with state := .lapsed, refs := [] })
              keys := eraseKeys e.refs s.store.keys } }) ∧
          ∀ k, slotGet (eraseKeys e.refs s.store.keys) k =
            if k ∈ e.refs.map (fun r => r.slot) then none else slotGet s.store.keys k) ∧
        (d.kind = .purge → e.state = .lapsed → e.grantCount = 0 →
          runDeadlines n s = runDeadlines n { s with
            deadlines := rest.filter fun q => !(q.kind != .spanEnd && q.ref == d.ref)
            store := { s.store with
              table := s.store.table.set d.ref none, keys := eraseKeys e.refs s.store.keys } }) ∧
        (d.kind = .purge → e.state = .lapsed → 0 < e.grantCount →
          runDeadlines n s = runDeadlines n { s with
            deadlines := rest
            store := { s.store with table := s.store.table.set d.ref (some { e with purgeDue := true }) } })) ∧
      (∀ r, d.kind = .spanEnd → s.grant d.ref = some r → r.state = .opened →
        runDeadlines n s = runDeadlines n (raisePulse Src.grantExpired { s with
          deadlines := rest.filter fun q => !(q.kind == .spanEnd && q.ref == d.ref)
          grants := { s.grants with
            slots := s.grants.slots.set d.ref (some { r with state := .expiring .span })
            expireList := s.grants.expireList ++ [d.ref] } }))

/-- After a rebuild at `n` (spec 07 R122): every deadline lies beyond `n`; LATENT entries have n < Ss, LIVE ones
Ss ≤ n, both n < Es; a LAPSED entry in use has a purge due beyond `n`; each of them has its deadlines in the list, and
the list holds no other. A LATENT or LIVE entry with n < Es stays with every other field; one with Es ≤ n becomes LAPSED,
its references emptied, its slots erased and PARCEL_LAPSED raised; a LAPSED entry stays while its purge due lies beyond
`n` and is freed otherwise, one lapsed in this rebuild included; keys that no lapsed or freed entry refers to stay. -/
def Obligations.RebuildAgreesWithTime : Prop :=
  ∀ (n : Nat) (s : State),
    (∀ i e, s.entry i = some e →
      (e.holdsKeys = true → n < e.es →
        (rebuildList n s).entry i = some { e with state := if e.ss ≤ n then .live else .latent }) ∧
      (e.holdsKeys = true → e.es ≤ n →
        (∀ r ∈ e.refs, slotGet (rebuildList n s).store.keys r.slot = none) ∧
        (rebuildList n s).attention = (raisePulse Src.parcelLapsed s).attention ∧
        (s.attention.sources.length = 24 → ((rebuildList n s).source Src.parcelLapsed).status = true) ∧
        (rebuildList n s).entry i = if min (e.es + s.stations.settings.purgeDelay * 60) 4294967295 ≤ n then none
          else some { e with state := .lapsed, refs := [] }) ∧
      (e.state = .lapsed → (rebuildList n s).entry i =
        if min (e.es + s.stations.settings.purgeDelay * 60) 4294967295 ≤ n then none else some e) ∧
      (e.state = .withdrawn → (rebuildList n s).entry i = some e)) ∧
    (∀ i, s.entry i = none → (rebuildList n s).entry i = none) ∧
    ((∀ i e, s.entry i = some e → e.holdsKeys = true → n < e.es) → (rebuildList n s).attention = s.attention) ∧
    (∀ k, (∀ i e, s.entry i = some e → (e.holdsKeys = true ∧ e.es ≤ n) ∨ (e.state = .lapsed ∧ purgeAt s e ≤ n) →
        ∀ r ∈ e.refs, r.slot ≠ k) → slotGet (rebuildList n s).store.keys k = slotGet s.store.keys k) ∧
    rebuildList n s = { s with
      store := { s.store with table := (rebuildList n s).store.table, keys := (rebuildList n s).store.keys }
      deadlines := (rebuildList n s).deadlines
      attention := (rebuildList n s).attention } ∧
    (∀ d ∈ (rebuildList n s).deadlines, ∃ e, (rebuildList n s).entry d.ref = some e ∧
      d ∈ entryDeadlines s d.ref e) ∧
    (∀ d ∈ (rebuildList n s).deadlines, n < d.due) ∧ InOrder (rebuildList n s).deadlines ∧
    ∀ i e, (rebuildList n s).entry i = some e →
      (e.state = .latent → n < e.ss ∧ n < e.es ∧
        { due := e.ss, kind := .windowStart, ref := i } ∈ (rebuildList n s).deadlines ∧
        { due := e.es, kind := .windowEnd, ref := i } ∈ (rebuildList n s).deadlines) ∧
      (e.state = .live → e.ss ≤ n ∧ n < e.es ∧
        { due := e.es, kind := .windowEnd, ref := i } ∈ (rebuildList n s).deadlines) ∧
      (e.state = .lapsed → n < purgeAt s e ∧
        { due := purgeAt s e, kind := .purge, ref := i } ∈ (rebuildList n s).deadlines)

/-- In OPERATING a request of a kind that 08 Table 8.2 does not list for the sender's role is answered ROLE; one from a
SUSPENDED sender whose role passes is answered SUSPENDED, but for STATUS, and for OPEN, whose SUSPENDED check stands
later; one that SERVICE alone takes is answered MODE in SHOW. Nothing else changes (spec 08 R133, R134). That a
MONITOR's NOTICE_READ of another length than 1 is answered ROLE when its first byte is 1 is the model's choice (DEDUCED,
log 18). -/
def Obligations.RequestPermissions : Prop :=
  ∀ (k : Kind) (src : Addr) (tag : Byte) (body : List Byte) (s : State) (who : Sender), Served s src who →
    (permitted k body who.role = false →
      exec (requestRow k src tag body) s = .next (answered s src tag k .role [])) ∧
    (permitted k body who.role = true → who.isSuspended = true → k ≠ .status → k ≠ .openKeys →
      exec (requestRow k src tag body) s = .next (answered s src tag k .suspended [])) ∧
    (permitted k body who.role = true → who.isSuspended = false → k ∈ serviceKinds → s.stations.mode = .showing →
      exec (requestRow k src tag body) s = .next (answered s src tag k .mode []))

/-- In SEALED every known kind but STATUS and RESTART is answered SEALED; in OPERATING and SEALED alike a kind byte that
is no request kind is answered UNKNOWN_KIND with that byte; a source that matches nothing is discarded and counted
(spec 11 R173, 09 R152). -/
def Obligations.SealedUnknownAndStranger : Prop :=
  ∀ (src : Addr) (tag : Byte) (body : List Byte) (s : State), MayPost s →
    (∀ (k : Kind) (who : Sender), s.control.service = .sealedOff → matchSource s src = some who →
      k ≠ .status → k ≠ .restart →
      exec (requestRow k src tag body) s = .next (answered s src tag k .sealing [])) ∧
    (∀ (b : Byte) (who : Sender), kindOf b = none → matchSource s src = some who →
      exec (.unknownKind src tag b body) s = .next { s with link := { s.link with answers := s.link.answers ++
        [{ dst := src, tag := tag, kind := b, code := .unknownKind, detail := [] }] } }) ∧
    (∀ k : Kind, matchSource s src = none →
      exec (requestRow k src tag body) s = .next (raisePulse Src.stranger
        { s with link := { s.link with stranger := min (s.link.stranger + 1) 4294967295 } }))

/-- FRAME_TAKE takes the oldest stored frame: its slot is freed and occupancy falls, and then the frame is what the row
of its kind, or UNKNOWN_KIND, takes (spec 09 R152). It answers a next state in which the other stored frames stay in
their order. -/
def Obligations.FrameTakeSettlesTheOldestFrame : Prop :=
  ∀ (s : State) (f : Frame) (rest : List Frame), MayPost s → s.link.stored = f :: rest →
    (∀ k, kindOf f.kind = some k →
      exec .frameTake s = exec (requestRow k f.src f.tag f.body)
        (occupancyFell { s with link := { s.link with stored := rest } })) ∧
    (kindOf f.kind = none →
      exec .frameTake s = exec (.unknownKind f.src f.tag f.kind f.body)
        (occupancyFell { s with link := { s.link with stored := rest } })) ∧
    ∃ t, exec .frameTake s = .next t ∧ t.link.stored = rest ∧ t.link.arriving = s.link.arriving ∧
      t.pending = s.pending

/-! ## Arithmetic and outputs -/

/-- Stage 1 (spec 04 R55, Table 4.3): the four cases in their order, with the boundary values honoured. -/
def Obligations.EffectiveStartCases : Prop :=
  ∀ p n prep late : Nat, n ≤ 4294967295 → p ≤ 4294967295 →
    (p = 0 → effectiveStart p n prep late = some n) ∧
    (p ≠ 0 → p > min (n + prep) 4294967295 → effectiveStart p n prep late = none) ∧
    (p ≠ 0 → p ≤ min (n + prep) 4294967295 → p < (if late > n then 0 else n - late) →
      effectiveStart p n prep late = some n) ∧
    (p ≠ 0 → p ≤ min (n + prep) 4294967295 → (if late > n then 0 else n - late) ≤ p →
      effectiveStart p n prep late = some p) ∧
    (p ≠ 0 → p < n → effectiveStart p n prep 0 = some n) ∧
    (n < p → effectiveStart p n 0 late = none) ∧
    (n + prep ≤ 4294967295 → effectiveStart (n + prep) n prep late = some (n + prep)) ∧
    (late ≤ n → effectiveStart (n - late) n prep late = some (if n - late = 0 then n else n - late)) ∧
    (∀ q, effectiveStart p n prep late = some q → q = n ∨ q = p)

/-- The addition allowed to an EXTEND (spec 04 R61): the range limit, then the grant limit. -/
def Obligations.ExtensionAllowance : Prop :=
  ∀ requested used : Nat, used ≤ 7200 →
    (requested = 0 → allowedAddition requested used = min 1 (7200 - used)) ∧
    (3600 < requested → allowedAddition requested used = min 3600 (7200 - used)) ∧
    (1 ≤ requested → requested ≤ 3600 → allowedAddition requested used = min requested (7200 - used)) ∧
    (used = 7200 → allowedAddition requested used = 0) ∧
    used + allowedAddition requested used ≤ 7200

/-- A span end computed at selection lies after booth time and at most TAIL after the chosen entry's window end, and an
EXTEND never takes it beyond that (spec 04 R59, R62). -/
def Obligations.SpanEndWithinWindowAndTail : Prop :=
  (∀ (w : OpenReq) (s : State) (p : OpenPlan), planOpen w s = .ok p →
    s.now < p.x ∧ ∃ e, s.entry p.parcel = some e ∧ e.holdsKeys = true ∧
      p.x ≤ min (e.es + s.stations.settings.tail) 4294967295) ∧
  (∀ (s : State) (r : Grant) (e : ParcelEntry) (requested : Nat), s.entry r.parcel = some e →
    extendTo r requested s ≤ min (e.es + s.stations.settings.tail) 4294967295)

/-- Tokens brought up to date at uptime `u` (spec 04 R64). -/
def Obligations.TokensBroughtUpToDate : Prop :=
  ∀ tokens u burst refill : Nat,
    refreshTokens tokens none u burst refill = (min tokens burst, none) ∧
    ∀ m k : Nat, k = (u - m) / refill →
      (burst ≤ tokens + k → refreshTokens tokens (some m) u burst refill = (burst, none)) ∧
      (tokens + k < burst → refreshTokens tokens (some m) u burst refill = (tokens + k, some (m + k * refill)))

/-- ATTN_N is low exactly while some source is outstanding, out of STARTING and with power (spec 10 R164). -/
def Obligations.AttentionOutput : Prop :=
  ∀ s : State, s.attnLow = true ↔
    Awake s ∧ ∃ c ∈ s.attention.sources, c.status = true ∧ c.enable = true ∧
      ((c.mask = false ∧ s.attention.threshold < c.level) ∨ c.level = 7)

/-- Every frame the part sends passes the port's own end checks, and read back it is the frame sent (spec 12 R177,
Table 12.1). -/
def Obligations.SentFramesPassTheEndChecks : Prop :=
  ∀ f : TxFrame, f.body.length ≤ 2048 →
    frameGood f.wire = true ∧ f.wire.length = 12 + f.body.length ∧
    f.wire.take 4 = strBytes f.dst ++ strBytes f.src ∧
    storedFrame { dst := f.dst, src := f.src } f.wire =
      { src := f.src, kind := f.kind, tag := f.tag, body := f.body }

/-! ## STATUS and lists -/

/-- STATUS answers its 36 bytes in OPERATING and SEALED, to any matched sender, and changes nothing else (spec 09 R159,
12 Table 12.9). Any other body is MALFORMED, reason LENGTH. -/
def Obligations.StatusReports : Prop :=
  ∀ (src : Addr) (tag : Byte) (s : State) (who : Sender), MayPost s → matchSource s src = some who →
    (∃ d, exec (.status src tag []) s = .next (answered s src tag .status .ok d) ∧ d.length = 36 ∧
      d.take 3 = [s.control.service.value, s.stations.mode.value, s.clock.timeState.value] ∧
      field d 3 4 = beBytes 4 s.clock.boothTime ∧ field d 7 4 = beBytes 4 s.clock.uptime ∧
      field d 11 3 = [(engineState s.engine).value, s.control.cause.value, byte1 s.parcelsInUse] ∧
      field d 14 2 = beBytes 2 s.freeKeySlots ∧
      field d 16 4 = [byte1 s.grantCount, byte1 s.openQueue.waiting.length, byte1 s.store.staging.length,
        s.link.hold.value] ∧
      field d 20 4 = beBytes 4 s.link.good ∧ field d 24 4 = beBytes 4 s.link.stranger ∧
      field d 28 4 = beBytes 4 s.link.overrun ∧ field d 32 4 = beBytes 4 s.link.bad) ∧
    ∀ body : List Byte, body ≠ [] →
      exec (.status src tag body) s = .next (answered s src tag .status .malformed [1])

/-- PARCEL_LIST, GRANT_LIST, STATION_LIST and SETTING_READ are answered OK at once and change nothing else; the lengths
of their details are those of 12 Table 12.9, with at most 32 parcel summaries (spec 02 R34, 06 R109, 08 R140, R147). -/
def Obligations.ListingsAnswered : Prop :=
  ∀ (src : Addr) (tag : Byte) (s : State) (who : Sender), Served s src who → who.isSuspended = false →
    (∀ body : List Byte, who.role ≠ .screen → body.length = 1 → num body 0 1 < 64 →
      ∃ d, exec (.parcelList src tag body) s = .next (answered s src tag .parcelList .ok d) ∧
        d.length = 9 + 41 * min 32 ((listUsed s.store.table).filter fun p => num body 0 1 ≤ p.1).length ∧
        d.take 7 = [byte1 s.parcelsInUse] ++ beBytes 2 s.freeKeySlots ++ beBytes 4 s.store.ingestSeq) ∧
    (∃ d, exec (.grantList src tag []) s = .next (answered s src tag .grantList .ok d) ∧
      d.length = 5 + 21 * ((listUsed s.grants.slots).filter fun p =>
        who.role != .screen || who.slot == some p.2.station).length ∧
      d.take 4 = beBytes 4 s.clock.boothTime) ∧
    (who.role ≠ .screen →
      ∃ d, exec (.stationList src tag []) s = .next (answered s src tag .stationList .ok d) ∧
        d.length = 5 + 24 * countUsed s.stations.entries ∧ d.head? = some (flagByte (bootActive s))) ∧
    (∀ body : List Byte, who.role ≠ .screen → body.length = 1 → 1 ≤ num body 0 1 → num body 0 1 ≤ 13 →
      exec (.settingRead src tag body) s = .next (answered s src tag .settingRead .ok
        (if num body 0 1 = 12 then beBytes 4 s.clock.trimBudget ++ beBytes 4 (31536000 - s.clock.trimYear)
         else if num body 0 1 = 13 then beBytes 4 s.ownAddr.toNat
         else beBytes 4 (s.stations.settings.get (num body 0 1)))))

/-! ## Parcels -/

/-- PARCEL_LOAD at arrival (spec 01 R2, Table 1.2): the checks in their order, the refusals with nothing changed, and the
staging (R6) of a parcel that passes them all. -/
def Obligations.ParcelLoadArrival : Prop :=
  ∀ (src : Addr) (tag : Byte) (body : List Byte) (s : State) (who : Sender), Served s src who →
    exec (.parcelLoad src tag body) s = .next
      (if who.role ≠ .programming then answered s src tag .parcelLoad .role []
       else if who.isSuspended = true then answered s src tag .parcelLoad .suspended []
       else if s.engine.faulted = true then answered s src tag .parcelLoad .engineFault []
       else if s.clock.timeState = .lost then answered s src tag .parcelLoad .noTime []
       else match parcelForm body with
         | some b => answered s src tag .parcelLoad .malformed [b.value]
         | none =>
           if num body 28 4 * 60 ≤ s.clock.boothTime then answered s src tag .parcelLoad .ended []
           else if identifierHeld (str 64 body 0) s = true then answered s src tag .parcelLoad .duplicate []
           else if 2 ≤ s.store.staging.length then answered s src tag .parcelLoad .ingestBusy []
           else { s with store := { s.store with staging := s.store.staging ++
             [{ parcel := parcelOf body, answerTo := src, tag := tag, phase := .waiting }] } })

/-- PARCEL_WITHDRAW of a committed entry (spec 07 R125, R126): with grant count 0 it is freed; with grants it becomes
WITHDRAWN without keys, deadlines or purge due, and with FORCE its OPEN records become EXPIRING, in ascending slot
order. Other entries, other records, the keys of other slots and every deadline but the entry's own and the SPAN_END of
the records made EXPIRING are untouched; FORCED_EXPIRY is raised when a record was made EXPIRING (06 R100). -/
def Obligations.WithdrawalOfACommittedParcel : Prop :=
  ∀ (src : Addr) (tag : Byte) (body : List Byte) (s : State) (who : Sender) (i : Nat) (e : ParcelEntry),
    ServedProgrammer s src who → body.length = 9 → num body 8 1 < 2 →
    (∀ p ∈ s.store.staging, p.parcel.id ≠ str 64 body 0) →
    s.entry i = some e → e.id = str 64 body 0 → (∀ j f, s.entry j = some f → f.id = str 64 body 0 → j = i) →
    ∃ t, exec (.parcelWithdraw src tag body) s = .next t ∧
      (∀ j, j ≠ i → t.entry j = s.entry j) ∧
      (∀ r ∈ e.refs, slotGet t.store.keys r.slot = none) ∧
      (∀ k, (∀ r ∈ e.refs, r.slot ≠ k) → slotGet t.store.keys k = slotGet s.store.keys k) ∧
      t.deadlines = s.deadlines.filter (fun d => !(d.kind != .spanEnd && d.ref == i) &&
        !(decide (0 < e.grantCount) && num body 8 1 == 1 && d.kind == .spanEnd &&
          (reached (fun r => r.parcel == i) s).contains d.ref)) ∧
      (e.grantCount = 0 →
        t.entry i = none ∧ t.grants = s.grants ∧ t.attention = s.attention ∧
        t.link = (answered s src tag .parcelWithdraw .ok [3, 0, 0]).link) ∧
      (0 < e.grantCount →
        t.entry i = some { e with state := .withdrawn, refs := [], purgeDue := false } ∧
        (∀ g, t.grant g = (s.grant g).map fun r =>
          if num body 8 1 = 1 ∧ r.state = .opened ∧ r.parcel = i then { r with state := .expiring .withdrawn } else r) ∧
        t.grants.gens = s.grants.gens ∧
        t.grants.expireList = s.grants.expireList ++
          reached (fun r => num body 8 1 == 1 && r.parcel == i) s ∧
        (reached (fun r => num body 8 1 == 1 && r.parcel == i) s = [] → t.attention = s.attention) ∧
        (reached (fun r => num body 8 1 == 1 && r.parcel == i) s ≠ [] →
          t.attention = (raisePulse Src.forcedExpiry s).attention ∧
          (s.attention.sources.length = 24 → (t.source Src.forcedExpiry).status = true)) ∧
        t.link = (answered s src tag .parcelWithdraw .ok
          [4, byte1 (reached (fun r => num body 8 1 == 1 && r.parcel == i) s).length, byte1 e.grantCount]).link) ∧
      t = { s with
        store := { s.store with table := t.store.table, keys := t.store.keys }
        deadlines := t.deadlines
        grants := t.grants
        attention := t.attention
        link := t.link }

/-- PARCEL_WITHDRAW of a staged parcel (spec 07 R124): a WAITING place passes to ANSWER_DUE with WITHDRAWN, and the
pass-over count becomes 0 if it was the head; a VERIFYING head gets its mark; an identifier held nowhere is
UNKNOWN_PARCEL. -/
def Obligations.WithdrawalOfAStagedParcel : Prop :=
  ∀ (src : Addr) (tag : Byte) (body : List Byte) (s : State) (who : Sender),
    ServedProgrammer s src who → body.length = 9 → num body 8 1 < 2 →
    (∀ (p : StagingPlace) (rest : List StagingPlace), s.store.staging = p :: rest → p.parcel.id = str 64 body 0 →
      (p.phase = .waiting →
        exec (.parcelWithdraw src tag body) s = .next (answered
          { s with
            store := { s.store with staging := { p with phase := .answerDue .withdrawn } :: rest }
            arbiter := { s.arbiter with passOver := 0 } } src tag .parcelWithdraw .ok [1, 0, 0])) ∧
      (∀ mark, p.phase = .verifying mark →
        exec (.parcelWithdraw src tag body) s = .next (answered
          { s with store := { s.store with staging := { p with phase := .verifying true } :: rest } }
          src tag .parcelWithdraw .ok [2, 0, 0]))) ∧
    (∀ p q : StagingPlace, s.store.staging = [p, q] → p.parcel.id ≠ str 64 body 0 → q.parcel.id = str 64 body 0 →
      q.phase = .waiting →
        exec (.parcelWithdraw src tag body) s = .next (answered
          { s with store := { s.store with staging := [p, { q with phase := .answerDue .withdrawn }] } }
          src tag .parcelWithdraw .ok [1, 0, 0])) ∧
    ((∀ p ∈ s.store.staging, p.parcel.id = str 64 body 0 → ∃ c, p.phase = .answerDue c) →
      (∀ j f, s.entry j = some f → f.id ≠ str 64 body 0) →
        exec (.parcelWithdraw src tag body) s = .next (answered s src tag .parcelWithdraw .unknownParcel []))

/-! ## Opens and grants -/

/-- OPEN admission (spec 05 R68, R69, Table 5.2): the checks in their order; the tokens are brought up to date from check
9 on, whatever follows; an admitted request spends a token and joins the queue with its runtime clamped. -/
def Obligations.OpenAdmission : Prop :=
  ∀ (src : Addr) (tag : Byte) (body : List Byte) (s : State) (slot : Nat) (e : Station),
    Served s src (.station slot e) →
    exec (.openKeys src tag body) s = .next
      (if e.role ≠ .screen then answered s src tag .openKeys .role []
       else if s.stations.mode = .service then answered s src tag .openKeys .mode []
       else if s.engine.faulted = true then answered s src tag .openKeys .engineFault []
       else if s.clock.timeState = .lost then answered s src tag .openKeys .noTime []
       else match openForm body with
         | some b => answered s src tag .openKeys .malformed [b.value]
         | none =>
           if e.state = .suspended then answered s src tag .openKeys .suspended []
           else if 2 ≤ ((listUsed s.grants.slots).filter fun p => p.2.station == slot).length +
               (s.openQueue.waiting.filter fun w => w.station == slot).length then
             answered s src tag .openKeys .screenLimit []
           else if effectiveStart (num body 16 4) s.clock.boothTime s.stations.settings.prep
               s.stations.settings.late = none then answered s src tag .openKeys .tooEarly []
           else
             let up := refreshTokens e.tokens e.mark s.clock.uptime s.stations.settings.openBurst
               s.stations.settings.openRefill
             let fresh := s.setStation slot (some { e with tokens := up.1, mark := up.2 })
             if up.1 = 0 then answered (raisePulse Src.rateLimited fresh) src tag .openKeys .rateLimit []
             else if 16 ≤ s.openQueue.waiting.length + s.openQueue.due.length then
               answered fresh src tag .openKeys .queueFull []
             else
               { s.setStation slot
                   (some { e with tokens := up.1 - 1, mark := some (up.2.getD s.clock.uptime) }) with
                 openQueue := { s.openQueue with waiting := s.openQueue.waiting ++
                   [{ station := slot, who := { addr := src, tag := tag }, feature := str 128 body 0,
                      tracks := openTracks body, planned := num body 16 4,
                      runtime := max 60 (min 21600 (num body 20 4)), arrival := s.clock.uptime }] } })

/-- CLOSE naming a record the station holds frees it, OPEN with OK and EXPIRING with EXPIRED and its reason (spec 06 R97,
R98). A handle that names none is UNKNOWN_GRANT and changes nothing (R96). -/
def Obligations.CloseFreesTheRecord : Prop :=
  ∀ (src : Addr) (tag : Byte) (body : List Byte) (s : State) (slot : Nat) (st : Station),
    ServedScreen s src slot st → body.length = 2 →
    (∀ r : Grant, s.grant (num body 0 1) = some r → r.station = slot →
      s.grants.gens.getD (num body 0 1) 0 = num body 1 1 →
      (r.state = .opened →
        ∃ t, exec (.close src tag body) s =
            .next (answered t src tag .close .ok
              ([byte1 (num body 0 1), byte1 (num body 1 1)] ++ beBytes 4 r.x)) ∧
          RecordFreed s t (num body 0 1) r ∧ OnlyGrantsAndParcels s t) ∧
      (∀ why, r.state = .expiring why →
        ∃ t, exec (.close src tag body) s =
            .next (answered t src tag .close .expired
              ([byte1 (num body 0 1), byte1 (num body 1 1), why.value] ++ beBytes 4 r.x)) ∧
          RecordFreed s t (num body 0 1) r ∧ OnlyGrantsAndParcels s t)) ∧
    ((∀ r : Grant, s.grant (num body 0 1) = some r →
        r.station ≠ slot ∨ s.grants.gens.getD (num body 0 1) 0 ≠ num body 1 1 ∨ ∃ q, r.state = .opening q) →
      exec (.close src tag body) s = .next (answered s src tag .close .unknownGrant []))

/-- EXTEND of an OPEN record whose parcel is not WITHDRAWN (spec 04 R62, 06 R107): the new span end, the extension used,
the moved SPAN_END, OK or CLAMPED; and nothing moved when no second is added. -/
def Obligations.ExtendMovesTheSpanEnd : Prop :=
  ∀ (src : Addr) (tag : Byte) (body : List Byte) (s : State) (slot : Nat) (st : Station) (r : Grant)
    (e : ParcelEntry),
    ServedScreen s src slot st → body.length = 6 →
    s.grant (num body 0 1) = some r → r.station = slot → s.grants.gens.getD (num body 0 1) 0 = num body 1 1 →
    r.state = .opened → s.entry r.parcel = some e → e.state ≠ .withdrawn →
    ∀ x : Nat, x = min (min (r.x + min (max 1 (min 3600 (num body 2 4))) (7200 - r.used)) 4294967295)
        (min (e.es + s.stations.settings.tail) 4294967295) →
      (r.x < x →
        exec (.extend src tag body) s = .next (answered
          { s with
            grants := { s.grants with slots := (s.grants.slots.set (num body 0 1)
              (some { r with x := x, used := r.used + (x - r.x) })) }
            deadlines := (insertDeadline { due := x, kind := .spanEnd, ref := num body 0 1 }
              (s.deadlines.filter fun d => !(d.kind == .spanEnd && d.ref == num body 0 1))) }
          src tag .extend (if x - r.x = num body 2 4 then .ok else .clamped)
          ([byte1 (num body 0 1), byte1 (num body 1 1)] ++ beBytes 4 x ++ beBytes 2 (x - r.x) ++
            beBytes 2 (r.used + (x - r.x))))) ∧
      (x ≤ r.x →
        exec (.extend src tag body) s = .next (answered s src tag .extend .clamped
          ([byte1 (num body 0 1), byte1 (num body 1 1)] ++ beBytes 4 r.x ++ beBytes 2 0 ++ beBytes 2 r.used)))

/-! ## Booth time -/

/-- TIME_TRIM (spec 03 R45, R46): the applied trim by the four limits, booth time, budget, floor, answer and
TRIM_CLAMPED; uptime, trim-year counter, drift run and time state stay, and with an applied trim of 0 parcels, grants
and deadlines stay too. A forward trim is one event of the Deadline List at the new booth time (07 R115). A backward one
returns to LATENT each LIVE entry whose window start lies ahead and inserts its WINDOW_START again; keys, grants and
every other deadline stay (07 R119). -/
def Obligations.TrimApplied : Prop :=
  ∀ (src : Addr) (tag : Byte) (body : List Byte) (s : State) (who : Sender),
    ServedProgrammer s src who → s.clock.timeState = .running → s.clock.boothTime ≤ 4294967295 → body.length = 4 →
    ∀ d a1 a2 a3 a : Int,
      d = (if num body 0 4 < 2147483648 then (num body 0 4 : Int) else (num body 0 4 : Int) - 4294967296) →
      a1 = max (-3600) (min 3600 d) →
      a2 = max (-(s.clock.trimBudget : Int)) (min (s.clock.trimBudget : Int) a1) →
      a3 = (if 4294967295 - (s.clock.boothTime : Int) < a2 then 4294967295 - (s.clock.boothTime : Int) else a2) →
      a = (if a3 < -(s.clock.boothTime : Int) then -(s.clock.boothTime : Int) else a3) →
      ∃ t, exec (.timeTrim src tag body) s = .next t ∧
        (t.clock.boothTime : Int) = s.clock.boothTime + a ∧
        (t.clock.trimBudget : Int) = s.clock.trimBudget - a.natAbs ∧
        (s.clock.trimBudget ≤ 360 → t.clock.trimBudget ≤ 360) ∧
        t.clock.floor = (if 0 < a ∧ s.clock.boothTime / 60 < t.clock.boothTime / 60
          then max s.clock.floor t.clock.boothTime else s.clock.floor) ∧
        t.clock.uptime = s.clock.uptime ∧ t.clock.trimYear = s.clock.trimYear ∧
        t.clock.driftRun = s.clock.driftRun ∧ t.clock.timeState = .running ∧
        t.link = (answered s src tag .timeTrim (if a = d then .ok else .clamped)
          (beBytes 4 (a % 4294967296).toNat ++ beBytes 4 t.clock.boothTime ++ beBytes 2 t.clock.trimBudget)).link ∧
        (a ≠ d → s.attention.sources.length = 24 → (t.source Src.trimClamped).status = true) ∧
        (a = 0 → t.store = s.store ∧ t.grants = s.grants ∧ t.deadlines = s.deadlines) ∧
        (0 < a → InOrder s.deadlines → ∀ q ∈ t.deadlines, t.clock.boothTime < q.due) ∧
        (0 < a → ∀ r, r = runDeadlines t.clock.boothTime { s with clock := t.clock } →
          t.store = r.store ∧ t.grants = r.grants ∧ t.deadlines = r.deadlines ∧
          (a = d → t.attention = r.attention)) ∧
        (a < 0 → t.grants = s.grants ∧ t.store = { s.store with table := t.store.table } ∧
          (∀ i e, s.entry i = some e → t.entry i = some
            (if e.state = .live ∧ t.clock.boothTime < e.ss then { e with state := .latent } else e)) ∧
          (∀ i, s.entry i = none → t.entry i = none) ∧
          (∀ q, q ∈ t.deadlines ↔ q ∈ s.deadlines ∨ ∃ i e, s.entry i = some e ∧ e.state = .live ∧
            t.clock.boothTime < e.ss ∧ q = { due := e.ss, kind := .windowStart, ref := i }) ∧
          (InOrder s.deadlines → InOrder t.deadlines))

/-- TIME_SET in SERVICE with the time LOST (spec 03 R48): booth time is the larger of `v` and the floor, the time state
RUNNING, TIME_LOST clear; Deadline List and Parcel Store are those of the rebuild at that booth time (spec 07 R121, R122;
what a rebuild leaves is `RebuildAgreesWithTime`); floor, budget, trim year, uptime and drift run stay. -/
def Obligations.TimeSetEstablishesTime : Prop :=
  ∀ (src : Addr) (tag : Byte) (body : List Byte) (s : State) (who : Sender),
    ServedProgrammer s src who → s.stations.mode = .service → s.clock.timeState = .lost → body.length = 4 →
    ∃ t, exec (.timeSet src tag body) s = .next t ∧
      t.clock = { s.clock with boothTime := max (num body 0 4) s.clock.floor, timeState := .running } ∧
      (t.source Src.timeLost).status = false ∧
      (s.attention.sources.length = 24 → (t.source Src.fault).status = (s.source Src.fault).status) ∧
      (∀ q ∈ t.deadlines, t.clock.boothTime < q.due) ∧
      (∀ r, r = rebuildList (max (num body 0 4) s.clock.floor) (clearLevel Src.timeLost { s with clock :=
          { s.clock with boothTime := max (num body 0 4) s.clock.floor, timeState := .running } }) →
        t.deadlines = r.deadlines ∧ t.store = r.store ∧ t.attention = r.attention) ∧
      t.link = (answered s src tag .timeSet (if num body 0 4 < s.clock.floor then .clamped else .ok)
        (beBytes 4 t.clock.boothTime ++ beBytes 4 s.clock.floor)).link ∧
      t.stations = s.stations ∧ t.openQueue = s.openQueue ∧ t.arbiter = s.arbiter ∧ t.engine = s.engine ∧
      t.grants = s.grants ∧ t.fuses = s.fuses ∧ t.control = s.control

/-! ## Stations, modes, settings -/

/-- STATION_ENROL past its checks (spec 08 R136): the lowest FREE slot holds the fields of the body, ENROLLED, with
OPEN_BURST tokens and an idle mark, and a wrap key only for a SCREEN; the answer is OK with the slot. -/
def Obligations.EnrolTakesTheLowestFreeSlot : Prop :=
  ∀ (src : Addr) (tag : Byte) (body : List Byte) (s : State) (who : Sender) (i : Nat) (r : Role),
    ServedProgrammer s src who → s.stations.mode = .service → body.length = 54 →
    lowestFree s.stations.entries = some i → roleOf (body.getD 0 0) = some r → roleCount s r < roleLimit r →
    enrolmentValid (enrolmentOf body) = true → num body 1 2 % num body 3 1 = 0 →
    addressCollisions (enrolmentOf body) s = [] →
    (∀ j t, s.station j = some t → t.fingerprint ≠ str 128 body 4 ∧
      (r = .screen → t.role = .screen → t.rank ≠ num body 21 1 ∧ t.auditorium ≠ num body 20 1)) →
    exec (.stationEnrol src tag body) s = .next (answered (s.setStation i (some
      { state := .enrolled, role := r, base := str 16 body 1, size := num body 3 1, fingerprint := str 128 body 4,
        auditorium := num body 20 1, rank := num body 21 1,
        wrapKey := if r = .screen then some (str 256 body 22) else none,
        tokens := s.stations.settings.openBurst, mark := none })) src tag .stationEnrol .ok [byte1 i])

/-- STATION_RETIRE, STATION_RESUME and STATION_RANK past their checks (spec 08 R137, R138, R139): the named entry becomes
FREE, ENROLLED, or takes the rank; nothing else changes and the answer is OK. A retirement passes but where the target is
an ENROLLED PROGRAMMING entry, no other one is ENROLLED and another one is SUSPENDED: that is LAST_PROGRAMMING, and
nothing changes. -/
def Obligations.RetireResumeAndRank : Prop :=
  ∀ (src : Addr) (tag : Byte) (body : List Byte) (s : State) (who : Sender) (e : Station),
    ServedProgrammer s src who → num body 0 1 < 32 → s.station (num body 0 1) = some e →
    (body.length = 1 → s.stations.mode = .service → e.role ≠ .programming ∨ e.state ≠ .enrolled →
      exec (.stationRetire src tag body) s = .next
        (answered (s.setStation (num body 0 1) none) src tag .stationRetire .ok [])) ∧
    (body.length = 1 → s.stations.mode = .service →
      (∃ j f, s.station j = some f ∧ j ≠ num body 0 1 ∧ f.role = .programming ∧ f.state = .enrolled) →
      exec (.stationRetire src tag body) s = .next
        (answered (s.setStation (num body 0 1) none) src tag .stationRetire .ok [])) ∧
    (body.length = 1 → s.stations.mode = .service → e.role = .programming → e.state = .enrolled →
      (∀ j f, s.station j = some f → j ≠ num body 0 1 → f.role = .programming → f.state = .suspended) →
      (∃ j f, s.station j = some f ∧ j ≠ num body 0 1 ∧ f.role = .programming) →
      exec (.stationRetire src tag body) s = .next (answered s src tag .stationRetire .lastProgramming [])) ∧
    (body.length = 1 → s.stations.mode = .service →
      (∀ j f, s.station j = some f → j ≠ num body 0 1 → f.role ≠ .programming) →
      exec (.stationRetire src tag body) s = .next
        (answered (s.setStation (num body 0 1) none) src tag .stationRetire .ok [])) ∧
    (body.length = 1 →
      exec (.stationResume src tag body) s = .next (answered
        (s.setStation (num body 0 1) (some { e with state := .enrolled })) src tag .stationResume .ok [])) ∧
    (body.length = 2 → e.role = .screen → 1 ≤ num body 1 1 → num body 1 1 ≤ 31 →
      (∀ j f, s.station j = some f → j ≠ num body 0 1 → f.role = .screen → f.rank ≠ num body 1 1) →
      exec (.stationRank src tag body) s = .next (answered
        (s.setStation (num body 0 1) (some { e with rank := num body 1 1 })) src tag .stationRank .ok []))

/-- STATION_SUSPEND (spec 08 R138). Of an ENROLLED screen (05 R73, 06 R100, R101): the entry is SUSPENDED, its WAITING
opens are ANSWER_DUE with SUSPENDED in queue order, its OPEN grants EXPIRING with reason SUSPENDED in slot order, their
SPAN_ENDs gone and FORCED_EXPIRY raised if there was one, and the answer carries both numbers; other stations' places and
records and other deadlines stay. Of an ENROLLED PROGRAMMING or MONITOR entry: SUSPENDED, both numbers 0, nothing else
changed. Of one already SUSPENDED: OK with both numbers 0 and nothing changed. LAST_PROGRAMMING and SELF change
nothing. -/
def Obligations.SuspensionStopsAScreen : Prop :=
  ∀ (src : Addr) (tag : Byte) (body : List Byte) (s : State) (who : Sender) (e : Station) (i : Nat),
    ServedProgrammer s src who → body.length = 1 → i = num body 0 1 → i < 32 → s.station i = some e →
    (e.state = .suspended → who.slot ≠ some i →
      (e.role = .programming → ∃ j f, j ≠ i ∧ s.station j = some f ∧ f.role = .programming ∧ f.state = .enrolled) →
      exec (.stationSuspend src tag body) s = .next (answered s src tag .stationSuspend .ok [0, 0])) ∧
    (e.state = .enrolled → e.role ≠ .screen → who.slot ≠ some i →
      (e.role = .programming → ∃ j f, j ≠ i ∧ s.station j = some f ∧ f.role = .programming ∧ f.state = .enrolled) →
      exec (.stationSuspend src tag body) s = .next (answered
        (s.setStation i (some { e with state := .suspended })) src tag .stationSuspend .ok [0, 0])) ∧
    (e.role = .programming →
      (∀ j f, j ≠ i → s.station j = some f → f.role = .programming → f.state = .suspended) →
      exec (.stationSuspend src tag body) s = .next (answered s src tag .stationSuspend .lastProgramming [])) ∧
    (who.slot = some i →
      (∃ j f, j ≠ i ∧ s.station j = some f ∧ f.role = .programming ∧ f.state = .enrolled) →
      exec (.stationSuspend src tag body) s = .next (answered s src tag .stationSuspend .ownEntry [])) ∧
    (e.role = .screen → e.state = .enrolled →
     ∃ t, exec (.stationSuspend src tag body) s = .next t ∧
      t.deadlines = s.deadlines.filter (fun d =>
        !(d.kind == .spanEnd && (reached (fun r => r.station == i) s).contains d.ref)) ∧
      (reached (fun r => r.station == i) s = [] → t.attention = s.attention) ∧
      (reached (fun r => r.station == i) s ≠ [] →
        t.attention = (raisePulse Src.forcedExpiry s).attention ∧
        (s.attention.sources.length = 24 → (t.source Src.forcedExpiry).status = true)) ∧
      t.stations = (s.setStation i (some { e with state := .suspended })).stations ∧
      t.openQueue.waiting = s.openQueue.waiting.filter (fun w => w.station != i) ∧
      t.openQueue.due = s.openQueue.due ++
        (s.openQueue.waiting.filter fun w => w.station == i).map (fun w => { who := w.who, code := .suspended }) ∧
      (∀ g, t.grant g = (s.grant g).map fun r =>
        if r.state = .opened ∧ r.station = i then { r with state := .expiring .suspended } else r) ∧
      t.grants.expireList = s.grants.expireList ++ reached (fun r => r.station == i) s ∧
      t.grants.gens = s.grants.gens ∧
      t.link = (answered s src tag .stationSuspend .ok
        [byte1 (reached (fun r => r.station == i) s).length,
         byte1 (s.openQueue.waiting.filter fun w => w.station == i).length]).link ∧
      t.store = s.store ∧ t.clock = s.clock ∧ t.engine = s.engine ∧ t.arbiter = s.arbiter ∧
      t.fuses = s.fuses ∧ t.control = s.control)

/-- MODE_KEY fills the holder (spec 08 R142); MODE_CHANGE runs the three steps of R143. -/
def Obligations.ModeKeyAndModeChange : Prop :=
  ∀ (src : Addr) (tag : Byte) (body : List Byte) (s : State) (who : Sender), ServedProgrammer s src who →
    (body.length = 16 →
      exec (.modeKey src tag body) s = .next (answered
        { s with stations := { s.stations with keyHolder := some (str 128 body 0) } } src tag .modeKey .ok [])) ∧
    (∀ m : Mode, body = [m.value] →
      let emptied : State := { s with stations := { s.stations with keyHolder := none } }
      let counted (n : Nat) : State := { s with stations := { s.stations with keyHolder := none, mismatch := n } }
      let reset := counted 0
      exec (.modeChange src tag body) s = .next
        (if 4 ≤ s.stations.mismatch then
          answered emptied src tag .modeChange .locked [s.stations.mode.value, byte1 s.stations.mismatch]
         else if s.stations.keyHolder = none ∨ s.stations.keyHolder ≠ s.fuses.held.modeKey then
          answered (raisePulse Src.keyMismatch (counted (s.stations.mismatch + 1))) src tag .modeChange .keyMismatch
            [s.stations.mode.value, byte1 (s.stations.mismatch + 1)]
         else if m = s.stations.mode then answered reset src tag .modeChange .ok [m.value, 0]
         else if m = .service then
          if s.grantCount ≠ 0 then answered reset src tag .modeChange .grantsOpen [s.stations.mode.value, 0]
          else answered (raisePulse Src.modeChanged
            { s with
              stations := { s.stations with keyHolder := none, mismatch := 0, mode := .service }
              openQueue := { waiting := [], due := s.openQueue.due ++
                s.openQueue.waiting.map (fun w => { who := w.who, code := .mode }) } })
            src tag .modeChange .ok [m.value, 0]
         else if s.clock.timeState = .lost then
          answered reset src tag .modeChange .noTime [s.stations.mode.value, 0]
         else if s.engine.faulted = true then
          answered reset src tag .modeChange .engineFault [s.stations.mode.value, 0]
         else answered (raisePulse Src.modeChanged
            { s with stations := { s.stations with keyHolder := none, mismatch := 0, mode := .showing } })
            src tag .modeChange .ok [m.value, 0]))

/-- SETTING_WRITE of one of the eleven settings (spec 08 R146): the named setting holds the clamped value, unless it is a
HOLD_LOW that HOLD_HIGH lowers; HOLD_LOW ends below HOLD_HIGH; every other setting stays; CLAMPED exactly when something
was adjusted. -/
def Obligations.SettingWriteClampsAndOrders : Prop :=
  ∀ (src : Addr) (tag : Byte) (body : List Byte) (s : State) (who : Sender) (n v : Nat),
    ServedProgrammer s src who → s.stations.mode = .service → body.length = 5 →
    n = num body 0 1 → v = num body 1 4 → 1 ≤ n → n ≤ 11 → settingsFit s.stations.settings →
    ∃ (t : Settings) (d : List Byte), d.length = 5 ∧ d.take 4 = beBytes 4 (t.get n) ∧
      exec (.settingWrite src tag body) s = .next (answered { s with stations := { s.stations with settings := t } }
        src tag .settingWrite
        (if t.get n = v ∧ (n = 8 ∨ t.holdLow = s.stations.settings.holdLow) then .ok else .clamped) d) ∧
      settingsFit t ∧
      (n ≠ 8 → settingFits n v → t.get n = v) ∧
      (n ≠ 8 → v < (settingRange n).1 → ¬(n = 10 ∧ v = 0) → t.get n = (settingRange n).1) ∧
      (n ≠ 8 → (settingRange n).2 < v → t.get n = (settingRange n).2) ∧
      (n = 8 → t.holdLow = min (max 1 (min 10 v)) (s.stations.settings.holdHigh - 1)) ∧
      (n = 7 → t.holdLow = min s.stations.settings.holdLow (t.holdHigh - 1)) ∧
      (∀ m, m ≠ n → m ≠ 8 → t.get m = s.stations.settings.get m) ∧
      (n ≠ 7 → n ≠ 8 → t.holdLow = s.stations.settings.holdLow)

/-- ZEROIZE (spec 08 R144): the OK answer behind those waiting; tables, keys, queues, deadlines and holder emptied;
settings and attention configuration at their defaults; a VERIFY discarded; every other job and held result, status,
history and pending-notice flags, clock, fuses, modes and counts kept. -/
def Obligations.ZeroizeErases : Prop :=
  ∀ (src : Addr) (tag : Byte) (s : State) (who : Sender),
    ServedProgrammer s src who → s.stations.mode = .service →
    ∃ t, exec (.zeroize src tag []) s = .next t ∧
      (∀ i, t.entry i = none) ∧ (∀ k, slotGet t.store.keys k = none) ∧ (∀ i, t.station i = none) ∧
      (∀ g, t.grant g = none) ∧ t.deadlines = [] ∧ t.store.staging = [] ∧ t.openQueue = { waiting := [], due := [] } ∧
      t.grants.expireList = [] ∧ t.grants.gens = s.grants.gens ∧
      t.stations.keyHolder = none ∧ t.stations.settings = s.fuses.held.defaults ∧
      t.stations.mode = .service ∧ t.stations.mismatch = s.stations.mismatch ∧
      t.store.ingestSeq = s.store.ingestSeq ∧ t.arbiter = { s.arbiter with passOver := 0 } ∧
      t.engine.job ≠ some .verify ∧ t.engine.held ≠ some .verifyFail ∧
      (∀ ks, t.engine.held ≠ some (.verifyPass ks)) ∧ t.engine.faulted = s.engine.faulted ∧
      (s.engine.job ≠ some .verify → t.engine.job = s.engine.job) ∧
      (s.engine.held ≠ some .verifyFail → (∀ ks, s.engine.held ≠ some (.verifyPass ks)) →
        t.engine.held = s.engine.held) ∧
      (s.attention.sources.length = 24 → t.attention.threshold = 2 ∧
        t.attention.sources.map (fun c => (c.enable, c.mask, c.level)) =
          defaultLevels.map (fun l => (true, false, l)) ∧
        t.attention.sources.map (fun c => (c.status, c.history, c.pending)) =
          s.attention.sources.map (fun c => (c.status, c.history, c.pending))) ∧
      t.clock = s.clock ∧ t.fuses = s.fuses ∧ t.control = s.control ∧
      t.link = (answered s src tag .zeroize .ok []).link

/-! ## Notices -/

/-- NOTICE_READ (spec 10 R166): 146 bytes of the values before any clearing; without clear nothing changes; with clear
every status goes to history and pulse sources (7 and up) clear, and flags and configuration stay. -/
def Obligations.NoticesRead : Prop :=
  ∀ (src : Addr) (tag : Byte) (s : State) (who : Sender),
    Served s src who → who.isSuspended = false → s.attention.sources.length = 24 →
    ∃ d, d.length = 146 ∧ d.drop 144 = [byte1 s.attention.threshold, flagByte s.attnLow] ∧
      (∀ n, n < 24 → field d (6 * n) 6 =
        [flagByte (s.source n).status, flagByte (s.source n).history, flagByte (s.source n).pending,
         flagByte (s.source n).enable, flagByte (s.source n).mask, byte1 (s.source n).level]) ∧
      (who.role ≠ .screen →
        exec (.noticeRead src tag [0]) s = .next (answered s src tag .noticeRead .ok d)) ∧
      (who.role = .programming →
        ∃ t, exec (.noticeRead src tag [1]) s = .next t ∧
          t = { answered s src tag .noticeRead .ok d with attention := t.attention } ∧
          t.attention.threshold = s.attention.threshold ∧
          ∀ n, n < 24 → t.source n =
            { s.source n with history := (s.source n).status, status := (s.source n).status && decide (n < 7) })

/-- NOTICE_CONFIG of a well-formed body (spec 10 R167, R165): each named source takes its enable, mask and level (1 to 7,
FAULT 7), a disabled one loses its flag; the threshold is stored (7 at most), unless the marker 0xFF leaves it, and its
write flags every raised and enabled source of level 7; a flag set before stays set but where the request disables its
source, and no other is set; status and history stay. The answer, CLAMPED when a value stored differs from the one asked
and OK otherwise, carries the threshold and each source's enable, mask and level after the request. -/
def Obligations.NoticesConfigured : Prop :=
  ∀ (src : Addr) (tag : Byte) (body : List Byte) (s : State) (who : Sender),
    ServedProgrammer s src who → configForm body = none → s.attention.sources.length = 24 →
    ∃ (t : State) (d : List Byte) (c : Code), exec (.noticeConfig src tag body) s =
        .next (answered t src tag .noticeConfig c d) ∧
      t = { s with attention := t.attention } ∧ d.length = 73 ∧ t.attention.sources.length = 24 ∧
      d.head? = some (byte1 t.attention.threshold) ∧
      (∀ n, n < 24 → field d (1 + 3 * n) 3 =
        [flagByte (t.source n).enable, flagByte (t.source n).mask, byte1 (t.source n).level]) ∧
      (∀ n, n < 24 → ((t.source n).pending = true ↔
        ((s.source n).pending = true ∧ ∀ e ∈ configEntries body, e.number = n → e.enable = 1) ∨
        (num body 0 1 ≠ 255 ∧ (t.source n).level = 7 ∧ (t.source n).status = true ∧ (t.source n).enable = true))) ∧
      (c = .clamped ∨ c = .ok) ∧
      t.attention.threshold = (if num body 0 1 = 255 then s.attention.threshold else min 7 (num body 0 1)) ∧
      (∀ n, n < 24 → (t.source n).status = (s.source n).status ∧ (t.source n).history = (s.source n).history) ∧
      (∀ e ∈ configEntries body,
        (t.source e.number).enable = (e.enable == 1) ∧ (t.source e.number).mask = (e.mask == 1) ∧
        (t.source e.number).level = (if e.number = 0 then 7 else max 1 (min 7 e.level)) ∧
        (e.enable = 0 → (t.source e.number).pending = false)) ∧
      (∀ n, n < 24 → (∀ e ∈ configEntries body, e.number ≠ n) →
        (t.source n).enable = (s.source n).enable ∧ (t.source n).mask = (s.source n).mask ∧
        (t.source n).level = (s.source n).level) ∧
      (num body 0 1 ≠ 255 → ∀ n, n < 24 → (t.source n).level = 7 → (t.source n).status = true →
        (t.source n).enable = true → (t.source n).pending = true) ∧
      (num body 0 1 = 255 → ∀ n, n < 24 → (t.source n).pending = true → (s.source n).pending = true) ∧
      (c = .clamped ↔ (num body 0 1 ≠ 255 ∧ 7 < num body 0 1) ∨
        ∃ e ∈ configEntries body, (t.source e.number).level ≠ e.level)

/-- SELF_TEST accepted is recorded as waiting and answered by nobody yet (spec 05 R85); RESTART is answered OK at once
with serial, corrected count and uncorrectable words, in OPERATING and in SEALED (spec 11 R175). -/
def Obligations.SelfTestAndRestartAccepted : Prop :=
  (∀ (src : Addr) (tag : Byte) (s : State) (who : Sender), ServedProgrammer s src who →
    s.stations.mode = .service → selfTestBusy s = false →
    exec (.selfTest src tag []) s = .next { s with arbiter := { s.arbiter with
      selfTest := some { addr := src, tag := tag } } }) ∧
  (∀ (src : Addr) (tag : Byte) (s : State) (who : Sender), MayPost s → matchSource s src = some who →
    who.role = .programming → who.isSuspended = false →
    exec (.restart src tag []) s = .next (answered s src tag .restart .ok
      (beBytes 8 s.fuses.held.serial.toNat ++ [byte1 s.fuses.held.corrected] ++
        beBytes 2 s.fuses.held.uncorrectable.toNat)))

/-! ## The link -/

/-- FRAME_HEADER (spec 09 R149, R156): ignored, stranger, overrun, or a slot taken, and HOLDING entered when occupancy has
risen to HOLD_HIGH in IDLE. -/
def Obligations.HeaderDecisions : Prop :=
  ∀ (dst src : Addr) (s : State), Awake s → s.link.up = true → s.link.arriving = none →
    (s.fuses.held.ownAddr ≠ some dst → dst ≠ 0xFFFE → exec (.frameHeader dst src) s = .next s) ∧
    (s.fuses.held.ownAddr = some dst ∨ dst = 0xFFFE →
      (matchSource s src = none →
        exec (.frameHeader dst src) s = .next (raisePulse Src.stranger
          { s with link := { s.link with stranger := min (s.link.stranger + 1) 4294967295 } })) ∧
      (∀ who, matchSource s src = some who →
        (12 ≤ s.link.stored.length →
          exec (.frameHeader dst src) s = .next (raisePulse Src.overrun
            { s with link := { s.link with overrun := min (s.link.overrun + 1) 4294967295 } })) ∧
        (s.link.stored.length < 12 →
          s.link.hold = .holding ∨ s.link.stored.length + 1 < s.stations.settings.holdHigh →
          exec (.frameHeader dst src) s = .next
            { s with link := { s.link with arriving := some { dst := dst, src := src } } }) ∧
        (s.link.stored.length < 12 → s.link.hold = .idle →
          s.stations.settings.holdHigh ≤ s.link.stored.length + 1 →
          exec (.frameHeader dst src) s = .next (raiseLevel Src.holdActive
            { s with link := { s.link with
              arriving := some { dst := dst, src := src }
              hold := .holding
              pendingHold := some s.stations.settings.holdTime
              holdTimer := some (max 1 (s.stations.settings.holdTime * 4 / 5)) } }))))

/-- FRAME_END (spec 09 R150, R157): the bytes of a well-formed frame become the youngest stored frame and count as good;
bytes that fail an end check (runt, oversize, length, check) free the slot, count as bad, raise BAD_FRAME, and release
the hold if occupancy has fallen below HOLD_LOW. Two points are the model's: which bytes pass the check rests on the bit
order of `crc32`, which 12 R177 leaves open (PRESUMED, log 10), and a frame ends so also when the link has gone
down under it (DESIGN CHOICE, log 16). -/
def Obligations.FrameEndJudges : Prop :=
  ∀ (s : State) (h : Header), Awake s → s.link.arriving = some h →
    (∀ f : TxFrame, f.dst = h.dst → f.src = h.src → f.body.length ≤ 2048 →
      exec (.frameEnd (f.wire.drop 4)) s = .next { s with link := { s.link with
        arriving := none
        stored := s.link.stored ++ [{ src := f.src, kind := f.kind, tag := f.tag, body := f.body }]
        good := min (s.link.good + 1) 4294967295 } }) ∧
    (∀ rest : List Byte, rest.length < 8 ∨ 2056 < rest.length ∨ rest.length ≠ 8 + num rest 2 2 ∨
        num rest (rest.length - 4) 4 ≠ crc32 ((wholeFrame h rest).take rest.length) ∨
        frameGood (wholeFrame h rest) = false →
      ∃ t, exec (.frameEnd rest) s = .next t ∧ t.link.arriving = none ∧ t.link.stored = s.link.stored ∧
        t.link.bad = min (s.link.bad + 1) 4294967295 ∧ t.link.good = s.link.good ∧
        (s.attention.sources.length = 24 → (t.source Src.badFrame).status = true) ∧
        (s.link.hold = .idle ∨ s.stations.settings.holdLow ≤ s.link.stored.length →
          t.link.hold = s.link.hold ∧ t.link.pendingHold = s.link.pendingHold) ∧
        (s.link.hold = .holding → s.link.stored.length < s.stations.settings.holdLow →
          t.link.hold = .idle ∧ t.link.pendingHold = some 0 ∧ t.link.holdTimer = none ∧
          (t.source Src.holdActive).status = false) ∧
        t = { s with link := t.link, attention := t.attention })

/-- HOLD_REPEAT_TIMER in HOLDING (spec 09 R156, R157, Table 9.2): HOLD_TIME becomes pending again and the timer restarts,
or, below HOLD_LOW, 0 becomes pending and the hold is released. -/
def Obligations.HoldRepeatsOrReleases : Prop :=
  ∀ s : State, Awake s → s.link.hold = .holding →
    (s.stations.settings.holdLow ≤ occupancy s →
      exec .holdRepeatTimer s = .next { s with link := { s.link with
        pendingHold := some s.stations.settings.holdTime
        holdTimer := some (max 1 (s.stations.settings.holdTime * 4 / 5)) } }) ∧
    (occupancy s < s.stations.settings.holdLow →
      exec .holdRepeatTimer s = .next { s.modSource Src.holdActive (fun c => { c with status := false }) with
        link := { s.link with pendingHold := some 0, holdTimer := none, hold := .idle } })

/-- The transmit arbiter (spec 09 R154): HOLD first, then the oldest expiry, whose record is freed at the take (06 R105),
then the oldest answer, then the lowest-numbered flagged notice; each frame from the part's own address, with what
stands at the take. -/
def Obligations.SendsInTheArbitersOrder : Prop :=
  ∀ s : State, MaySend s →
    (∀ v, s.link.pendingHold = some v →
      exec .sendHold s = .next { s with link := { s.link with
        pendingHold := none
        sending := some { dst := 0xFFFF, src := s.ownAddr, kind := 0x02, tag := 0, body := beBytes 2 v } } } ∧
      exec .sendExpire s = .next s ∧ exec .sendAnswer s = .next s ∧ exec .sendNotice s = .next s) ∧
    (s.link.pendingHold = none →
      (∀ (g : Nat) (rest : List Nat) (r : Grant) (why : Reason) (e : Station),
        s.grants.expireList = g :: rest → s.grant g = some r → r.state = .expiring why →
        s.station r.station = some e →
        (∃ t, exec .sendExpire s = .next { t with link := { s.link with sending := (some
              { dst := e.base, src := s.ownAddr, kind := 0x03, tag := 0,
                body := [byte1 g, byte1 (s.grants.gens.getD g 0), why.value] ++ beBytes 4 r.x ++
                  beBytes 4 s.clock.boothTime }) } } ∧
          RecordFreed s t g r ∧ OnlyGrantsAndParcels s t) ∧
        exec .sendAnswer s = .next s ∧ exec .sendNotice s = .next s) ∧
      (s.grants.expireList = [] →
        (∀ (a : Answer) (rest : List Answer), s.link.answers = a :: rest →
          exec .sendAnswer s = .next { s with link := { s.link with
            answers := rest
            sending := (some
              { dst := a.dst, src := s.ownAddr, kind := 0x01, tag := a.tag,
                body := [a.code.value, a.kind] ++ a.detail }) } } ∧
          exec .sendNotice s = .next s) ∧
        (s.link.answers = [] → ∀ n c, s.attention.sources[n]? = some c → c.pending = true →
          (∀ m b, m < n → s.attention.sources[m]? = some b → b.pending = false) →
          exec .sendNotice s = .next { s with
            link := { s.link with sending := (some
              { dst := 0xFFFD, src := s.ownAddr, kind := 0x04, tag := 0,
                body := [byte1 n, byte1 c.level, flagByte c.status] ++ beBytes 4 s.clock.boothTime }) }
            attention := { s.attention with sources := s.attention.sources.set n { c with pending := false } } })))

/-- A sent frame has left and the transmitter is free (spec 09 R154, R155); the link goes down and up and changes nothing
else. That the OK answer of a RESTART then begins a start-up is in `StartUpBegins`. That the slot of an arriving frame
stays taken when the link goes down is the model's choice (DESIGN CHOICE, log 16). -/
def Obligations.SendingEndsAndLinkChanges : Prop :=
  (∀ (s : State) (f : TxFrame), Awake s → s.link.sending = some f →
    f.kind ≠ 0x01 ∨ f.body.take 2 ≠ [0x00, 0x7F] →
    exec .transmitFrameEnd s = .next { s with link := { s.link with sending := none } }) ∧
  (∀ s : State, exec .linkDown s = .next { s with link := { s.link with up := false } } ∧
    exec .linkUp s = .next { s with link := { s.link with up := true } } ∧
    (s.link.up = false → exec .sendHold s = .next s ∧ exec .sendExpire s = .next s ∧ exec .sendAnswer s = .next s ∧
      exec .sendNotice s = .next s ∧ ∀ dst src, exec (.frameHeader dst src) s = .next s))

/-! ## Seconds -/

/-- CRYSTAL_SECOND and TRIM_YEAR_WRAP (spec 03 R35, R37, R43, R47): booth time counts in RUNNING alone and stays at its
end; the trim-year counter counts or wraps with B at 360; the floor rises at a multiple of 60; while awake the advance is
one event of the Deadline List (07 R114), and none in STARTING or without power; the open measurement window has completed
a crystal second (R40). The model's choices: the row TRIM_YEAR_WRAP makes the wrap alone, without its crystal second
(DEDUCED, log 6), and with the store lost a crystal second counts nothing (DEDUCED, log 25). -/
def Obligations.CrystalSecondCounts : Prop :=
  (∀ s : State, s.control.storeValid = false →
    exec .crystalSecond s = .next { s with clock := { s.clock with ticked := true } }) ∧
  ∀ s : State, s.control.storeValid = true →
    (∃ t, exec .crystalSecond s = .next t ∧ t.clock.ticked = true ∧
      t.clock.trimYear = (if 31535999 ≤ s.clock.trimYear then 0 else s.clock.trimYear + 1) ∧
      t.clock.trimBudget = (if 31535999 ≤ s.clock.trimYear then 360 else s.clock.trimBudget) ∧
      t.clock.boothTime = (if s.clock.timeState = .running ∧ s.clock.boothTime < 4294967295
        then s.clock.boothTime + 1 else s.clock.boothTime) ∧
      t.clock.floor = (if s.clock.timeState = .running ∧ s.clock.boothTime < 4294967295 ∧
          (s.clock.boothTime + 1) % 60 = 0
        then max s.clock.floor (s.clock.boothTime + 1) else s.clock.floor) ∧
      t.clock.uptime = s.clock.uptime ∧ t.clock.driftRun = s.clock.driftRun ∧
      t.clock.timeState = s.clock.timeState ∧
      (¬Awake s ∨ s.clock.timeState = .lost → t = { s with clock := t.clock }) ∧
      (Awake s → s.clock.timeState = .running → s.clock.boothTime < 4294967295 → InOrder s.deadlines →
        ∀ d ∈ t.deadlines, t.clock.boothTime < d.due) ∧
      (Awake s → s.clock.timeState = .running → s.clock.boothTime < 4294967295 →
        t = runDeadlines t.clock.boothTime { s with clock := t.clock }) ∧
      t.link = s.link ∧ t.stations = s.stations ∧ t.openQueue = s.openQueue ∧ t.arbiter = s.arbiter ∧
      t.engine = s.engine ∧ t.fuses = s.fuses ∧ t.control = s.control) ∧
    (s.clock.trimYear = 31535999 →
      exec .trimYearWrap s = .next { s with clock := { s.clock with trimYear := 0, trimBudget := 360 } })

/-- MAIN_CLOCK_SECOND counts uptime, applies the wait limit of opens and the periodic test, and makes one measurement
window (spec 03 R36, R40, 05 R72, R79); the window that makes the run count reach 16 loses the time (DRIFT_RUN_LIMIT,
R39): OPEN grants expire CLOCK, FORCED_EXPIRY is raised if there was one (06 R100), WAITING opens are refused NO_TIME, the
Deadline List empties. Booth time, floor, trim budget and trim-year counter stay; so do every source but QUEUE_TIMEOUT,
CLOCK_DRIFT, and, at a loss, TIME_LOST, FAULT and FORCED_EXPIRY, the history and configuration of those too, and the
rest of the part. A window is bad when no crystal second was completed in it or when it deviates by more than 200 ppm; the
next one opens with none completed (R40). The model's choices: a place at its wait limit in the second of the loss is
answered TIMEOUT, not NO_TIME (DEDUCED, log 7); the row DRIFT_RUN_LIMIT is itself the bad window that takes a count of 15
to 16 (DEDUCED, log 6); the deviation is an operand, in ppm rounded up (DESIGN CHOICE, log 12). -/
def Obligations.MainClockSecondAndTimeLoss : Prop :=
  ∀ s : State, Awake s →
    (∀ (dev u : Nat) (late kept : List OpenReq), u = min (s.clock.uptime + 1) 4294967295 →
      late = s.openQueue.waiting.filter (fun w => decide (30 ≤ u - w.arrival)) →
      kept = s.openQueue.waiting.filter (fun w => decide (u - w.arrival < 30)) →
      ∃ t, exec (.mainClockSecond dev) s = .next t ∧
      t.arbiter = { s.arbiter with testDue :=
        if s.stations.settings.testInterval = 0 then false
        else if s.arbiter.lastKat + s.stations.settings.testInterval ≤ u then true else s.arbiter.testDue } ∧
      t = { s with
        clock := { s.clock with
          uptime := u, driftRun := t.clock.driftRun, timeState := t.clock.timeState, ticked := false }
        deadlines := t.deadlines
        openQueue := t.openQueue
        arbiter := t.arbiter
        grants := t.grants
        attention := { t.attention with threshold := s.attention.threshold } } ∧
      (∀ n, n ≠ Src.queueTimeout → n ≠ Src.clockDrift → n ≠ Src.timeLost → n ≠ Src.fault → n ≠ Src.forcedExpiry →
        t.source n = s.source n) ∧
      (∀ n, t.source n = { s.source n with status := (t.source n).status, pending := (t.source n).pending }) ∧
      (late = [] → t.source Src.queueTimeout = s.source Src.queueTimeout) ∧
      (late ≠ [] → s.attention.sources.length = 24 → (t.source Src.queueTimeout).status = true) ∧
      ((s.clock.ticked = true ∧ dev ≤ 200) ∨ s.clock.driftRun < 15 ∨ s.clock.timeState = .lost →
        t.openQueue = { waiting := kept, due := s.openQueue.due ++ late.map (fun w => { who := w.who, code := .timeout }) } ∧
        t.grants = s.grants ∧ t.deadlines = s.deadlines ∧ t.source Src.timeLost = s.source Src.timeLost ∧
        t.source Src.fault = s.source Src.fault ∧ t.source Src.forcedExpiry = s.source Src.forcedExpiry) ∧
      (s.clock.ticked = false ∨ 200 < dev → 15 ≤ s.clock.driftRun → s.clock.timeState = .running →
        t.openQueue.waiting = [] ∧
        t.openQueue.due = s.openQueue.due ++ late.map (fun w => { who := w.who, code := .timeout }) ++
          kept.map (fun w => { who := w.who, code := .noTime }) ∧
        t.deadlines = [] ∧
        (∀ g, t.grant g = (s.grant g).map fun r =>
          if r.state = .opened then { r with state := .expiring .clock } else r) ∧
        t.grants.expireList = s.grants.expireList ++ reached (fun _ => true) s ∧ t.grants.gens = s.grants.gens ∧
        (reached (fun _ => true) s = [] → t.source Src.forcedExpiry = s.source Src.forcedExpiry) ∧
        (s.attention.sources.length = 24 → (t.source Src.timeLost).status = true ∧
          (t.source Src.clockDrift).status = false ∧
          (reached (fun _ => true) s ≠ [] → (t.source Src.forcedExpiry).status = true))) ∧
      t.clock.uptime = u ∧ t.clock.boothTime = s.clock.boothTime ∧
      (s.clock.ticked = false ∨ 200 < dev → s.clock.driftRun < 15 →
        t.clock.driftRun = s.clock.driftRun + 1 ∧ t.clock.timeState = s.clock.timeState) ∧
      (s.clock.ticked = true → dev ≤ 200 → t.clock.driftRun = 0 ∧ t.clock.timeState = s.clock.timeState ∧
        (t.source Src.clockDrift).status = false) ∧
      (s.clock.ticked = false ∨ 200 < dev → 15 ≤ s.clock.driftRun →
        t.clock.driftRun = 0 ∧ t.clock.timeState = .lost) ∧
      (s.clock.ticked = false ∨ 200 < dev → s.clock.driftRun < 15 → s.attention.sources.length = 24 →
        (t.source Src.clockDrift).status = true)) ∧
    (15 ≤ s.clock.driftRun → s.clock.timeState = .running →
      ∃ t, exec .driftRunLimit s = .next t ∧
        t.clock = { s.clock with timeState := .lost, driftRun := 0, ticked := false } ∧ t.deadlines = [] ∧
        (∀ g, t.grant g = (s.grant g).map fun r =>
          if r.state = .opened then { r with state := .expiring .clock } else r) ∧
        t.grants.expireList = s.grants.expireList ++ reached (fun _ => true) s ∧ t.grants.gens = s.grants.gens ∧
        t.openQueue = { waiting := [], due := s.openQueue.due ++
          s.openQueue.waiting.map (fun w => { who := w.who, code := .noTime }) } ∧
        (s.attention.sources.length = 24 → (t.source Src.timeLost).status = true ∧
          (t.source Src.clockDrift).status = false ∧
          (reached (fun _ => true) s ≠ [] → (t.source Src.forcedExpiry).status = true)) ∧
        (reached (fun _ => true) s = [] → t.source Src.forcedExpiry = s.source Src.forcedExpiry) ∧
        t = { s with
          clock := t.clock
          deadlines := []
          openQueue := t.openQueue
          grants := t.grants
          attention := { t.attention with threshold := s.attention.threshold } } ∧
        (∀ n, n ≠ Src.clockDrift → n ≠ Src.timeLost → n ≠ Src.fault → n ≠ Src.forcedExpiry →
          t.source n = s.source n) ∧
        ∀ n, t.source n = { s.source n with status := (t.source n).status, pending := (t.source n).pending }) ∧
    (15 ≤ s.clock.driftRun → s.clock.timeState = .lost →
      exec .driftRunLimit s = .next { s.modSource Src.clockDrift (fun c => { c with status := false }) with
        clock := { s.clock with driftRun := 0, ticked := false } })

/-- OPEN_WAIT_TIMEOUT (spec 05 R72): WAITING places of 30 uptime seconds pass to ANSWER_DUE with TIMEOUT in queue order,
QUEUE_TIMEOUT raised. PERIODIC_TEST_DUE (R79): the flag is set, cleared or kept. That each of the two rows does its part
alone, without its uptime second, is the model's choice (DEDUCED, log 6). -/
def Obligations.WaitLimitAndPeriodicTest : Prop :=
  ∀ s : State, Awake s →
    ((∃ w ∈ s.openQueue.waiting, 30 ≤ s.clock.uptime - w.arrival) →
      exec .openWaitTimeout s = .next (raisePulse Src.queueTimeout { s with openQueue :=
        { waiting := s.openQueue.waiting.filter fun w => decide (s.clock.uptime - w.arrival < 30),
          due := s.openQueue.due ++ (s.openQueue.waiting.filter fun w =>
            decide (30 ≤ s.clock.uptime - w.arrival)).map fun w => { who := w.who, code := .timeout } } })) ∧
    ((∀ w ∈ s.openQueue.waiting, s.clock.uptime - w.arrival < 30) → exec .openWaitTimeout s = .next s) ∧
    exec .periodicTestDue s = .next { s with arbiter := { s.arbiter with testDue :=
      if s.stations.settings.testInterval = 0 then false
      else if s.arbiter.lastKat + s.stations.settings.testInterval ≤ s.clock.uptime then true
      else s.arbiter.testDue } }

/-! ## The engine -/

/-- ENGINE_ARBITER_CHOICE in OPERATING with the engine READY (spec 05 R77, R78, R80): a SELF_TEST first; the head parcel
at a pass-over count of 4; then an open, whose selection allocates the lowest free grant slot and starts its REWRAP;
then the periodic KAT; then the head parcel. A selection that refuses makes its place ANSWER_DUE, counts as a pass-over,
and lets the arbiter choose again; that places refused so are answered in the order of their selections is the model's
choice (DESIGN CHOICE, log 30). The selection itself (spec 02 R28 to R30, 04 R58): the code of the step that leaves no
candidate, or the plan for the entry chosen, with its released references, its effective start and its span end; before
it the guards of Table 5.6, SUSPENDED, NO_TIME and TOO_EARLY (04 R56). In FAULT a waiting SELF_TEST alone starts a job;
in STARTING the start-up KAT alone, in the ENGINE_TEST phase (R87); in SEALED none does (11 R173), nor while a job is in
flight or a result held (R81). -/
def Obligations.ArbiterOrder : Prop :=
  (∀ s : State, s.control.service = .operating → s.engine = { faulted := true, job := none, held := none } →
    (∀ who, s.arbiter.selfTest = some who →
      exec .engineArbiterChoice s = .next { s with
        engine := { s.engine with job := some (.kat (.selfTest who)) }
        arbiter := { s.arbiter with selfTest := none } }) ∧
    (s.arbiter.selfTest = none → exec .engineArbiterChoice s = .next s)) ∧
  (∀ s : State, s.control.service = .starting →
    (s.control.phase = .engineTest → s.engine = { faulted := false, job := none, held := none } →
      exec .engineArbiterChoice s = .next { s with engine := { s.engine with job := some (.kat .startUp) } }) ∧
    (s.control.phase ≠ .engineTest → exec .engineArbiterChoice s = .next s)) ∧
  (∀ s : State, s.control.service = .sealedOff ∨ s.engine.job ≠ none ∨ s.engine.held ≠ none →
    exec .engineArbiterChoice s = .next s) ∧
  ∀ s : State, s.control.service = .operating → s.engine = { faulted := false, job := none, held := none } →
    (∀ who, s.arbiter.selfTest = some who →
      exec .engineArbiterChoice s = .next { s with
        engine := { s.engine with job := some (.kat (.selfTest who)) }
        arbiter := { s.arbiter with selfTest := none } }) ∧
    (s.arbiter.selfTest = none →
      (∀ (p : StagingPlace) (rest : List StagingPlace), s.store.staging = p :: rest → p.phase = .waiting →
        s.arbiter.passOver = 4 ∨ (s.openQueue.waiting = [] ∧ s.arbiter.testDue = false) →
        exec .engineArbiterChoice s = .next { s with
          engine := { s.engine with job := some .verify }
          store := { s.store with staging := { p with phase := .verifying false } :: rest }
          arbiter := { s.arbiter with passOver := 0 } }) ∧
      (s.openQueue.waiting = [] → s.arbiter.testDue = false → headWaiting s = false →
        exec .engineArbiterChoice s = .next s) ∧
      (s.openQueue.waiting = [] → s.arbiter.testDue = true → headWaiting s = false ∨ s.arbiter.passOver ≠ 4 →
        exec .engineArbiterChoice s = .next { s with engine := { s.engine with job := some (.kat .periodic) } }) ∧
      (headWaiting s = false ∨ s.arbiter.passOver ≠ 4 →
        ∀ (i : Nat) (w : OpenReq) (p : OpenPlan) (g : Nat) (e : ParcelEntry),
          s.openQueue.waiting[i]? = some w →
          (∀ j v, s.openQueue.waiting[j]? = some v → j ≠ i →
            rankOf s v.station < rankOf s w.station ∨ (rankOf s v.station = rankOf s w.station ∧ i < j)) →
          planOpen w s = .ok p → lowestFree s.grants.slots = some g → s.entry p.parcel = some e →
          exec .engineArbiterChoice s = .next { s with
            openQueue := { s.openQueue with waiting := s.openQueue.waiting.eraseIdx i }
            arbiter := { s.arbiter with passOver :=
              (if headWaiting s then s.arbiter.passOver + 1 else s.arbiter.passOver) }
            grants := { s.grants with slots := (s.grants.slots.set g (some
              { state := .opening w.who, station := w.station, parcel := p.parcel,
                tracks := p.refs.map (fun r => r.track), q := p.q, r := w.runtime, x := p.x, used := 0 })) }
            store := { s.store with table := (s.store.table.set p.parcel
              (some { e with grantCount := e.grantCount + 1 })) }
            engine := { s.engine with job := (some (.rewrap g (s.grants.gens.getD g 0) p.wrapKey
              (p.refs.map fun r => (r.track, (slotGet s.store.keys r.slot).getD 0)))) } }) ∧
      (headWaiting s = false ∨ s.arbiter.passOver ≠ 4 →
        ∀ (i : Nat) (w : OpenReq) (c : Code), s.openQueue.waiting[i]? = some w →
          (∀ j v, s.openQueue.waiting[j]? = some v → j ≠ i →
            rankOf s v.station < rankOf s w.station ∨ (rankOf s v.station = rankOf s w.station ∧ i < j)) →
          planOpen w s = .error c →
          exec .engineArbiterChoice s = exec .engineArbiterChoice { s with
            openQueue := { waiting := s.openQueue.waiting.eraseIdx i,
                           due := s.openQueue.due ++ [{ who := w.who, code := c }] }
            arbiter := { s.arbiter with passOver :=
              (if headWaiting s then s.arbiter.passOver + 1 else s.arbiter.passOver) } })) ∧
    (∀ (w : OpenReq) (st : Station), s.station w.station = some st →
      (st.state = .suspended → planOpen w s = .error .suspended) ∧
      (st.state = .enrolled → s.clock.timeState = .lost → planOpen w s = .error .noTime) ∧
      (st.state = .enrolled → s.clock.timeState = .running →
        effectiveStart w.planned s.now s.stations.settings.prep s.stations.settings.late = none →
        planOpen w s = .error .tooEarly)) ∧
    (∀ (w : OpenReq) (st : Station) (q : Nat), s.station w.station = some st → st.state = .enrolled →
      s.clock.timeState = .running →
      effectiveStart w.planned s.now s.stations.settings.prep s.stations.settings.late = some q →
      (LostAt s st w q 1 → planOpen w s = .error .noParcel) ∧
      (LostAt s st w q 2 → planOpen w s = .error .lapsed) ∧
      (LostAt s st w q 3 → planOpen w s = .error .notYet) ∧
      (LostAt s st w q 4 → planOpen w s = .error .pastWindow) ∧
      (LostAt s st w q 5 → planOpen w s = .error .noTrack) ∧
      ∀ (i : Nat) (e : ParcelEntry), Chosen s st w q i e →
        ∀ cap : Nat, cap = min (e.es + s.stations.settings.tail) 4294967295 →
          (cap ≤ s.clock.boothTime → planOpen w s = .error .windowClosed) ∧
          (s.clock.boothTime < cap → planOpen w s = .ok
            { parcel := i
              refs := (if w.tracks = [] then e.refs
                else w.tracks.filterMap fun k => e.refs.find? fun r => r.track == k)
              wrapKey := st.wrapKey.getD 0
              q := q
              x := min (max (min (q + w.runtime + s.stations.settings.overrun) 4294967295)
                (min (s.clock.boothTime + 60) 4294967295)) cap }))

/-- The completions. A KAT of any cause records its uptime and clears the due flag (spec 05 R75); on FAIL the engine
enters FAULT and WAITING opens and parcels are refused (R84). A SELF_TEST raises SELF_TEST_DONE and holds its answer, and
its PASS ends a FAULT (R86); the start-up KAT moves start-up on, and its FAIL marks the start-up for sealing (R87,
11 R172). A VERIFY holds PASS with one store-form key per record when the tags match and every key unseals, otherwise
FAIL (01 R10); a REWRAP holds one wrapped key per released track beside the engine's copy (R76, 02 R23). The model's
choices in this: the tag, the store form and the wrapped key are functions of `Config` without a body, of exactly the
inputs written here (DESIGN CHOICE, log 9), and the outcome of a KAT is an operand of KAT_COMPLETE (DESIGN CHOICE,
log 8), and the window of CLOCK_CHECK opens where the start-up KAT ends (DESIGN CHOICE, log 12). -/
def Obligations.JobsComplete : Prop :=
  ∀ s : State,
    (s.engine.job = some (.kat .periodic) →
      exec (.katComplete true) s = .next { s with
        engine := { s.engine with job := none }
        arbiter := { s.arbiter with lastKat := s.clock.uptime, testDue := false } } ∧
      ∃ t, exec (.katComplete false) s = .next t ∧ FaultEntered s t ∧ t.engine.held = s.engine.held ∧
        t.control = s.control ∧ t.clock = s.clock) ∧
    (∀ who, s.engine.job = some (.kat (.selfTest who)) →
      (∃ t, exec (.katComplete true) s = .next t ∧
        t = { s with
          engine := { faulted := false, job := none, held := some (.selfTestOk who) }
          arbiter := { s.arbiter with lastKat := s.clock.uptime, testDue := false }
          attention := t.attention } ∧
        (t.source Src.engineFault).status = false ∧
        (s.attention.sources.length = 24 → (t.source Src.selfTestDone).status = true)) ∧
      ∃ t, exec (.katComplete false) s = .next t ∧ FaultEntered s t ∧
        t.engine.held = some (.selfTestFailed who) ∧ t.control = s.control ∧ t.clock = s.clock ∧
        (s.attention.sources.length = 24 → (t.source Src.selfTestDone).status = true)) ∧
    (s.engine.job = some (.kat .startUp) →
      exec (.katComplete true) s = .next { s with
        engine := { s.engine with job := none }
        arbiter := { s.arbiter with lastKat := s.clock.uptime, testDue := false }
        clock := { s.clock with ticked := false }
        control := { s.control with phase := .clockCheck } } ∧
      ∃ t, exec (.katComplete false) s = .next t ∧ FaultEntered s t ∧ t.engine.held = s.engine.held ∧
        t.control = { s.control with phase := .clockCheck, sealing := true } ∧
        t.clock = { s.clock with ticked := false }) ∧
    (∀ p rest secret, s.engine.job = some .verify → s.store.staging = p :: rest →
      s.fuses.held.siteSecret = some secret →
      ∀ tag : Bytes16, tag = Config.integrityTag secret p.parcel.id p.parcel.feature p.parcel.winStart p.parcel.winEnd
          p.parcel.screens (p.parcel.records.map fun r => (r.track, r.kind.value, r.sealedKey)) →
        (∀ ks, p.parcel.tag = tag →
          p.parcel.records.map (fun r => Config.storeForm secret r.sealedKey) = ks.map some →
          exec (.verifyComplete ()) s = .next { s with engine := { s.engine with
            job := none, held := some (.verifyPass ks) } }) ∧
        (p.parcel.tag ≠ tag ∨ (∃ r ∈ p.parcel.records, Config.storeForm secret r.sealedKey = none) →
          exec (.verifyComplete ()) s = .next { s with engine := { s.engine with
            job := none, held := some .verifyFail } })) ∧
    (∀ g gen wk ks, s.engine.job = some (.rewrap g gen wk ks) →
      exec .rewrapComplete s = .next { s with engine := { s.engine with
        job := none, held := some (.rewrapped g gen ks (ks.map fun p => (p.1, Config.wrapped wk p.2))) } })

/-- VERIFY_POSTING (spec 01 R11 to R17): a FAIL is REJECTED; a marked, timeless or ended PASS is refused with its code;
a PASS with a free index and room for its keys is committed at the lowest free index with the lowest free slots and the
next ingest sequence, LIVE or LATENT by booth time. With no free index and nothing to reclaim it is STORE_FULL, cause
NO_ENTRY; with one, it is settled as in the state in which that entry is freed (R13). The head is vacated and the answer
goes to its address. -/
def Obligations.VerifyPostingSettles : Prop :=
  ∀ (s : State) (p : StagingPlace) (rest : List StagingPlace), MayPost s → s.store.staging = p :: rest →
    (s.engine.held = some .verifyFail →
      exec .verifyPosting s = .next (answered (raisePulse Src.parcelRejected { s with
          engine := { s.engine with held := none }
          store := { s.store with staging := rest }
          arbiter := { s.arbiter with passOver := 0 } }) p.answerTo p.tag .parcelLoad .rejected [])) ∧
    (∀ ks, s.engine.held = some (.verifyPass ks) →
      (p.phase = .verifying true ∨ s.clock.timeState = .lost ∨ p.parcel.winEnd * 60 ≤ s.clock.boothTime →
        exec .verifyPosting s = .next (answered { s with
            engine := { s.engine with held := none }
            store := { s.store with staging := rest }
            arbiter := { s.arbiter with passOver := 0 } } p.answerTo p.tag .parcelLoad
          (if p.phase = .verifying true then .withdrawn else if s.clock.timeState = .lost then .noTime else .ended)
          [])) ∧
      (p.phase ≠ .verifying true → s.clock.timeState = .running → s.clock.boothTime < p.parcel.winEnd * 60 →
        lowestFree s.store.table = none →
          ((∀ i e, s.entry i = some e → e.state = .lapsed → e.grantCount ≠ 0) →
            exec .verifyPosting s = .next (answered (raisePulse Src.storeFull { s with
                engine := { s.engine with held := none }
                store := { s.store with staging := rest }
                arbiter := { s.arbiter with passOver := 0 } }) p.answerTo p.tag .parcelLoad .storeFull
              ([1] ++ beBytes 2 s.freeKeySlots ++ [0]))) ∧
          (∀ i e, Reclaimed s i e →
            exec .verifyPosting s = exec .verifyPosting { s with
              store := { s.store with table := s.store.table.set i none, keys := eraseKeys e.refs s.store.keys }
              deadlines := s.deadlines.filter fun d => !(d.kind != .spanEnd && d.ref == i) })) ∧
      (p.phase ≠ .verifying true → s.clock.timeState = .running → s.clock.boothTime < p.parcel.winEnd * 60 →
        ∀ i, lowestFree s.store.table = some i →
          (s.freeKeySlots < p.parcel.records.length →
            exec .verifyPosting s = .next (answered (raisePulse Src.storeFull { s with
                engine := { s.engine with held := none }
                store := { s.store with staging := rest }
                arbiter := { s.arbiter with passOver := 0 } }) p.answerTo p.tag .parcelLoad .storeFull
              ([2] ++ beBytes 2 s.freeKeySlots ++ [byte1 (s.store.table.length - s.parcelsInUse)]))) ∧
          (p.parcel.records.length ≤ s.freeKeySlots → ks.length = p.parcel.records.length →
            ∃ t d, exec .verifyPosting s = .next (answered t p.answerTo p.tag .parcelLoad .accepted d) ∧
              (∃ e, t.entry i = some e ∧
                e.state = (if p.parcel.winStart * 60 ≤ s.clock.boothTime then .live else .latent) ∧
                e.id = p.parcel.id ∧ e.feature = p.parcel.feature ∧ e.winStart = p.parcel.winStart ∧
                e.winEnd = p.parcel.winEnd ∧ e.screens = p.parcel.screens ∧
                e.refs.map (fun r => (r.track, r.kind)) = p.parcel.records.map (fun r => (r.track, r.kind)) ∧
                e.refs.map (fun r => r.slot) = (freePlaces s.store.keys).take p.parcel.records.length ∧
                e.refs.map (fun r => slotGet t.store.keys r.slot) = ks.map some ∧
                e.recordCount = p.parcel.records.length ∧ e.ingestSeq = min (s.store.ingestSeq + 1) 4294967295 ∧
                e.grantCount = 0 ∧ e.purgeDue = false ∧
                d = [byte1 i, e.state.value] ++ beBytes 2 (s.freeKeySlots - p.parcel.records.length)) ∧
              (∀ j, j ≠ i → t.entry j = s.entry j) ∧
              (∀ k, k ∉ (freePlaces s.store.keys).take p.parcel.records.length →
                slotGet t.store.keys k = slotGet s.store.keys k) ∧
              t.store.ingestSeq = min (s.store.ingestSeq + 1) 4294967295 ∧ t.store.staging = rest ∧
              t.arbiter = { s.arbiter with passOver := 0 } ∧ t.engine = { s.engine with held := none } ∧
              { due := p.parcel.winEnd * 60, kind := .windowEnd, ref := i } ∈ t.deadlines ∧
              (s.clock.boothTime < p.parcel.winStart * 60 →
                { due := p.parcel.winStart * 60, kind := .windowStart, ref := i } ∈ t.deadlines) ∧
              (∀ q ∈ s.deadlines, q ∈ t.deadlines) ∧
              (s.attention.sources.length = 24 → (t.source Src.parcelAccepted).status = true) ∧
              t.grants = s.grants ∧ t.openQueue = s.openQueue ∧ t.stations = s.stations ∧ t.clock = s.clock ∧
              t.link = s.link ∧ t.fuses = s.fuses ∧ t.control = s.control)))

/-- REWRAP_POSTING (spec 05 R82, R83): the first check that applies discards the result, frees the OPENING record and
answers its code; otherwise the record is OPEN, its SPAN_END inserted, GRANT_OPENED raised, GRANTED placed. Either way
the engine holds neither result nor copy any more. -/
def Obligations.RewrapPostingGrantsOrDiscards : Prop :=
  ∀ (s : State) (g gen : Nat) (copy : List (TrackId × Key)) (ks : List (TrackId × WrappedKey)) (r : Grant)
    (who : Requester) (st : Station) (e : ParcelEntry),
    MayPost s → s.engine.held = some (.rewrapped g gen copy ks) → s.grant g = some r →
    r.state = .opening who → s.grants.gens.getD g 0 = gen → s.station r.station = some st →
    s.entry r.parcel = some e →
    (st.state = .suspended ∨ s.clock.timeState = .lost ∨ e.holdsKeys = false ∨ r.x ≤ s.clock.boothTime →
      ∃ t, exec .rewrapPosting s = .next (answered { t with engine := { s.engine with held := none } }
          who.addr who.tag .openKeys
          (if st.state = .suspended then .suspended else if s.clock.timeState = .lost then .noTime
           else if e.state = .withdrawn then .withdrawn else if e.state = .lapsed then .lapsed else .expired) []) ∧
        RecordFreed s t g r ∧ OnlyGrantsAndParcels s t) ∧
    (st.state = .enrolled → s.clock.timeState = .running → e.holdsKeys = true → s.clock.boothTime < r.x →
      exec .rewrapPosting s = .next (answered (raisePulse Src.grantOpened { s with
          engine := { s.engine with held := none }
          grants := { s.grants with slots := s.grants.slots.set g (some { r with state := .opened, used := 0 }) }
          deadlines := insertDeadline { due := r.x, kind := .spanEnd, ref := g } s.deadlines })
        who.addr who.tag .openKeys .granted
        ([byte1 g, byte1 gen] ++ beBytes 4 r.q ++ beBytes 4 r.x ++ beBytes 4 r.r ++
          [byte1 r.parcel, byte1 ks.length] ++ ks.flatMap fun p => strBytes p.1 ++ strBytes p.2)))

/-- The held SELF_TEST answer, the oldest ANSWER_DUE open and the first ANSWER_DUE parcel are answered when a place is
free, to their address with their tag, and leave their place (spec 05 R86, R71, 01 R8). -/
def Obligations.DueAnswersPlaced : Prop :=
  ∀ s : State, MayPost s →
    (∀ who, (s.engine.held = some (.selfTestOk who) →
        exec .selfTestPosting s = .next (answered { s with engine := { s.engine with held := none } }
          who.addr who.tag .selfTest .ok [])) ∧
      (s.engine.held = some (.selfTestFailed who) →
        exec .selfTestPosting s = .next (answered { s with engine := { s.engine with held := none } }
          who.addr who.tag .selfTest .failed []))) ∧
    (∀ d rest, s.openQueue.due = d :: rest →
      exec .openAnswerDue s = .next (answered { s with openQueue := { s.openQueue with due := rest } }
        d.who.addr d.who.tag .openKeys d.code [])) ∧
    (∀ p rest c, s.store.staging = p :: rest → p.phase = .answerDue c →
      exec .stagingAnswerDue s = .next (answered { s with
          store := { s.store with staging := rest }
          arbiter := { s.arbiter with passOver := 0 } } p.answerTo p.tag .parcelLoad c [])) ∧
    (∀ p q c, s.store.staging = [p, q] → (∀ c', p.phase ≠ .answerDue c') → q.phase = .answerDue c →
      exec .stagingAnswerDue s = .next (answered { s with store := { s.store with staging := [p] } }
        q.answerTo q.tag .parcelLoad c []))

/-! ## Power and start-up -/

/-- A start-up begins (spec 11 R172, R174, R175, Table 11.3): at POWER_ON, at the release of RST_N, when the OK answer of
a RESTART has left, and at START_UP_BEGIN; POWER_LOSS and RST_N end operation. The service state is STARTING, every
queue, table of grants, job, notice status and counter is at its starting value, the mismatch count is kept by RESTART
alone, and the retained contents stay. The model's choices in this: the volatile state is cleared at POWER_LOSS and at
the assertion of RST_N, before the start-up itself (DEDUCED, log 14); a part powered with RST_N low begins with cause
RESET_LINE (DEDUCED, log 15); a RESTART answer cut by the link begins the start-up all the same (DEDUCED, log 28). -/
def Obligations.StartUpBegins : Prop :=
  ∀ s : State,
    (∀ (c : Instr) (p : StartPhase) (b : Option StartCause),
      (c = .powerOn ∧ s.control.power = false ∧ s.control.resetLow = false ∧ p = .begin ∧ b = some .powerOn) ∨
      (c = .resetLineRelease ∧ s.control.power = true ∧ s.control.resetLow = true ∧ p = .begin ∧
        b = some .resetLine) ∨
      (c = .transmitFrameEnd ∧ Awake s ∧ p = .begin ∧ b = some .restart ∧
        ∃ f, s.link.sending = some f ∧ f.kind = 0x01 ∧ f.body.take 2 = [0x00, 0x7F]) ∨
      (c = .startUpBegin ∧ s.control.power = true ∧ s.control.phase = .begin ∧ p = .fuseLoad ∧
        b = some s.control.beganBy) ∨
      (c = .powerLoss ∧ s.control.power = true ∧ p = .halted ∧ b = none) ∨
      (c = .resetLineAssert ∧ s.control.power = true ∧ s.control.resetLow = false ∧ p = .halted ∧ b = none) →
      ∃ t, exec c s = .next t ∧
        t.control.service = .starting ∧ t.control.phase = p ∧ t.control.sealing = false ∧
        t.control.power = (c != .powerLoss) ∧ t.control.storeValid = s.control.storeValid ∧
        (∀ cause, b = some cause → t.control.beganBy = cause ∧
          t.stations.mismatch = (if cause = .restart then s.stations.mismatch else 0)) ∧
        t.link = { up := s.link.up, arriving := none, stored := [], hold := .idle, holdTimer := none,
                   pendingHold := none, answers := [], sending := none, good := 0, stranger := 0, overrun := 0,
                   bad := 0 } ∧
        t.openQueue = { waiting := [], due := [] } ∧ t.store = { s.store with staging := [] } ∧
        (∀ g, t.grant g = none) ∧ (∀ n ∈ t.grants.gens, n = 0) ∧ t.grants.expireList = [] ∧ t.deadlines = [] ∧
        t.engine = { faulted := false, job := none, held := none } ∧
        t.arbiter = { passOver := 0, testDue := false, lastKat := 0, selfTest := none } ∧
        t.stations.keyHolder = none ∧ t.stations.entries = s.stations.entries ∧
        t.stations.mode = s.stations.mode ∧ t.stations.settings = s.stations.settings ∧
        t.clock = { s.clock with uptime := 0, ticked := false } ∧
        t.attention.threshold = s.attention.threshold ∧
        t.attention.sources = s.attention.sources.map
          (fun c => { c with status := false, history := false, pending := false }) ∧
        t.fuses = s.fuses)

/-- The phases. FUSE_LOAD holds each word as read, leaves out or replaces the uncorrectable ones, reports both counts and
marks sealing (spec 11 R169, R172, 08 R145, 03 R41). RETAINED_CHECK keeps a sound store, its keys and its counter, with
grant counts 0, WITHDRAWN and purge-due LAPSED entries freed and tokens at OPEN_BURST, and gives a lost one its values
(11 R171, 02 R31, R32, 03 R49). CLOCK_CHECK makes one window, bad when it deviates by more than 200 ppm or no crystal second
was completed in it (03 R40, R41; the deviation is an operand, in ppm rounded up: DESIGN CHOICE, log 12). REBUILD is the
rebuild at booth time (07 R121). -/
def Obligations.StartUpPhases : Prop :=
  ∀ s : State,
    (s.control.phase = .fuseLoad →
      ∃ t, exec .fuseLoad s = .next t ∧
        t = { s with
          fuses := { s.fuses with held := t.fuses.held }
          clock := { s.clock with driftRun := 0 }
          control := { s.control with phase := .retainedCheck, sealing := t.control.sealing }
          attention := t.attention } ∧
        (t.control.sealing = true ↔ s.control.sealing = true ∨
          s.fuses.words.siteSecret.condition = .uncorrectable ∨ s.fuses.words.modeKey.condition = .uncorrectable ∨
          s.fuses.words.ownAddr.condition = .uncorrectable) ∧
        t.fuses.held.siteSecret = s.fuses.words.siteSecret.used ∧
        t.fuses.held.modeKey = s.fuses.words.modeKey.used ∧
        t.fuses.held.ownAddr = s.fuses.words.ownAddr.used ∧
        t.fuses.held.bootAddr = s.fuses.words.bootAddr.used ∧
        t.fuses.held.factoryFloor = (s.fuses.words.factoryFloor.used.map fun v => v.toNat).getD 0 ∧
        t.fuses.held.serial = s.fuses.words.serial.used.getD 0 ∧
        settingsFit t.fuses.held.defaults ∧
        (∀ n d, 1 ≤ n → n ≤ 11 → n ≠ 8 → s.fuses.words.defaults[n - 1]? = some d →
          (d.condition = .uncorrectable → t.fuses.held.defaults.get n = hardDefaults.get n) ∧
          (d.condition ≠ .uncorrectable → settingFits n d.value.toNat →
            t.fuses.held.defaults.get n = d.value.toNat)) ∧
        t.fuses.held.corrected = (fuseConditions s.fuses.words).count .corrected ∧
        (∀ row, row < 9 → t.fuses.held.uncorrectable.getLsbD row =
          (uncorrectableRows s.fuses.words).getD row false) ∧
        (s.attention.sources.length = 24 →
          (FuseCondition.corrected ∈ fuseConditions s.fuses.words → (t.source Src.fuseCorrected).status = true) ∧
          (FuseCondition.uncorrectable ∈ fuseConditions s.fuses.words → (t.source Src.fuseFault).status = true))) ∧
    (s.control.phase = .retainedCheck →
      (s.control.storeValid = true →
        ∃ t, exec (.retainedCheck false) s = .next t ∧
          t = { s with
            store := { s.store with table := t.store.table, keys := t.store.keys }
            deadlines := t.deadlines
            stations := { s.stations with entries := s.stations.entries.map fun o => o.map fun e =>
              { e with tokens := s.stations.settings.openBurst, mark := none } }
            control := { s.control with phase := .engineTest } } ∧
          (∀ i e, s.entry i = some e → t.entry i =
            if e.state = .withdrawn ∨ (e.state = .lapsed ∧ e.purgeDue = true) then none
            else some { e with grantCount := 0 }) ∧
          (∀ i, s.entry i = none → t.entry i = none) ∧
          (∀ k, (∀ i e r, s.entry i = some e → e.holdsKeys = false → r ∈ e.refs → r.slot ≠ k) →
            slotGet t.store.keys k = slotGet s.store.keys k)) ∧
      (∀ damaged, s.control.storeValid = false ∨ damaged = true →
        ∃ t, exec (.retainedCheck damaged) s = .next t ∧
          t.control = { s.control with phase := .engineTest, beganBy := .backupLost, storeValid := true } ∧
          (∀ i, t.entry i = none) ∧ (∀ k, slotGet t.store.keys k = none) ∧ t.store.ingestSeq = 0 ∧
          (∀ i, t.station i = none) ∧ t.stations.mode = .service ∧ t.stations.settings = s.fuses.held.defaults ∧
          t.clock = { s.clock with timeState := .lost, floor := s.fuses.held.factoryFloor,
                                   boothTime := s.fuses.held.factoryFloor, trimBudget := 360, trimYear := 0 } ∧
          (s.attention.sources.length = 24 → t.attention.threshold = 2 ∧
            t.attention.sources.map (fun c => (c.enable, c.mask, c.level)) =
              defaultLevels.map (fun l => (true, false, l))))) ∧
    (s.control.phase = .clockCheck → ∀ dev,
      ∃ t, exec (.clockCheck dev) s = .next t ∧
        t = { s with
          clock := { s.clock with
            driftRun := if s.clock.ticked = false ∨ 200 < dev then 1 else 0, ticked := false }
          control := { s.control with phase :=
            if s.clock.timeState = .running ∧ s.control.sealing = false then .rebuild else .finish }
          attention := t.attention } ∧
        (s.attention.sources.length = 24 → ((t.source Src.clockDrift).status = true ↔
          s.clock.ticked = false ∨ 200 < dev))) ∧
    (s.control.phase = .rebuild →
      exec .rebuild s = .next { rebuildList s.clock.boothTime s with control := { s.control with phase := .finish } })

/-- The end of a start-up (spec 11 R172, 10 R168): SEALED or OPERATING, the cause recorded, uptime 0, the critical
sources by their conditions and FAULT if any holds, a flag for every raised and enabled source. On entry to OPERATING
with time RUNNING the Deadline List takes its due entries once, at booth time (07 R115). RETAINED_LOSS marks the store
lost while main power is off (11 R170). That the monitor's first window opens at the end of start-up is the model's choice
(DESIGN CHOICE, log 12). -/
def Obligations.StartUpEnds : Prop :=
  (∀ s : State, s.control.phase = .finish → s.attention.sources.length = 24 →
    ∃ t, exec .startUpEnd s = .next t ∧
      t.control = { s.control with
        service := if s.control.sealing then .sealedOff else .operating
        phase := .none
        cause := s.control.beganBy } ∧
      t.clock = { s.clock with uptime := 0, ticked := false } ∧
      ((t.source Src.sealing).status = true ↔ s.control.sealing = true) ∧
      ((t.source Src.timeLost).status = true ↔ s.clock.timeState = .lost) ∧
      ((t.source Src.engineFault).status = true ↔ s.engine.faulted = true) ∧
      ((t.source Src.fuseFault).status = true ↔ s.fuses.held.uncorrectable ≠ 0) ∧
      ((s.control.sealing = true ∨ s.clock.timeState = .lost ∨ s.engine.faulted = true ∨
        s.fuses.held.uncorrectable ≠ 0) → (t.source Src.fault).status = true) ∧
      (∀ c ∈ t.attention.sources, c.status = true → c.enable = true → c.pending = true) ∧
      (s.clock.timeState = .running → s.control.sealing = false → InOrder s.deadlines →
        ∀ d ∈ t.deadlines, t.clock.boothTime < d.due) ∧
      (∀ r, r = (if s.clock.timeState = .running ∧ s.control.sealing = false then runDeadlines s.clock.boothTime s else s) →
        t.store = r.store ∧ t.grants = r.grants ∧ t.deadlines = r.deadlines)) ∧
  (∀ s : State, s.control.power = false →
    exec .retainedLoss s = .next { s with control := { s.control with storeValid := false } })
end

