-- ==== Sys2Proof/Laws/State.lean ====
section
/-! SUPPORT. What each named update of State leaves and what it writes: one lemma for each block, and for each field of the
block it writes. -/

namespace Sys2Proof.Machine

@[simp] theorem State.setEntry_pending (s : State) (i : Nat) (o : Option ParcelEntry) : (s.setEntry i o).pending = s.pending := rfl
@[simp] theorem State.setEntry_link (s : State) (i : Nat) (o : Option ParcelEntry) : (s.setEntry i o).link = s.link := rfl
@[simp] theorem State.setEntry_stations (s : State) (i : Nat) (o : Option ParcelEntry) : (s.setEntry i o).stations = s.stations := rfl
@[simp] theorem State.setEntry_clock (s : State) (i : Nat) (o : Option ParcelEntry) : (s.setEntry i o).clock = s.clock := rfl
@[simp] theorem State.setEntry_deadlines (s : State) (i : Nat) (o : Option ParcelEntry) : (s.setEntry i o).deadlines = s.deadlines := rfl
@[simp] theorem State.setEntry_store_table (s : State) (i : Nat) (o : Option ParcelEntry) :
    (s.setEntry i o).store.table = s.store.table.set i o := rfl
@[simp] theorem State.setEntry_store_keys (s : State) (i : Nat) (o : Option ParcelEntry) :
    (s.setEntry i o).store.keys = s.store.keys := rfl
@[simp] theorem State.setEntry_store_staging (s : State) (i : Nat) (o : Option ParcelEntry) :
    (s.setEntry i o).store.staging = s.store.staging := rfl
@[simp] theorem State.setEntry_store_ingestSeq (s : State) (i : Nat) (o : Option ParcelEntry) :
    (s.setEntry i o).store.ingestSeq = s.store.ingestSeq := rfl
@[simp] theorem State.setEntry_openQueue (s : State) (i : Nat) (o : Option ParcelEntry) : (s.setEntry i o).openQueue = s.openQueue := rfl
@[simp] theorem State.setEntry_arbiter (s : State) (i : Nat) (o : Option ParcelEntry) : (s.setEntry i o).arbiter = s.arbiter := rfl
@[simp] theorem State.setEntry_engine (s : State) (i : Nat) (o : Option ParcelEntry) : (s.setEntry i o).engine = s.engine := rfl
@[simp] theorem State.setEntry_grants (s : State) (i : Nat) (o : Option ParcelEntry) : (s.setEntry i o).grants = s.grants := rfl
@[simp] theorem State.setEntry_attention (s : State) (i : Nat) (o : Option ParcelEntry) : (s.setEntry i o).attention = s.attention := rfl
@[simp] theorem State.setEntry_fuses (s : State) (i : Nat) (o : Option ParcelEntry) : (s.setEntry i o).fuses = s.fuses := rfl
@[simp] theorem State.setEntry_control (s : State) (i : Nat) (o : Option ParcelEntry) : (s.setEntry i o).control = s.control := rfl

@[simp] theorem State.setGrant_pending (s : State) (g : Nat) (o : Option Grant) : (s.setGrant g o).pending = s.pending := rfl
@[simp] theorem State.setGrant_link (s : State) (g : Nat) (o : Option Grant) : (s.setGrant g o).link = s.link := rfl
@[simp] theorem State.setGrant_stations (s : State) (g : Nat) (o : Option Grant) : (s.setGrant g o).stations = s.stations := rfl
@[simp] theorem State.setGrant_clock (s : State) (g : Nat) (o : Option Grant) : (s.setGrant g o).clock = s.clock := rfl
@[simp] theorem State.setGrant_deadlines (s : State) (g : Nat) (o : Option Grant) : (s.setGrant g o).deadlines = s.deadlines := rfl
@[simp] theorem State.setGrant_store (s : State) (g : Nat) (o : Option Grant) : (s.setGrant g o).store = s.store := rfl
@[simp] theorem State.setGrant_openQueue (s : State) (g : Nat) (o : Option Grant) : (s.setGrant g o).openQueue = s.openQueue := rfl
@[simp] theorem State.setGrant_arbiter (s : State) (g : Nat) (o : Option Grant) : (s.setGrant g o).arbiter = s.arbiter := rfl
@[simp] theorem State.setGrant_engine (s : State) (g : Nat) (o : Option Grant) : (s.setGrant g o).engine = s.engine := rfl
@[simp] theorem State.setGrant_grants_slots (s : State) (g : Nat) (o : Option Grant) :
    (s.setGrant g o).grants.slots = s.grants.slots.set g o := rfl
@[simp] theorem State.setGrant_grants_gens (s : State) (g : Nat) (o : Option Grant) :
    (s.setGrant g o).grants.gens = s.grants.gens := rfl
@[simp] theorem State.setGrant_grants_expireList (s : State) (g : Nat) (o : Option Grant) :
    (s.setGrant g o).grants.expireList = s.grants.expireList := rfl
@[simp] theorem State.setGrant_attention (s : State) (g : Nat) (o : Option Grant) : (s.setGrant g o).attention = s.attention := rfl
@[simp] theorem State.setGrant_fuses (s : State) (g : Nat) (o : Option Grant) : (s.setGrant g o).fuses = s.fuses := rfl
@[simp] theorem State.setGrant_control (s : State) (g : Nat) (o : Option Grant) : (s.setGrant g o).control = s.control := rfl

@[simp] theorem State.setStation_pending (s : State) (i : Nat) (o : Option Station) : (s.setStation i o).pending = s.pending := rfl
@[simp] theorem State.setStation_link (s : State) (i : Nat) (o : Option Station) : (s.setStation i o).link = s.link := rfl
@[simp] theorem State.setStation_stations_entries (s : State) (i : Nat) (o : Option Station) :
    (s.setStation i o).stations.entries = s.stations.entries.set i o := rfl
@[simp] theorem State.setStation_stations_mode (s : State) (i : Nat) (o : Option Station) :
    (s.setStation i o).stations.mode = s.stations.mode := rfl
@[simp] theorem State.setStation_stations_keyHolder (s : State) (i : Nat) (o : Option Station) :
    (s.setStation i o).stations.keyHolder = s.stations.keyHolder := rfl
@[simp] theorem State.setStation_stations_mismatch (s : State) (i : Nat) (o : Option Station) :
    (s.setStation i o).stations.mismatch = s.stations.mismatch := rfl
@[simp] theorem State.setStation_stations_settings (s : State) (i : Nat) (o : Option Station) :
    (s.setStation i o).stations.settings = s.stations.settings := rfl
@[simp] theorem State.setStation_clock (s : State) (i : Nat) (o : Option Station) : (s.setStation i o).clock = s.clock := rfl
@[simp] theorem State.setStation_deadlines (s : State) (i : Nat) (o : Option Station) : (s.setStation i o).deadlines = s.deadlines := rfl
@[simp] theorem State.setStation_store (s : State) (i : Nat) (o : Option Station) : (s.setStation i o).store = s.store := rfl
@[simp] theorem State.setStation_openQueue (s : State) (i : Nat) (o : Option Station) : (s.setStation i o).openQueue = s.openQueue := rfl
@[simp] theorem State.setStation_arbiter (s : State) (i : Nat) (o : Option Station) : (s.setStation i o).arbiter = s.arbiter := rfl
@[simp] theorem State.setStation_engine (s : State) (i : Nat) (o : Option Station) : (s.setStation i o).engine = s.engine := rfl
@[simp] theorem State.setStation_grants (s : State) (i : Nat) (o : Option Station) : (s.setStation i o).grants = s.grants := rfl
@[simp] theorem State.setStation_attention (s : State) (i : Nat) (o : Option Station) : (s.setStation i o).attention = s.attention := rfl
@[simp] theorem State.setStation_fuses (s : State) (i : Nat) (o : Option Station) : (s.setStation i o).fuses = s.fuses := rfl
@[simp] theorem State.setStation_control (s : State) (i : Nat) (o : Option Station) : (s.setStation i o).control = s.control := rfl

@[simp] theorem placeAnswer_pending (a : Answer) (s : State) : (placeAnswer a s).pending = s.pending := rfl
@[simp] theorem placeAnswer_link_up (a : Answer) (s : State) :
    (placeAnswer a s).link.up = s.link.up := rfl
@[simp] theorem placeAnswer_link_arriving (a : Answer) (s : State) :
    (placeAnswer a s).link.arriving = s.link.arriving := rfl
@[simp] theorem placeAnswer_link_stored (a : Answer) (s : State) :
    (placeAnswer a s).link.stored = s.link.stored := rfl
@[simp] theorem placeAnswer_link_hold (a : Answer) (s : State) :
    (placeAnswer a s).link.hold = s.link.hold := rfl
@[simp] theorem placeAnswer_link_holdTimer (a : Answer) (s : State) :
    (placeAnswer a s).link.holdTimer = s.link.holdTimer := rfl
@[simp] theorem placeAnswer_link_pendingHold (a : Answer) (s : State) :
    (placeAnswer a s).link.pendingHold = s.link.pendingHold := rfl
@[simp] theorem placeAnswer_link_answers (a : Answer) (s : State) :
    (placeAnswer a s).link.answers = s.link.answers ++ [a] := rfl
@[simp] theorem placeAnswer_link_sending (a : Answer) (s : State) :
    (placeAnswer a s).link.sending = s.link.sending := rfl
@[simp] theorem placeAnswer_link_good (a : Answer) (s : State) :
    (placeAnswer a s).link.good = s.link.good := rfl
@[simp] theorem placeAnswer_link_stranger (a : Answer) (s : State) :
    (placeAnswer a s).link.stranger = s.link.stranger := rfl
@[simp] theorem placeAnswer_link_overrun (a : Answer) (s : State) :
    (placeAnswer a s).link.overrun = s.link.overrun := rfl
@[simp] theorem placeAnswer_link_bad (a : Answer) (s : State) :
    (placeAnswer a s).link.bad = s.link.bad := rfl
@[simp] theorem placeAnswer_stations (a : Answer) (s : State) : (placeAnswer a s).stations = s.stations := rfl
@[simp] theorem placeAnswer_clock (a : Answer) (s : State) : (placeAnswer a s).clock = s.clock := rfl
@[simp] theorem placeAnswer_deadlines (a : Answer) (s : State) : (placeAnswer a s).deadlines = s.deadlines := rfl
@[simp] theorem placeAnswer_store (a : Answer) (s : State) : (placeAnswer a s).store = s.store := rfl
@[simp] theorem placeAnswer_openQueue (a : Answer) (s : State) : (placeAnswer a s).openQueue = s.openQueue := rfl
@[simp] theorem placeAnswer_arbiter (a : Answer) (s : State) : (placeAnswer a s).arbiter = s.arbiter := rfl
@[simp] theorem placeAnswer_engine (a : Answer) (s : State) : (placeAnswer a s).engine = s.engine := rfl
@[simp] theorem placeAnswer_grants (a : Answer) (s : State) : (placeAnswer a s).grants = s.grants := rfl
@[simp] theorem placeAnswer_attention (a : Answer) (s : State) : (placeAnswer a s).attention = s.attention := rfl
@[simp] theorem placeAnswer_fuses (a : Answer) (s : State) : (placeAnswer a s).fuses = s.fuses := rfl
@[simp] theorem placeAnswer_control (a : Answer) (s : State) : (placeAnswer a s).control = s.control := rfl

@[simp] theorem addDeadline_pending (d : Deadline) (s : State) : (addDeadline d s).pending = s.pending := rfl
@[simp] theorem addDeadline_link (d : Deadline) (s : State) : (addDeadline d s).link = s.link := rfl
@[simp] theorem addDeadline_stations (d : Deadline) (s : State) : (addDeadline d s).stations = s.stations := rfl
@[simp] theorem addDeadline_clock (d : Deadline) (s : State) : (addDeadline d s).clock = s.clock := rfl
@[simp] theorem addDeadline_deadlines (d : Deadline) (s : State) :
    (addDeadline d s).deadlines = insertDeadline d s.deadlines := rfl
@[simp] theorem addDeadline_store (d : Deadline) (s : State) : (addDeadline d s).store = s.store := rfl
@[simp] theorem addDeadline_openQueue (d : Deadline) (s : State) : (addDeadline d s).openQueue = s.openQueue := rfl
@[simp] theorem addDeadline_arbiter (d : Deadline) (s : State) : (addDeadline d s).arbiter = s.arbiter := rfl
@[simp] theorem addDeadline_engine (d : Deadline) (s : State) : (addDeadline d s).engine = s.engine := rfl
@[simp] theorem addDeadline_grants (d : Deadline) (s : State) : (addDeadline d s).grants = s.grants := rfl
@[simp] theorem addDeadline_attention (d : Deadline) (s : State) : (addDeadline d s).attention = s.attention := rfl
@[simp] theorem addDeadline_fuses (d : Deadline) (s : State) : (addDeadline d s).fuses = s.fuses := rfl
@[simp] theorem addDeadline_control (d : Deadline) (s : State) : (addDeadline d s).control = s.control := rfl

@[simp] theorem dropParcelDeadlines_pending (i : Nat) (s : State) : (dropParcelDeadlines i s).pending = s.pending := rfl
@[simp] theorem dropParcelDeadlines_link (i : Nat) (s : State) : (dropParcelDeadlines i s).link = s.link := rfl
@[simp] theorem dropParcelDeadlines_stations (i : Nat) (s : State) : (dropParcelDeadlines i s).stations = s.stations := rfl
@[simp] theorem dropParcelDeadlines_clock (i : Nat) (s : State) : (dropParcelDeadlines i s).clock = s.clock := rfl
@[simp] theorem dropParcelDeadlines_deadlines (i : Nat) (s : State) :
    (dropParcelDeadlines i s).deadlines = s.deadlines.filter fun d => !(d.kind != .spanEnd && d.ref == i) := rfl
@[simp] theorem dropParcelDeadlines_store (i : Nat) (s : State) : (dropParcelDeadlines i s).store = s.store := rfl
@[simp] theorem dropParcelDeadlines_openQueue (i : Nat) (s : State) : (dropParcelDeadlines i s).openQueue = s.openQueue := rfl
@[simp] theorem dropParcelDeadlines_arbiter (i : Nat) (s : State) : (dropParcelDeadlines i s).arbiter = s.arbiter := rfl
@[simp] theorem dropParcelDeadlines_engine (i : Nat) (s : State) : (dropParcelDeadlines i s).engine = s.engine := rfl
@[simp] theorem dropParcelDeadlines_grants (i : Nat) (s : State) : (dropParcelDeadlines i s).grants = s.grants := rfl
@[simp] theorem dropParcelDeadlines_attention (i : Nat) (s : State) : (dropParcelDeadlines i s).attention = s.attention := rfl
@[simp] theorem dropParcelDeadlines_fuses (i : Nat) (s : State) : (dropParcelDeadlines i s).fuses = s.fuses := rfl
@[simp] theorem dropParcelDeadlines_control (i : Nat) (s : State) : (dropParcelDeadlines i s).control = s.control := rfl

@[simp] theorem dropSpanEnd_pending (g : Nat) (s : State) : (dropSpanEnd g s).pending = s.pending := rfl
@[simp] theorem dropSpanEnd_link (g : Nat) (s : State) : (dropSpanEnd g s).link = s.link := rfl
@[simp] theorem dropSpanEnd_stations (g : Nat) (s : State) : (dropSpanEnd g s).stations = s.stations := rfl
@[simp] theorem dropSpanEnd_clock (g : Nat) (s : State) : (dropSpanEnd g s).clock = s.clock := rfl
@[simp] theorem dropSpanEnd_deadlines (g : Nat) (s : State) :
    (dropSpanEnd g s).deadlines = s.deadlines.filter fun d => !(d.kind == .spanEnd && d.ref == g) := rfl
@[simp] theorem dropSpanEnd_store (g : Nat) (s : State) : (dropSpanEnd g s).store = s.store := rfl
@[simp] theorem dropSpanEnd_openQueue (g : Nat) (s : State) : (dropSpanEnd g s).openQueue = s.openQueue := rfl
@[simp] theorem dropSpanEnd_arbiter (g : Nat) (s : State) : (dropSpanEnd g s).arbiter = s.arbiter := rfl
@[simp] theorem dropSpanEnd_engine (g : Nat) (s : State) : (dropSpanEnd g s).engine = s.engine := rfl
@[simp] theorem dropSpanEnd_grants (g : Nat) (s : State) : (dropSpanEnd g s).grants = s.grants := rfl
@[simp] theorem dropSpanEnd_attention (g : Nat) (s : State) : (dropSpanEnd g s).attention = s.attention := rfl
@[simp] theorem dropSpanEnd_fuses (g : Nat) (s : State) : (dropSpanEnd g s).fuses = s.fuses := rfl
@[simp] theorem dropSpanEnd_control (g : Nat) (s : State) : (dropSpanEnd g s).control = s.control := rfl

@[simp] theorem State.modSource_pending (s : State) (n : Nat) (f : Source → Source) : (s.modSource n f).pending = s.pending := rfl
@[simp] theorem State.modSource_link (s : State) (n : Nat) (f : Source → Source) : (s.modSource n f).link = s.link := rfl
@[simp] theorem State.modSource_stations (s : State) (n : Nat) (f : Source → Source) : (s.modSource n f).stations = s.stations := rfl
@[simp] theorem State.modSource_clock (s : State) (n : Nat) (f : Source → Source) : (s.modSource n f).clock = s.clock := rfl
@[simp] theorem State.modSource_deadlines (s : State) (n : Nat) (f : Source → Source) : (s.modSource n f).deadlines = s.deadlines := rfl
@[simp] theorem State.modSource_store (s : State) (n : Nat) (f : Source → Source) : (s.modSource n f).store = s.store := rfl
@[simp] theorem State.modSource_openQueue (s : State) (n : Nat) (f : Source → Source) : (s.modSource n f).openQueue = s.openQueue := rfl
@[simp] theorem State.modSource_arbiter (s : State) (n : Nat) (f : Source → Source) : (s.modSource n f).arbiter = s.arbiter := rfl
@[simp] theorem State.modSource_engine (s : State) (n : Nat) (f : Source → Source) : (s.modSource n f).engine = s.engine := rfl
@[simp] theorem State.modSource_grants (s : State) (n : Nat) (f : Source → Source) : (s.modSource n f).grants = s.grants := rfl
@[simp] theorem State.modSource_attention_sources (s : State) (n : Nat) (f : Source → Source) :
    (s.modSource n f).attention.sources = s.attention.sources.modify n f := rfl
@[simp] theorem State.modSource_attention_threshold (s : State) (n : Nat) (f : Source → Source) :
    (s.modSource n f).attention.threshold = s.attention.threshold := rfl
@[simp] theorem State.modSource_fuses (s : State) (n : Nat) (f : Source → Source) : (s.modSource n f).fuses = s.fuses := rfl
@[simp] theorem State.modSource_control (s : State) (n : Nat) (f : Source → Source) : (s.modSource n f).control = s.control := rfl

@[simp] theorem setPassOver_pending (n : Nat) (s : State) : (setPassOver n s).pending = s.pending := rfl
@[simp] theorem setPassOver_link (n : Nat) (s : State) : (setPassOver n s).link = s.link := rfl
@[simp] theorem setPassOver_stations (n : Nat) (s : State) : (setPassOver n s).stations = s.stations := rfl
@[simp] theorem setPassOver_clock (n : Nat) (s : State) : (setPassOver n s).clock = s.clock := rfl
@[simp] theorem setPassOver_deadlines (n : Nat) (s : State) : (setPassOver n s).deadlines = s.deadlines := rfl
@[simp] theorem setPassOver_store (n : Nat) (s : State) : (setPassOver n s).store = s.store := rfl
@[simp] theorem setPassOver_openQueue (n : Nat) (s : State) : (setPassOver n s).openQueue = s.openQueue := rfl
@[simp] theorem setPassOver_arbiter_passOver (n : Nat) (s : State) :
    (setPassOver n s).arbiter.passOver = n := rfl
@[simp] theorem setPassOver_arbiter_testDue (n : Nat) (s : State) :
    (setPassOver n s).arbiter.testDue = s.arbiter.testDue := rfl
@[simp] theorem setPassOver_arbiter_lastKat (n : Nat) (s : State) :
    (setPassOver n s).arbiter.lastKat = s.arbiter.lastKat := rfl
@[simp] theorem setPassOver_arbiter_selfTest (n : Nat) (s : State) :
    (setPassOver n s).arbiter.selfTest = s.arbiter.selfTest := rfl
@[simp] theorem setPassOver_engine (n : Nat) (s : State) : (setPassOver n s).engine = s.engine := rfl
@[simp] theorem setPassOver_grants (n : Nat) (s : State) : (setPassOver n s).grants = s.grants := rfl
@[simp] theorem setPassOver_attention (n : Nat) (s : State) : (setPassOver n s).attention = s.attention := rfl
@[simp] theorem setPassOver_fuses (n : Nat) (s : State) : (setPassOver n s).fuses = s.fuses := rfl
@[simp] theorem setPassOver_control (n : Nat) (s : State) : (setPassOver n s).control = s.control := rfl

@[simp] theorem setPhase_pending (p : StartPhase) (s : State) : (setPhase p s).pending = s.pending := rfl
@[simp] theorem setPhase_link (p : StartPhase) (s : State) : (setPhase p s).link = s.link := rfl
@[simp] theorem setPhase_stations (p : StartPhase) (s : State) : (setPhase p s).stations = s.stations := rfl
@[simp] theorem setPhase_clock (p : StartPhase) (s : State) : (setPhase p s).clock = s.clock := rfl
@[simp] theorem setPhase_deadlines (p : StartPhase) (s : State) : (setPhase p s).deadlines = s.deadlines := rfl
@[simp] theorem setPhase_store (p : StartPhase) (s : State) : (setPhase p s).store = s.store := rfl
@[simp] theorem setPhase_openQueue (p : StartPhase) (s : State) : (setPhase p s).openQueue = s.openQueue := rfl
@[simp] theorem setPhase_arbiter (p : StartPhase) (s : State) : (setPhase p s).arbiter = s.arbiter := rfl
@[simp] theorem setPhase_engine (p : StartPhase) (s : State) : (setPhase p s).engine = s.engine := rfl
@[simp] theorem setPhase_grants (p : StartPhase) (s : State) : (setPhase p s).grants = s.grants := rfl
@[simp] theorem setPhase_attention (p : StartPhase) (s : State) : (setPhase p s).attention = s.attention := rfl
@[simp] theorem setPhase_fuses (p : StartPhase) (s : State) : (setPhase p s).fuses = s.fuses := rfl
@[simp] theorem setPhase_control_power (p : StartPhase) (s : State) :
    (setPhase p s).control.power = s.control.power := rfl
@[simp] theorem setPhase_control_resetLow (p : StartPhase) (s : State) :
    (setPhase p s).control.resetLow = s.control.resetLow := rfl
@[simp] theorem setPhase_control_service (p : StartPhase) (s : State) :
    (setPhase p s).control.service = s.control.service := rfl
@[simp] theorem setPhase_control_phase (p : StartPhase) (s : State) :
    (setPhase p s).control.phase = p := rfl
@[simp] theorem setPhase_control_beganBy (p : StartPhase) (s : State) :
    (setPhase p s).control.beganBy = s.control.beganBy := rfl
@[simp] theorem setPhase_control_cause (p : StartPhase) (s : State) :
    (setPhase p s).control.cause = s.control.cause := rfl
@[simp] theorem setPhase_control_sealing (p : StartPhase) (s : State) :
    (setPhase p s).control.sealing = s.control.sealing := rfl
@[simp] theorem setPhase_control_storeValid (p : StartPhase) (s : State) :
    (setPhase p s).control.storeValid = s.control.storeValid := rfl

@[simp] theorem setHolder_pending (k : Option Bytes16) (s : State) : (setHolder k s).pending = s.pending := rfl
@[simp] theorem setHolder_link (k : Option Bytes16) (s : State) : (setHolder k s).link = s.link := rfl
@[simp] theorem setHolder_stations_entries (k : Option Bytes16) (s : State) :
    (setHolder k s).stations.entries = s.stations.entries := rfl
@[simp] theorem setHolder_stations_mode (k : Option Bytes16) (s : State) :
    (setHolder k s).stations.mode = s.stations.mode := rfl
@[simp] theorem setHolder_stations_keyHolder (k : Option Bytes16) (s : State) :
    (setHolder k s).stations.keyHolder = k := rfl
@[simp] theorem setHolder_stations_mismatch (k : Option Bytes16) (s : State) :
    (setHolder k s).stations.mismatch = s.stations.mismatch := rfl
@[simp] theorem setHolder_stations_settings (k : Option Bytes16) (s : State) :
    (setHolder k s).stations.settings = s.stations.settings := rfl
@[simp] theorem setHolder_clock (k : Option Bytes16) (s : State) : (setHolder k s).clock = s.clock := rfl
@[simp] theorem setHolder_deadlines (k : Option Bytes16) (s : State) : (setHolder k s).deadlines = s.deadlines := rfl
@[simp] theorem setHolder_store (k : Option Bytes16) (s : State) : (setHolder k s).store = s.store := rfl
@[simp] theorem setHolder_openQueue (k : Option Bytes16) (s : State) : (setHolder k s).openQueue = s.openQueue := rfl
@[simp] theorem setHolder_arbiter (k : Option Bytes16) (s : State) : (setHolder k s).arbiter = s.arbiter := rfl
@[simp] theorem setHolder_engine (k : Option Bytes16) (s : State) : (setHolder k s).engine = s.engine := rfl
@[simp] theorem setHolder_grants (k : Option Bytes16) (s : State) : (setHolder k s).grants = s.grants := rfl
@[simp] theorem setHolder_attention (k : Option Bytes16) (s : State) : (setHolder k s).attention = s.attention := rfl
@[simp] theorem setHolder_fuses (k : Option Bytes16) (s : State) : (setHolder k s).fuses = s.fuses := rfl
@[simp] theorem setHolder_control (k : Option Bytes16) (s : State) : (setHolder k s).control = s.control := rfl

@[simp] theorem setMismatch_pending (n : Nat) (s : State) : (setMismatch n s).pending = s.pending := rfl
@[simp] theorem setMismatch_link (n : Nat) (s : State) : (setMismatch n s).link = s.link := rfl
@[simp] theorem setMismatch_stations_entries (n : Nat) (s : State) :
    (setMismatch n s).stations.entries = s.stations.entries := rfl
@[simp] theorem setMismatch_stations_mode (n : Nat) (s : State) :
    (setMismatch n s).stations.mode = s.stations.mode := rfl
@[simp] theorem setMismatch_stations_keyHolder (n : Nat) (s : State) :
    (setMismatch n s).stations.keyHolder = s.stations.keyHolder := rfl
@[simp] theorem setMismatch_stations_mismatch (n : Nat) (s : State) :
    (setMismatch n s).stations.mismatch = n := rfl
@[simp] theorem setMismatch_stations_settings (n : Nat) (s : State) :
    (setMismatch n s).stations.settings = s.stations.settings := rfl
@[simp] theorem setMismatch_clock (n : Nat) (s : State) : (setMismatch n s).clock = s.clock := rfl
@[simp] theorem setMismatch_deadlines (n : Nat) (s : State) : (setMismatch n s).deadlines = s.deadlines := rfl
@[simp] theorem setMismatch_store (n : Nat) (s : State) : (setMismatch n s).store = s.store := rfl
@[simp] theorem setMismatch_openQueue (n : Nat) (s : State) : (setMismatch n s).openQueue = s.openQueue := rfl
@[simp] theorem setMismatch_arbiter (n : Nat) (s : State) : (setMismatch n s).arbiter = s.arbiter := rfl
@[simp] theorem setMismatch_engine (n : Nat) (s : State) : (setMismatch n s).engine = s.engine := rfl
@[simp] theorem setMismatch_grants (n : Nat) (s : State) : (setMismatch n s).grants = s.grants := rfl
@[simp] theorem setMismatch_attention (n : Nat) (s : State) : (setMismatch n s).attention = s.attention := rfl
@[simp] theorem setMismatch_fuses (n : Nat) (s : State) : (setMismatch n s).fuses = s.fuses := rfl
@[simp] theorem setMismatch_control (n : Nat) (s : State) : (setMismatch n s).control = s.control := rfl

@[simp] theorem startSending_pending (dst : Addr) (kind tag : Byte) (body : List Byte) (s : State) : (startSending dst kind tag body s).pending = s.pending := rfl
@[simp] theorem startSending_link_up (dst : Addr) (kind tag : Byte) (body : List Byte) (s : State) :
    (startSending dst kind tag body s).link.up = s.link.up := rfl
@[simp] theorem startSending_link_arriving (dst : Addr) (kind tag : Byte) (body : List Byte) (s : State) :
    (startSending dst kind tag body s).link.arriving = s.link.arriving := rfl
@[simp] theorem startSending_link_stored (dst : Addr) (kind tag : Byte) (body : List Byte) (s : State) :
    (startSending dst kind tag body s).link.stored = s.link.stored := rfl
@[simp] theorem startSending_link_hold (dst : Addr) (kind tag : Byte) (body : List Byte) (s : State) :
    (startSending dst kind tag body s).link.hold = s.link.hold := rfl
@[simp] theorem startSending_link_holdTimer (dst : Addr) (kind tag : Byte) (body : List Byte) (s : State) :
    (startSending dst kind tag body s).link.holdTimer = s.link.holdTimer := rfl
@[simp] theorem startSending_link_pendingHold (dst : Addr) (kind tag : Byte) (body : List Byte) (s : State) :
    (startSending dst kind tag body s).link.pendingHold = s.link.pendingHold := rfl
@[simp] theorem startSending_link_answers (dst : Addr) (kind tag : Byte) (body : List Byte) (s : State) :
    (startSending dst kind tag body s).link.answers = s.link.answers := rfl
@[simp] theorem startSending_link_sending (dst : Addr) (kind tag : Byte) (body : List Byte) (s : State) :
    (startSending dst kind tag body s).link.sending = some { dst := dst, src := s.ownAddr, kind := kind, tag := tag, body := body } := rfl
@[simp] theorem startSending_link_good (dst : Addr) (kind tag : Byte) (body : List Byte) (s : State) :
    (startSending dst kind tag body s).link.good = s.link.good := rfl
@[simp] theorem startSending_link_stranger (dst : Addr) (kind tag : Byte) (body : List Byte) (s : State) :
    (startSending dst kind tag body s).link.stranger = s.link.stranger := rfl
@[simp] theorem startSending_link_overrun (dst : Addr) (kind tag : Byte) (body : List Byte) (s : State) :
    (startSending dst kind tag body s).link.overrun = s.link.overrun := rfl
@[simp] theorem startSending_link_bad (dst : Addr) (kind tag : Byte) (body : List Byte) (s : State) :
    (startSending dst kind tag body s).link.bad = s.link.bad := rfl
@[simp] theorem startSending_stations (dst : Addr) (kind tag : Byte) (body : List Byte) (s : State) : (startSending dst kind tag body s).stations = s.stations := rfl
@[simp] theorem startSending_clock (dst : Addr) (kind tag : Byte) (body : List Byte) (s : State) : (startSending dst kind tag body s).clock = s.clock := rfl
@[simp] theorem startSending_deadlines (dst : Addr) (kind tag : Byte) (body : List Byte) (s : State) : (startSending dst kind tag body s).deadlines = s.deadlines := rfl
@[simp] theorem startSending_store (dst : Addr) (kind tag : Byte) (body : List Byte) (s : State) : (startSending dst kind tag body s).store = s.store := rfl
@[simp] theorem startSending_openQueue (dst : Addr) (kind tag : Byte) (body : List Byte) (s : State) : (startSending dst kind tag body s).openQueue = s.openQueue := rfl
@[simp] theorem startSending_arbiter (dst : Addr) (kind tag : Byte) (body : List Byte) (s : State) : (startSending dst kind tag body s).arbiter = s.arbiter := rfl
@[simp] theorem startSending_engine (dst : Addr) (kind tag : Byte) (body : List Byte) (s : State) : (startSending dst kind tag body s).engine = s.engine := rfl
@[simp] theorem startSending_grants (dst : Addr) (kind tag : Byte) (body : List Byte) (s : State) : (startSending dst kind tag body s).grants = s.grants := rfl
@[simp] theorem startSending_attention (dst : Addr) (kind tag : Byte) (body : List Byte) (s : State) : (startSending dst kind tag body s).attention = s.attention := rfl
@[simp] theorem startSending_fuses (dst : Addr) (kind tag : Byte) (body : List Byte) (s : State) : (startSending dst kind tag body s).fuses = s.fuses := rfl
@[simp] theorem startSending_control (dst : Addr) (kind tag : Byte) (body : List Byte) (s : State) : (startSending dst kind tag body s).control = s.control := rfl

@[simp] theorem raiseOne_pending (n : Nat) (s : State) : (raiseOne n s).pending = s.pending := rfl
@[simp] theorem raiseOne_link (n : Nat) (s : State) : (raiseOne n s).link = s.link := rfl
@[simp] theorem raiseOne_stations (n : Nat) (s : State) : (raiseOne n s).stations = s.stations := rfl
@[simp] theorem raiseOne_clock (n : Nat) (s : State) : (raiseOne n s).clock = s.clock := rfl
@[simp] theorem raiseOne_deadlines (n : Nat) (s : State) : (raiseOne n s).deadlines = s.deadlines := rfl
@[simp] theorem raiseOne_store (n : Nat) (s : State) : (raiseOne n s).store = s.store := rfl
@[simp] theorem raiseOne_openQueue (n : Nat) (s : State) : (raiseOne n s).openQueue = s.openQueue := rfl
@[simp] theorem raiseOne_arbiter (n : Nat) (s : State) : (raiseOne n s).arbiter = s.arbiter := rfl
@[simp] theorem raiseOne_engine (n : Nat) (s : State) : (raiseOne n s).engine = s.engine := rfl
@[simp] theorem raiseOne_grants (n : Nat) (s : State) : (raiseOne n s).grants = s.grants := rfl
@[simp] theorem raiseOne_attention_threshold (n : Nat) (s : State) :
    (raiseOne n s).attention.threshold = s.attention.threshold := rfl
@[simp] theorem raiseOne_fuses (n : Nat) (s : State) : (raiseOne n s).fuses = s.fuses := rfl
@[simp] theorem raiseOne_control (n : Nat) (s : State) : (raiseOne n s).control = s.control := rfl

@[simp] theorem raisePulse_pending (n : Nat) (s : State) : (raisePulse n s).pending = s.pending := rfl
@[simp] theorem raisePulse_link (n : Nat) (s : State) : (raisePulse n s).link = s.link := rfl
@[simp] theorem raisePulse_stations (n : Nat) (s : State) : (raisePulse n s).stations = s.stations := rfl
@[simp] theorem raisePulse_clock (n : Nat) (s : State) : (raisePulse n s).clock = s.clock := rfl
@[simp] theorem raisePulse_deadlines (n : Nat) (s : State) : (raisePulse n s).deadlines = s.deadlines := rfl
@[simp] theorem raisePulse_store (n : Nat) (s : State) : (raisePulse n s).store = s.store := rfl
@[simp] theorem raisePulse_openQueue (n : Nat) (s : State) : (raisePulse n s).openQueue = s.openQueue := rfl
@[simp] theorem raisePulse_arbiter (n : Nat) (s : State) : (raisePulse n s).arbiter = s.arbiter := rfl
@[simp] theorem raisePulse_engine (n : Nat) (s : State) : (raisePulse n s).engine = s.engine := rfl
@[simp] theorem raisePulse_grants (n : Nat) (s : State) : (raisePulse n s).grants = s.grants := rfl
@[simp] theorem raisePulse_attention_threshold (n : Nat) (s : State) :
    (raisePulse n s).attention.threshold = s.attention.threshold := rfl
@[simp] theorem raisePulse_fuses (n : Nat) (s : State) : (raisePulse n s).fuses = s.fuses := rfl
@[simp] theorem raisePulse_control (n : Nat) (s : State) : (raisePulse n s).control = s.control := rfl

@[simp] theorem clearLevel_pending (n : Nat) (s : State) : (clearLevel n s).pending = s.pending := rfl
@[simp] theorem clearLevel_link (n : Nat) (s : State) : (clearLevel n s).link = s.link := rfl
@[simp] theorem clearLevel_stations (n : Nat) (s : State) : (clearLevel n s).stations = s.stations := rfl
@[simp] theorem clearLevel_clock (n : Nat) (s : State) : (clearLevel n s).clock = s.clock := rfl
@[simp] theorem clearLevel_deadlines (n : Nat) (s : State) : (clearLevel n s).deadlines = s.deadlines := rfl
@[simp] theorem clearLevel_store (n : Nat) (s : State) : (clearLevel n s).store = s.store := rfl
@[simp] theorem clearLevel_openQueue (n : Nat) (s : State) : (clearLevel n s).openQueue = s.openQueue := rfl
@[simp] theorem clearLevel_arbiter (n : Nat) (s : State) : (clearLevel n s).arbiter = s.arbiter := rfl
@[simp] theorem clearLevel_engine (n : Nat) (s : State) : (clearLevel n s).engine = s.engine := rfl
@[simp] theorem clearLevel_grants (n : Nat) (s : State) : (clearLevel n s).grants = s.grants := rfl
@[simp] theorem clearLevel_attention_threshold (n : Nat) (s : State) :
    (clearLevel n s).attention.threshold = s.attention.threshold := rfl
@[simp] theorem clearLevel_fuses (n : Nat) (s : State) : (clearLevel n s).fuses = s.fuses := rfl
@[simp] theorem clearLevel_control (n : Nat) (s : State) : (clearLevel n s).control = s.control := rfl

@[simp] theorem refuseWaiting_pending (pick : OpenReq → Bool) (c : Code) (s : State) : (refuseWaiting pick c s).pending = s.pending := rfl
@[simp] theorem refuseWaiting_link (pick : OpenReq → Bool) (c : Code) (s : State) : (refuseWaiting pick c s).link = s.link := rfl
@[simp] theorem refuseWaiting_stations (pick : OpenReq → Bool) (c : Code) (s : State) : (refuseWaiting pick c s).stations = s.stations := rfl
@[simp] theorem refuseWaiting_clock (pick : OpenReq → Bool) (c : Code) (s : State) : (refuseWaiting pick c s).clock = s.clock := rfl
@[simp] theorem refuseWaiting_deadlines (pick : OpenReq → Bool) (c : Code) (s : State) : (refuseWaiting pick c s).deadlines = s.deadlines := rfl
@[simp] theorem refuseWaiting_store (pick : OpenReq → Bool) (c : Code) (s : State) : (refuseWaiting pick c s).store = s.store := rfl
@[simp] theorem refuseWaiting_openQueue_waiting (pick : OpenReq → Bool) (c : Code) (s : State) :
    (refuseWaiting pick c s).openQueue.waiting = s.openQueue.waiting.filter fun w => !pick w := rfl
@[simp] theorem refuseWaiting_arbiter (pick : OpenReq → Bool) (c : Code) (s : State) : (refuseWaiting pick c s).arbiter = s.arbiter := rfl
@[simp] theorem refuseWaiting_engine (pick : OpenReq → Bool) (c : Code) (s : State) : (refuseWaiting pick c s).engine = s.engine := rfl
@[simp] theorem refuseWaiting_grants (pick : OpenReq → Bool) (c : Code) (s : State) : (refuseWaiting pick c s).grants = s.grants := rfl
@[simp] theorem refuseWaiting_attention (pick : OpenReq → Bool) (c : Code) (s : State) : (refuseWaiting pick c s).attention = s.attention := rfl
@[simp] theorem refuseWaiting_fuses (pick : OpenReq → Bool) (c : Code) (s : State) : (refuseWaiting pick c s).fuses = s.fuses := rfl
@[simp] theorem refuseWaiting_control (pick : OpenReq → Bool) (c : Code) (s : State) : (refuseWaiting pick c s).control = s.control := rfl

@[simp] theorem refuseStaging_pending (c : Code) (s : State) : (refuseStaging c s).pending = s.pending := rfl
@[simp] theorem refuseStaging_link (c : Code) (s : State) : (refuseStaging c s).link = s.link := rfl
@[simp] theorem refuseStaging_stations (c : Code) (s : State) : (refuseStaging c s).stations = s.stations := rfl
@[simp] theorem refuseStaging_clock (c : Code) (s : State) : (refuseStaging c s).clock = s.clock := rfl
@[simp] theorem refuseStaging_deadlines (c : Code) (s : State) : (refuseStaging c s).deadlines = s.deadlines := rfl
@[simp] theorem refuseStaging_store_table (c : Code) (s : State) :
    (refuseStaging c s).store.table = s.store.table := rfl
@[simp] theorem refuseStaging_store_keys (c : Code) (s : State) :
    (refuseStaging c s).store.keys = s.store.keys := rfl
@[simp] theorem refuseStaging_store_ingestSeq (c : Code) (s : State) :
    (refuseStaging c s).store.ingestSeq = s.store.ingestSeq := rfl
@[simp] theorem refuseStaging_openQueue (c : Code) (s : State) : (refuseStaging c s).openQueue = s.openQueue := rfl
@[simp] theorem refuseStaging_arbiter (c : Code) (s : State) : (refuseStaging c s).arbiter = s.arbiter := rfl
@[simp] theorem refuseStaging_engine (c : Code) (s : State) : (refuseStaging c s).engine = s.engine := rfl
@[simp] theorem refuseStaging_grants (c : Code) (s : State) : (refuseStaging c s).grants = s.grants := rfl
@[simp] theorem refuseStaging_attention (c : Code) (s : State) : (refuseStaging c s).attention = s.attention := rfl
@[simp] theorem refuseStaging_fuses (c : Code) (s : State) : (refuseStaging c s).fuses = s.fuses := rfl
@[simp] theorem refuseStaging_control (c : Code) (s : State) : (refuseStaging c s).control = s.control := rfl

@[simp] theorem countUptime_pending (s : State) : (countUptime s).pending = s.pending := rfl
@[simp] theorem countUptime_link (s : State) : (countUptime s).link = s.link := rfl
@[simp] theorem countUptime_stations (s : State) : (countUptime s).stations = s.stations := rfl
@[simp] theorem countUptime_clock_boothTime (s : State) :
    (countUptime s).clock.boothTime = s.clock.boothTime := rfl
@[simp] theorem countUptime_clock_uptime (s : State) :
    (countUptime s).clock.uptime = satAdd s.clock.uptime 1 := rfl
@[simp] theorem countUptime_clock_timeState (s : State) :
    (countUptime s).clock.timeState = s.clock.timeState := rfl
@[simp] theorem countUptime_clock_driftRun (s : State) :
    (countUptime s).clock.driftRun = s.clock.driftRun := rfl
@[simp] theorem countUptime_clock_trimBudget (s : State) :
    (countUptime s).clock.trimBudget = s.clock.trimBudget := rfl
@[simp] theorem countUptime_clock_trimYear (s : State) :
    (countUptime s).clock.trimYear = s.clock.trimYear := rfl
@[simp] theorem countUptime_clock_floor (s : State) :
    (countUptime s).clock.floor = s.clock.floor := rfl
@[simp] theorem countUptime_clock_ticked (s : State) :
    (countUptime s).clock.ticked = s.clock.ticked := rfl
@[simp] theorem countUptime_deadlines (s : State) : (countUptime s).deadlines = s.deadlines := rfl
@[simp] theorem countUptime_store (s : State) : (countUptime s).store = s.store := rfl
@[simp] theorem countUptime_openQueue (s : State) : (countUptime s).openQueue = s.openQueue := rfl
@[simp] theorem countUptime_arbiter (s : State) : (countUptime s).arbiter = s.arbiter := rfl
@[simp] theorem countUptime_engine (s : State) : (countUptime s).engine = s.engine := rfl
@[simp] theorem countUptime_grants (s : State) : (countUptime s).grants = s.grants := rfl
@[simp] theorem countUptime_attention (s : State) : (countUptime s).attention = s.attention := rfl
@[simp] theorem countUptime_fuses (s : State) : (countUptime s).fuses = s.fuses := rfl
@[simp] theorem countUptime_control (s : State) : (countUptime s).control = s.control := rfl

@[simp] theorem raiseFloor_pending (s : State) : (raiseFloor s).pending = s.pending := rfl
@[simp] theorem raiseFloor_link (s : State) : (raiseFloor s).link = s.link := rfl
@[simp] theorem raiseFloor_stations (s : State) : (raiseFloor s).stations = s.stations := rfl
@[simp] theorem raiseFloor_clock_boothTime (s : State) :
    (raiseFloor s).clock.boothTime = s.clock.boothTime := rfl
@[simp] theorem raiseFloor_clock_uptime (s : State) :
    (raiseFloor s).clock.uptime = s.clock.uptime := rfl
@[simp] theorem raiseFloor_clock_timeState (s : State) :
    (raiseFloor s).clock.timeState = s.clock.timeState := rfl
@[simp] theorem raiseFloor_clock_driftRun (s : State) :
    (raiseFloor s).clock.driftRun = s.clock.driftRun := rfl
@[simp] theorem raiseFloor_clock_trimBudget (s : State) :
    (raiseFloor s).clock.trimBudget = s.clock.trimBudget := rfl
@[simp] theorem raiseFloor_clock_trimYear (s : State) :
    (raiseFloor s).clock.trimYear = s.clock.trimYear := rfl
@[simp] theorem raiseFloor_clock_floor (s : State) :
    (raiseFloor s).clock.floor = max s.clock.floor s.clock.boothTime := rfl
@[simp] theorem raiseFloor_clock_ticked (s : State) :
    (raiseFloor s).clock.ticked = s.clock.ticked := rfl
@[simp] theorem raiseFloor_deadlines (s : State) : (raiseFloor s).deadlines = s.deadlines := rfl
@[simp] theorem raiseFloor_store (s : State) : (raiseFloor s).store = s.store := rfl
@[simp] theorem raiseFloor_openQueue (s : State) : (raiseFloor s).openQueue = s.openQueue := rfl
@[simp] theorem raiseFloor_arbiter (s : State) : (raiseFloor s).arbiter = s.arbiter := rfl
@[simp] theorem raiseFloor_engine (s : State) : (raiseFloor s).engine = s.engine := rfl
@[simp] theorem raiseFloor_grants (s : State) : (raiseFloor s).grants = s.grants := rfl
@[simp] theorem raiseFloor_attention (s : State) : (raiseFloor s).attention = s.attention := rfl
@[simp] theorem raiseFloor_fuses (s : State) : (raiseFloor s).fuses = s.fuses := rfl
@[simp] theorem raiseFloor_control (s : State) : (raiseFloor s).control = s.control := rfl

@[simp] theorem wrapTrimYear_pending (s : State) : (wrapTrimYear s).pending = s.pending := rfl
@[simp] theorem wrapTrimYear_link (s : State) : (wrapTrimYear s).link = s.link := rfl
@[simp] theorem wrapTrimYear_stations (s : State) : (wrapTrimYear s).stations = s.stations := rfl
@[simp] theorem wrapTrimYear_clock_boothTime (s : State) :
    (wrapTrimYear s).clock.boothTime = s.clock.boothTime := rfl
@[simp] theorem wrapTrimYear_clock_uptime (s : State) :
    (wrapTrimYear s).clock.uptime = s.clock.uptime := rfl
@[simp] theorem wrapTrimYear_clock_timeState (s : State) :
    (wrapTrimYear s).clock.timeState = s.clock.timeState := rfl
@[simp] theorem wrapTrimYear_clock_driftRun (s : State) :
    (wrapTrimYear s).clock.driftRun = s.clock.driftRun := rfl
@[simp] theorem wrapTrimYear_clock_trimBudget (s : State) :
    (wrapTrimYear s).clock.trimBudget = fullBudget := rfl
@[simp] theorem wrapTrimYear_clock_trimYear (s : State) :
    (wrapTrimYear s).clock.trimYear = 0 := rfl
@[simp] theorem wrapTrimYear_clock_floor (s : State) :
    (wrapTrimYear s).clock.floor = s.clock.floor := rfl
@[simp] theorem wrapTrimYear_clock_ticked (s : State) :
    (wrapTrimYear s).clock.ticked = s.clock.ticked := rfl
@[simp] theorem wrapTrimYear_deadlines (s : State) : (wrapTrimYear s).deadlines = s.deadlines := rfl
@[simp] theorem wrapTrimYear_store (s : State) : (wrapTrimYear s).store = s.store := rfl
@[simp] theorem wrapTrimYear_openQueue (s : State) : (wrapTrimYear s).openQueue = s.openQueue := rfl
@[simp] theorem wrapTrimYear_arbiter (s : State) : (wrapTrimYear s).arbiter = s.arbiter := rfl
@[simp] theorem wrapTrimYear_engine (s : State) : (wrapTrimYear s).engine = s.engine := rfl
@[simp] theorem wrapTrimYear_grants (s : State) : (wrapTrimYear s).grants = s.grants := rfl
@[simp] theorem wrapTrimYear_attention (s : State) : (wrapTrimYear s).attention = s.attention := rfl
@[simp] theorem wrapTrimYear_fuses (s : State) : (wrapTrimYear s).fuses = s.fuses := rfl
@[simp] theorem wrapTrimYear_control (s : State) : (wrapTrimYear s).control = s.control := rfl

@[simp] theorem openWindow_pending (s : State) : (openWindow s).pending = s.pending := rfl
@[simp] theorem openWindow_link (s : State) : (openWindow s).link = s.link := rfl
@[simp] theorem openWindow_stations (s : State) : (openWindow s).stations = s.stations := rfl
@[simp] theorem openWindow_clock_boothTime (s : State) :
    (openWindow s).clock.boothTime = s.clock.boothTime := rfl
@[simp] theorem openWindow_clock_uptime (s : State) :
    (openWindow s).clock.uptime = s.clock.uptime := rfl
@[simp] theorem openWindow_clock_timeState (s : State) :
    (openWindow s).clock.timeState = s.clock.timeState := rfl
@[simp] theorem openWindow_clock_driftRun (s : State) :
    (openWindow s).clock.driftRun = s.clock.driftRun := rfl
@[simp] theorem openWindow_clock_trimBudget (s : State) :
    (openWindow s).clock.trimBudget = s.clock.trimBudget := rfl
@[simp] theorem openWindow_clock_trimYear (s : State) :
    (openWindow s).clock.trimYear = s.clock.trimYear := rfl
@[simp] theorem openWindow_clock_floor (s : State) :
    (openWindow s).clock.floor = s.clock.floor := rfl
@[simp] theorem openWindow_clock_ticked (s : State) : (openWindow s).clock.ticked = false := rfl
@[simp] theorem openWindow_deadlines (s : State) : (openWindow s).deadlines = s.deadlines := rfl
@[simp] theorem openWindow_store (s : State) : (openWindow s).store = s.store := rfl
@[simp] theorem openWindow_openQueue (s : State) : (openWindow s).openQueue = s.openQueue := rfl
@[simp] theorem openWindow_arbiter (s : State) : (openWindow s).arbiter = s.arbiter := rfl
@[simp] theorem openWindow_engine (s : State) : (openWindow s).engine = s.engine := rfl
@[simp] theorem openWindow_grants (s : State) : (openWindow s).grants = s.grants := rfl
@[simp] theorem openWindow_attention (s : State) : (openWindow s).attention = s.attention := rfl
@[simp] theorem openWindow_fuses (s : State) : (openWindow s).fuses = s.fuses := rfl
@[simp] theorem openWindow_control (s : State) : (openWindow s).control = s.control := rfl

@[simp] theorem noteTick_pending (s : State) : (noteTick s).pending = s.pending := rfl
@[simp] theorem noteTick_link (s : State) : (noteTick s).link = s.link := rfl
@[simp] theorem noteTick_stations (s : State) : (noteTick s).stations = s.stations := rfl
@[simp] theorem noteTick_clock_boothTime (s : State) :
    (noteTick s).clock.boothTime = s.clock.boothTime := rfl
@[simp] theorem noteTick_clock_uptime (s : State) :
    (noteTick s).clock.uptime = s.clock.uptime := rfl
@[simp] theorem noteTick_clock_timeState (s : State) :
    (noteTick s).clock.timeState = s.clock.timeState := rfl
@[simp] theorem noteTick_clock_driftRun (s : State) :
    (noteTick s).clock.driftRun = s.clock.driftRun := rfl
@[simp] theorem noteTick_clock_trimBudget (s : State) :
    (noteTick s).clock.trimBudget = s.clock.trimBudget := rfl
@[simp] theorem noteTick_clock_trimYear (s : State) :
    (noteTick s).clock.trimYear = s.clock.trimYear := rfl
@[simp] theorem noteTick_clock_floor (s : State) :
    (noteTick s).clock.floor = s.clock.floor := rfl
@[simp] theorem noteTick_clock_ticked (s : State) : (noteTick s).clock.ticked = true := rfl
@[simp] theorem noteTick_deadlines (s : State) : (noteTick s).deadlines = s.deadlines := rfl
@[simp] theorem noteTick_store (s : State) : (noteTick s).store = s.store := rfl
@[simp] theorem noteTick_openQueue (s : State) : (noteTick s).openQueue = s.openQueue := rfl
@[simp] theorem noteTick_arbiter (s : State) : (noteTick s).arbiter = s.arbiter := rfl
@[simp] theorem noteTick_engine (s : State) : (noteTick s).engine = s.engine := rfl
@[simp] theorem noteTick_grants (s : State) : (noteTick s).grants = s.grants := rfl
@[simp] theorem noteTick_attention (s : State) : (noteTick s).attention = s.attention := rfl
@[simp] theorem noteTick_fuses (s : State) : (noteTick s).fuses = s.fuses := rfl
@[simp] theorem noteTick_control (s : State) : (noteTick s).control = s.control := rfl

@[simp] theorem vacateHead_pending (s : State) : (vacateHead s).pending = s.pending := rfl
@[simp] theorem vacateHead_link (s : State) : (vacateHead s).link = s.link := rfl
@[simp] theorem vacateHead_stations (s : State) : (vacateHead s).stations = s.stations := rfl
@[simp] theorem vacateHead_clock (s : State) : (vacateHead s).clock = s.clock := rfl
@[simp] theorem vacateHead_deadlines (s : State) : (vacateHead s).deadlines = s.deadlines := rfl
@[simp] theorem vacateHead_store_table (s : State) :
    (vacateHead s).store.table = s.store.table := rfl
@[simp] theorem vacateHead_store_keys (s : State) :
    (vacateHead s).store.keys = s.store.keys := rfl
@[simp] theorem vacateHead_store_staging (s : State) :
    (vacateHead s).store.staging = s.store.staging.drop 1 := rfl
@[simp] theorem vacateHead_store_ingestSeq (s : State) :
    (vacateHead s).store.ingestSeq = s.store.ingestSeq := rfl
@[simp] theorem vacateHead_openQueue (s : State) : (vacateHead s).openQueue = s.openQueue := rfl
@[simp] theorem vacateHead_arbiter_passOver (s : State) :
    (vacateHead s).arbiter.passOver = 0 := rfl
@[simp] theorem vacateHead_arbiter_testDue (s : State) :
    (vacateHead s).arbiter.testDue = s.arbiter.testDue := rfl
@[simp] theorem vacateHead_arbiter_lastKat (s : State) :
    (vacateHead s).arbiter.lastKat = s.arbiter.lastKat := rfl
@[simp] theorem vacateHead_arbiter_selfTest (s : State) :
    (vacateHead s).arbiter.selfTest = s.arbiter.selfTest := rfl
@[simp] theorem vacateHead_engine (s : State) : (vacateHead s).engine = s.engine := rfl
@[simp] theorem vacateHead_grants (s : State) : (vacateHead s).grants = s.grants := rfl
@[simp] theorem vacateHead_attention (s : State) : (vacateHead s).attention = s.attention := rfl
@[simp] theorem vacateHead_fuses (s : State) : (vacateHead s).fuses = s.fuses := rfl
@[simp] theorem vacateHead_control (s : State) : (vacateHead s).control = s.control := rfl

@[simp] theorem armHold_pending (s : State) : (armHold s).pending = s.pending := rfl
@[simp] theorem armHold_link_up (s : State) :
    (armHold s).link.up = s.link.up := rfl
@[simp] theorem armHold_link_arriving (s : State) :
    (armHold s).link.arriving = s.link.arriving := rfl
@[simp] theorem armHold_link_stored (s : State) :
    (armHold s).link.stored = s.link.stored := rfl
@[simp] theorem armHold_link_hold (s : State) :
    (armHold s).link.hold = s.link.hold := rfl
@[simp] theorem armHold_link_holdTimer (s : State) :
    (armHold s).link.holdTimer = some (repeatTime s.stations.settings.holdTime) := rfl
@[simp] theorem armHold_link_pendingHold (s : State) :
    (armHold s).link.pendingHold = some s.stations.settings.holdTime := rfl
@[simp] theorem armHold_link_answers (s : State) :
    (armHold s).link.answers = s.link.answers := rfl
@[simp] theorem armHold_link_sending (s : State) :
    (armHold s).link.sending = s.link.sending := rfl
@[simp] theorem armHold_link_good (s : State) :
    (armHold s).link.good = s.link.good := rfl
@[simp] theorem armHold_link_stranger (s : State) :
    (armHold s).link.stranger = s.link.stranger := rfl
@[simp] theorem armHold_link_overrun (s : State) :
    (armHold s).link.overrun = s.link.overrun := rfl
@[simp] theorem armHold_link_bad (s : State) :
    (armHold s).link.bad = s.link.bad := rfl
@[simp] theorem armHold_stations (s : State) : (armHold s).stations = s.stations := rfl
@[simp] theorem armHold_clock (s : State) : (armHold s).clock = s.clock := rfl
@[simp] theorem armHold_deadlines (s : State) : (armHold s).deadlines = s.deadlines := rfl
@[simp] theorem armHold_store (s : State) : (armHold s).store = s.store := rfl
@[simp] theorem armHold_openQueue (s : State) : (armHold s).openQueue = s.openQueue := rfl
@[simp] theorem armHold_arbiter (s : State) : (armHold s).arbiter = s.arbiter := rfl
@[simp] theorem armHold_engine (s : State) : (armHold s).engine = s.engine := rfl
@[simp] theorem armHold_grants (s : State) : (armHold s).grants = s.grants := rfl
@[simp] theorem armHold_attention (s : State) : (armHold s).attention = s.attention := rfl
@[simp] theorem armHold_fuses (s : State) : (armHold s).fuses = s.fuses := rfl
@[simp] theorem armHold_control (s : State) : (armHold s).control = s.control := rfl

end Sys2Proof.Machine
end

