-- ==== Sys2Proof/Laws/Tables.lean ====
section
/-! SUPPORT. The fixed tables and the Deadline List: reading, writing, listing, finding a free place, inserting in order. -/

namespace Sys2Proof.Machine

variable {α : Type}

/-! ## Places -/

theorem slotGet_eq_some {t : List (Option α)} {i : Nat} {a : α} : slotGet t i = some a ↔ t[i]? = some (some a) := by
  unfold slotGet; rcases t[i]? with _ | _ | _ <;> simp

theorem slotGet_lt {t : List (Option α)} {i : Nat} {a : α} (h : slotGet t i = some a) : i < t.length :=
  (List.getElem?_eq_some_iff.mp (slotGet_eq_some.mp h)).1

theorem slotGet_eq_none_of_le {t : List (Option α)} {i : Nat} (h : t.length ≤ i) : slotGet t i = none := by
  simp [slotGet, List.getElem?_eq_none h]

@[simp] theorem slotGet_nil (i : Nat) : slotGet ([] : List (Option α)) i = none := rfl

@[simp] theorem slotGet_cons_zero (o : Option α) (t : List (Option α)) : slotGet (o :: t) 0 = o := by simp [slotGet]

@[simp] theorem slotGet_cons_succ (o : Option α) (t : List (Option α)) (i : Nat) :
    slotGet (o :: t) (i + 1) = slotGet t i := by simp [slotGet]

/-- A place that is written reads what was written, every other place as before. -/
theorem slotGet_set (t : List (Option α)) (i j : Nat) (o : Option α) :
    slotGet (t.set i o) j = if i = j ∧ i < t.length then o else slotGet t j := by
  unfold slotGet
  rw [List.getElem?_set]
  by_cases h : i = j
  · subst h
    by_cases hl : i < t.length
    · simp [hl]
    · simp [hl]
  · simp [h]

@[simp] theorem slotGet_set_ne {t : List (Option α)} {i j : Nat} {o : Option α} (h : i ≠ j) :
    slotGet (t.set i o) j = slotGet t j := by simp [slotGet_set, h]

theorem slotGet_set_self {t : List (Option α)} {i : Nat} {o : Option α} (h : i < t.length) :
    slotGet (t.set i o) i = o := by simp [slotGet_set, h]

@[simp] theorem slotGet_set_none_self (t : List (Option α)) (i : Nat) : slotGet (t.set i none) i = none := by
  rw [slotGet_set]; split
  · rfl
  · exact slotGet_eq_none_of_le (by omega)

@[simp] theorem slotGet_map_none {β : Type} (t : List β) (i : Nat) :
    slotGet (t.map fun _ => (none : Option α)) i = none := by
  unfold slotGet; rw [List.getElem?_map]; cases t[i]? <;> rfl

@[simp] theorem slotGet_replicate_none (n i : Nat) : slotGet (List.replicate n (none : Option α)) i = none := by
  unfold slotGet; rw [List.getElem?_replicate]; split <;> rfl

@[simp] theorem slotGet_map {β : Type} (f : α → β) (t : List (Option α)) (i : Nat) :
    slotGet (t.map fun o => o.map f) i = (slotGet t i).map f := by
  unfold slotGet; simp; rcases t[i]? with _ | _ | _ <;> rfl

/-! ## Listing the places in use -/

theorem listUsed_from (t : List (Option α)) (n : Nat) (p : Nat × α) :
    p ∈ (t.zipIdx n).filterMap (fun q => q.1.map fun a => (q.2, a)) ↔ n ≤ p.1 ∧ slotGet t (p.1 - n) = some p.2 := by
  simp only [List.mem_filterMap, Prod.exists, slotGet_eq_some]
  constructor
  · rintro ⟨o, i, hm, ho⟩
    cases o with
    | none => simp at ho
    | some a =>
      simp only [Option.map_some, Option.some.injEq] at ho
      subst ho
      rw [List.mk_mem_zipIdx_iff_le_and_getElem?_sub] at hm
      exact hm
  · rintro ⟨hn, hp⟩
    exact ⟨some p.2, p.1, by rw [List.mk_mem_zipIdx_iff_le_and_getElem?_sub]; exact ⟨hn, hp⟩, rfl⟩

/-- The list of places in use holds exactly the places in use. -/
theorem mem_listUsed {t : List (Option α)} {p : Nat × α} : p ∈ listUsed t ↔ slotGet t p.1 = some p.2 := by
  have := listUsed_from t 0 p
  simpa [listUsed] using this

theorem listUsed_from_ascending (t : List (Option α)) (n : Nat) :
    ((t.zipIdx n).filterMap (fun q => q.1.map fun a => (q.2, a))).Pairwise fun p q => p.1 < q.1 := by
  induction t generalizing n with
  | nil => simp
  | cons o t ih =>
    have ht := ih (n + 1)
    cases o with
    | none => simpa [List.zipIdx_cons, List.filterMap_cons] using ht
    | some a =>
      simp only [List.zipIdx_cons, List.filterMap_cons, Option.map_some]
      refine List.Pairwise.cons (fun q hq => ?_) ht
      have := ((listUsed_from t (n + 1) q).mp hq).1
      show n < q.1; omega

/-- The list of places in use is in ascending order of place. -/
theorem listUsed_ascending (t : List (Option α)) : (listUsed t).Pairwise fun p q => p.1 < q.1 :=
  listUsed_from_ascending t 0

theorem listUsed_from_length (t : List (Option α)) (n : Nat) :
    ((t.zipIdx n).filterMap (fun q => q.1.map fun a => (q.2, a))).length = countUsed t := by
  induction t generalizing n with
  | nil => rfl
  | cons o t ih =>
    cases o with
    | none => simpa [List.zipIdx_cons, List.filterMap_cons, countUsed] using ih (n + 1)
    | some a => simpa [List.zipIdx_cons, List.filterMap_cons, countUsed] using ih (n + 1)

theorem listUsed_length (t : List (Option α)) : (listUsed t).length = countUsed t := listUsed_from_length t 0

/-! ## Free places -/

theorem lowestFree_eq_some {t : List (Option α)} {i : Nat} :
    lowestFree t = some i ↔ i < t.length ∧ slotGet t i = none ∧ ∀ j, j < i → (slotGet t j).isSome = true := by
  unfold lowestFree
  rw [List.findIdx?_eq_some_iff_getElem]
  constructor
  · rintro ⟨h, hp, hn⟩
    refine ⟨h, ?_, fun j hj => ?_⟩
    · unfold slotGet; rw [List.getElem?_eq_getElem h]
      cases ht : t[i] with
      | none => rfl
      | some a => simp [ht] at hp
    · have hjl : j < t.length := by omega
      have := hn j hj
      unfold slotGet; rw [List.getElem?_eq_getElem hjl]
      cases ht : t[j] with
      | none => simp [ht] at this
      | some a => rfl
  · rintro ⟨h, hp, hn⟩
    refine ⟨h, ?_, fun j hj => ?_⟩
    · unfold slotGet at hp; rw [List.getElem?_eq_getElem h] at hp
      cases ht : t[i] with
      | none => rfl
      | some a => simp [ht] at hp
    · have hjl : j < t.length := by omega
      have := hn j hj
      unfold slotGet at this; rw [List.getElem?_eq_getElem hjl] at this
      cases ht : t[j] with
      | none => simp [ht] at this
      | some a => simp

theorem lowestFree_eq_none {t : List (Option α)} :
    lowestFree t = none ↔ ∀ i, i < t.length → (slotGet t i).isSome = true := by
  unfold lowestFree
  rw [List.findIdx?_eq_none_iff]
  constructor
  · intro h i hi
    have := h t[i] (List.getElem_mem hi)
    unfold slotGet; rw [List.getElem?_eq_getElem hi]
    cases ht : t[i] with
    | none => simp [ht] at this
    | some a => rfl
  · intro h o ho
    obtain ⟨i, hi, rfl⟩ := List.mem_iff_getElem.mp ho
    have := h i hi
    unfold slotGet at this; rw [List.getElem?_eq_getElem hi] at this
    cases ht : t[i] with
    | none => simp [ht] at this
    | some a => rfl

theorem mem_freePlaces {t : List (Option α)} {k : Nat} : k ∈ freePlaces t ↔ k < t.length ∧ slotGet t k = none := by
  unfold freePlaces
  simp only [List.mem_filterMap, Prod.exists, List.mk_mem_zipIdx_iff_getElem?]
  constructor
  · rintro ⟨o, i, h, hi⟩
    cases o with
    | some a => simp at hi
    | none =>
      simp only [Option.isNone_none, if_true, Option.some.injEq] at hi
      subst hi
      exact ⟨(List.getElem?_eq_some_iff.mp h).1, by simp [slotGet, h]⟩
  · rintro ⟨hl, hn⟩
    refine ⟨none, k, ?_, by simp⟩
    unfold slotGet at hn
    rw [List.getElem?_eq_getElem hl] at hn ⊢
    cases ht : t[k] with
    | none => rfl
    | some a => simp [ht] at hn

theorem freePlaces_from_ascending (t : List (Option α)) (n : Nat) :
    ((t.zipIdx n).filterMap fun p => if p.1.isNone then some p.2 else none).Pairwise (· < ·) ∧
    ∀ k ∈ (t.zipIdx n).filterMap (fun p => if p.1.isNone then some p.2 else none), n ≤ k := by
  induction t generalizing n with
  | nil => simp
  | cons o t ih =>
    obtain ⟨h1, h2⟩ := ih (n + 1)
    cases o with
    | some a =>
      simp only [List.zipIdx_cons, List.filterMap_cons, Option.isNone_some]
      exact ⟨h1, fun k hk => by have := h2 k hk; omega⟩
    | none =>
      simp only [List.zipIdx_cons, List.filterMap_cons, Option.isNone_none, if_true]
      refine ⟨List.Pairwise.cons (fun q hq => by have := h2 q hq; omega) h1, fun k hk => ?_⟩
      rcases List.mem_cons.mp hk with rfl | hk
      · exact le_refl _
      · have := h2 k hk; omega

/-- The free places are in ascending order, each once. -/
theorem freePlaces_ascending (t : List (Option α)) : (freePlaces t).Pairwise (· < ·) :=
  (freePlaces_from_ascending t 0).1

/-! ## The Deadline List -/

/-- An insertion adds one deadline and takes none away. -/
theorem mem_insertDeadline {d x : Deadline} {l : List Deadline} : x ∈ insertDeadline d l ↔ x = d ∨ x ∈ l := by
  induction l with
  | nil => simp [insertDeadline]
  | cons h t ih =>
    unfold insertDeadline
    split
    · simp
    · simp only [List.mem_cons, ih]; tauto

/-- An insertion keeps the order (07 R111, R113). -/
theorem insertDeadline_inOrder {d : Deadline} {l : List Deadline}
    (hl : l.Pairwise fun a b => a.due ≤ b.due) : (insertDeadline d l).Pairwise fun a b => a.due ≤ b.due := by
  induction l with
  | nil => simp [insertDeadline]
  | cons h t ih =>
    obtain ⟨hh, ht⟩ := List.pairwise_cons.mp hl
    unfold insertDeadline
    split
    · rename_i hd
      refine List.Pairwise.cons (fun x hx => ?_) hl
      rcases List.mem_cons.mp hx with rfl | hx
      · omega
      · have := hh x hx; omega
    · rename_i hd
      refine List.Pairwise.cons (fun x hx => ?_) (ih ht)
      rcases mem_insertDeadline.mp hx with rfl | hx
      · omega
      · exact hh x hx

theorem insertDeadline_length (d : Deadline) (l : List Deadline) : (insertDeadline d l).length = l.length + 1 := by
  induction l with
  | nil => rfl
  | cons h t ih => unfold insertDeadline; split <;> simp [ih]

end Sys2Proof.Machine
end

