-- ==== Sys2Proof/Laws/Ops.lean ====
section
/-! SUPPORT. What each shared operation can do, once: requests and answers, notice sources, the hold state, parcel entries,
grants, deadlines, the oscillator monitor. -/

namespace Sys2Proof.Machine

/-! ## Requests and answers -/

/-- An answer at the take is an answer placed. -/
theorem reply_eq_answered (k : Kind) (src : Addr) (tag : Byte) (body : List Byte) (r : Reply) (s : State) :
    reply { src := src, kind := k.value, tag := tag, body := body } r s = answered s src tag k r.code r.detail := rfl

/-- A deferred answer is an answer placed. -/
theorem replyLater_eq_answered (who : Requester) (k : Kind) (r : Reply) (s : State) :
    replyLater who k r s = answered s who.addr who.tag k r.code r.detail := rfl

theorem canTake_of_mayPost {s : State} (h : MayPost s) : canTake s = true := by
  obtain ⟨⟨hp, hs⟩, hr⟩ := h
  simp [canTake, State.awake, State.hasRoom, hp, hs, hr]

theorem canTake_eq_true {s : State} : canTake s = true ↔ MayPost s := by
  constructor
  · intro h; simp [canTake, State.awake, State.hasRoom] at h; exact ⟨⟨h.1.1, by simpa using h.1.2⟩, h.2⟩
  · exact canTake_of_mayPost

theorem Served.mayPost {s : State} {src : Addr} {who : Sender} (h : Served s src who) : MayPost s :=
  ⟨⟨h.power, by rw [h.service]; decide⟩, h.room⟩

/-- A matched request runs its owner. -/
theorem takeRequest_matched {k : Kind} {src : Addr} {tag : Byte} {body : List Byte} {owner : Owner} {s : State}
    {who : Sender} (h : MayPost s) (hm : matchSource s src = some who) :
    takeRequest k src tag body owner s =
      owner who { src := src, kind := k.value, tag := tag, body := body } s := by
  simp [takeRequest, canTake_of_mayPost h, settle, hm]

/-- A request whose source matches nothing is discarded. -/
theorem takeRequest_stranger {k : Kind} {src : Addr} {tag : Byte} {body : List Byte} {owner : Owner} {s : State}
    (h : MayPost s) (hm : matchSource s src = none) :
    takeRequest k src tag body owner s = discardStranger s := by
  simp [takeRequest, canTake_of_mayPost h, settle, hm]

/-- Nothing is taken while the decoder cannot take a frame. -/
theorem takeRequest_blocked {k : Kind} {src : Addr} {tag : Byte} {body : List Byte} {owner : Owner} {s : State}
    (h : ¬MayPost s) : takeRequest k src tag body owner s = s := by
  simp [takeRequest, mt canTake_eq_true.mp h]

/-- All a request row can do: nothing, discard a stranger, or run its owner. -/
theorem takeRequest_cases (k : Kind) (src : Addr) (tag : Byte) (body : List Byte) (owner : Owner) (s : State) :
    takeRequest k src tag body owner s = s ∨ takeRequest k src tag body owner s = discardStranger s ∨
    ∃ who, MayPost s ∧ matchSource s src = some who ∧
      takeRequest k src tag body owner s =
        owner who { src := src, kind := k.value, tag := tag, body := body } s := by
  by_cases h : MayPost s
  · cases hm : matchSource s src with
    | none => exact .inr (.inl (takeRequest_stranger h hm))
    | some who => exact .inr (.inr ⟨who, h, rfl, takeRequest_matched h hm⟩)
  · exact .inl (takeRequest_blocked h)

@[simp] theorem checked_nil (f : Frame) (act : State → State) (s : State) : checked f [] act s = act s := rfl

/-- The checks run in their order: the first that fails answers. -/
@[simp] theorem checked_cons (f : Frame) (b : Bool) (r : Reply) (cs : List (Bool × Reply)) (act : State → State)
    (s : State) : checked f ((b, r) :: cs) act s = if b = true then reply f r s else checked f cs act s := by
  cases b <;> rfl

/-- All a checked request can do: answer one refusal, or act. -/
theorem checked_cases (f : Frame) (cs : List (Bool × Reply)) (act : State → State) (s : State) :
    (∃ r, (true, r) ∈ cs ∧ checked f cs act s = reply f r s) ∨ checked f cs act s = act s := by
  induction cs with
  | nil => exact .inr rfl
  | cons c cs ih =>
    obtain ⟨b, r⟩ := c
    cases b
    · rcases ih with ⟨r', hm, he⟩ | he
      · exact .inl ⟨r', List.mem_cons_of_mem _ hm, by simpa using he⟩
      · exact .inr (by simpa using he)
    · exact .inl ⟨r, by simp, by simp⟩

@[simp] theorem formCheck_none : formCheck none = (false, malformed .badValue) := rfl
@[simp] theorem formCheck_some (b : BadForm) : formCheck (some b) = (true, malformed b) := rfl

/-! ## Notice sources -/

/-- A raise touches the notice sources alone. -/
theorem raiseLevel_frame (n : Nat) (s : State) :
    raiseLevel n s = { s with attention := (raiseLevel n s).attention } := by
  unfold raiseLevel; split <;> [skip; split] <;> rfl

theorem followLevel_frame (n : Nat) (c : Bool) (s : State) :
    followLevel n c s = { s with attention := (followLevel n c s).attention } := by
  cases c
  · rfl
  · exact raiseLevel_frame n s

@[simp] theorem raiseLevel_pending (n : Nat) (s : State) : (raiseLevel n s).pending = s.pending := by rw [raiseLevel_frame]
@[simp] theorem raiseLevel_link (n : Nat) (s : State) : (raiseLevel n s).link = s.link := by rw [raiseLevel_frame]
@[simp] theorem raiseLevel_stations (n : Nat) (s : State) : (raiseLevel n s).stations = s.stations := by rw [raiseLevel_frame]
@[simp] theorem raiseLevel_clock (n : Nat) (s : State) : (raiseLevel n s).clock = s.clock := by rw [raiseLevel_frame]
@[simp] theorem raiseLevel_deadlines (n : Nat) (s : State) : (raiseLevel n s).deadlines = s.deadlines := by rw [raiseLevel_frame]
@[simp] theorem raiseLevel_store (n : Nat) (s : State) : (raiseLevel n s).store = s.store := by rw [raiseLevel_frame]
@[simp] theorem raiseLevel_openQueue (n : Nat) (s : State) : (raiseLevel n s).openQueue = s.openQueue := by rw [raiseLevel_frame]
@[simp] theorem raiseLevel_arbiter (n : Nat) (s : State) : (raiseLevel n s).arbiter = s.arbiter := by rw [raiseLevel_frame]
@[simp] theorem raiseLevel_engine (n : Nat) (s : State) : (raiseLevel n s).engine = s.engine := by rw [raiseLevel_frame]
@[simp] theorem raiseLevel_grants (n : Nat) (s : State) : (raiseLevel n s).grants = s.grants := by rw [raiseLevel_frame]
@[simp] theorem raiseLevel_fuses (n : Nat) (s : State) : (raiseLevel n s).fuses = s.fuses := by rw [raiseLevel_frame]
@[simp] theorem raiseLevel_control (n : Nat) (s : State) : (raiseLevel n s).control = s.control := by rw [raiseLevel_frame]

theorem State.source_modSource (s : State) (n m : Nat) (f : Source → Source) :
    (s.modSource n f).source m =
      if n = m ∧ n < s.attention.sources.length then f (s.source m) else s.source m := by
  unfold State.source State.modSource
  simp only [List.getD_eq_getElem?_getD, List.getElem?_modify]
  by_cases h : n = m
  · subst h
    by_cases hl : n < s.attention.sources.length
    · simp [hl]
    · simp [hl]
  · simp [h]

@[simp] theorem State.modSource_sources_length (s : State) (n : Nat) (f : Source → Source) :
    (s.modSource n f).attention.sources.length = s.attention.sources.length := by
  simp [State.modSource]

@[simp] theorem raiseOne_sources_length (n : Nat) (s : State) :
    (raiseOne n s).attention.sources.length = s.attention.sources.length := State.modSource_sources_length _ _ _

@[simp] theorem raisePulse_sources_length (n : Nat) (s : State) :
    (raisePulse n s).attention.sources.length = s.attention.sources.length := State.modSource_sources_length _ _ _

@[simp] theorem clearLevel_sources_length (n : Nat) (s : State) :
    (clearLevel n s).attention.sources.length = s.attention.sources.length := State.modSource_sources_length _ _ _

@[simp] theorem raiseLevel_sources_length (n : Nat) (s : State) :
    (raiseLevel n s).attention.sources.length = s.attention.sources.length := by
  unfold raiseLevel; split <;> [skip; split] <;> simp

/-- A raised source's status is set. -/
theorem raiseOne_source_self {n : Nat} {s : State} (h : n < s.attention.sources.length) :
    ((raiseOne n s).source n).status = true := by
  unfold raiseOne; rw [State.source_modSource]; simp [h]

/-- A raise leaves every other source. -/
theorem raiseOne_source_ne {n m : Nat} {s : State} (h : n ≠ m) : (raiseOne n s).source m = s.source m := by
  unfold raiseOne; rw [State.source_modSource]; simp [h]

/-- A raise sets a status and clears none. -/
theorem raiseOne_source_status {n m : Nat} {s : State} (h : (s.source m).status = true) :
    ((raiseOne n s).source m).status = true := by
  unfold raiseOne; rw [State.source_modSource]; split <;> simp [h]

theorem raisePulse_source_self {n : Nat} {s : State} (h : n < s.attention.sources.length) :
    ((raisePulse n s).source n).status = true := raiseOne_source_self h

theorem raisePulse_source_ne {n m : Nat} {s : State} (h : n ≠ m) : (raisePulse n s).source m = s.source m :=
  raiseOne_source_ne h

/-- A level source whose condition begins is raised. -/
theorem raiseLevel_source_self {n : Nat} {s : State} (h : n < s.attention.sources.length) :
    ((raiseLevel n s).source n).status = true := by
  unfold raiseLevel
  split
  · assumption
  · split
    · exact raiseOne_source_status (raiseOne_source_self h)
    · exact raiseOne_source_self h

/-- A level source's raise changes itself, and FAULT when it is critical. -/
theorem raiseLevel_source_ne {n m : Nat} {s : State} (h : n ≠ m) (h0 : m ≠ Src.fault) :
    (raiseLevel n s).source m = s.source m := by
  unfold raiseLevel
  split
  · rfl
  · split
    · rw [raiseOne_source_ne (Ne.symm h0), raiseOne_source_ne h]
    · exact raiseOne_source_ne h

/-- A source whose condition ends is clear, whatever the table's length. -/
theorem clearLevel_source_self (n : Nat) (s : State) : ((clearLevel n s).source n).status = false := by
  unfold clearLevel; rw [State.source_modSource]
  by_cases h : n < s.attention.sources.length
  · simp [h]
  · simp [h, State.source, noSource, List.getD_eq_getElem?_getD]

theorem clearLevel_source_ne {n m : Nat} {s : State} (h : n ≠ m) : (clearLevel n s).source m = s.source m := by
  unfold clearLevel; rw [State.source_modSource]; simp [h]

/-! ## The hold state -/

/-- A fall of occupancy releases the hold below HOLD_LOW, and else does nothing. -/
theorem occupancyFell_eq (s : State) : occupancyFell s =
    if s.link.hold = .holding ∧ occupancy s < s.stations.settings.holdLow then releaseHold s else s := by
  simp [occupancyFell]

/-- A rise of occupancy enters HOLDING at HOLD_HIGH, and else does nothing. -/
theorem occupancyRose_eq (s : State) : occupancyRose s =
    if s.link.hold = .idle ∧ s.stations.settings.holdHigh ≤ occupancy s then enterHold s else s := by
  simp [occupancyRose]

theorem occupancyFell_frame (s : State) :
    occupancyFell s = { s with link := (occupancyFell s).link, attention := (occupancyFell s).attention } := by
  rw [occupancyFell_eq]; split <;> rfl

theorem occupancyRose_frame (s : State) :
    occupancyRose s = { s with link := (occupancyRose s).link, attention := (occupancyRose s).attention } := by
  rw [occupancyRose_eq]; split
  · unfold enterHold; rw [raiseLevel_frame]; rfl
  · rfl

/-! ## Reading tables through State -/

theorem State.entry_setEntry (s : State) (i j : Nat) (o : Option ParcelEntry) :
    (s.setEntry i o).entry j = if i = j ∧ i < s.store.table.length then o else s.entry j := slotGet_set ..

theorem State.grant_setGrant (s : State) (i j : Nat) (o : Option Grant) :
    (s.setGrant i o).grant j = if i = j ∧ i < s.grants.slots.length then o else s.grant j := slotGet_set ..

theorem State.station_setStation (s : State) (i j : Nat) (o : Option Station) :
    (s.setStation i o).station j = if i = j ∧ i < s.stations.entries.length then o else s.station j := slotGet_set ..

theorem State.entry_lt {s : State} {i : Nat} {e : ParcelEntry} (h : s.entry i = some e) : i < s.store.table.length :=
  slotGet_lt h

theorem State.grant_lt {s : State} {g : Nat} {r : Grant} (h : s.grant g = some r) : g < s.grants.slots.length :=
  slotGet_lt h

/-! ## Parcel entries -/

/-- The update of the parcel table and the key store that erasure, lapse, freeing and counting make, with the removal of
deadlines and the raise of PARCEL_LAPSED: nothing else of the part changes. -/
def OnlyParcels (s t : State) : Prop :=
  t = { s with
    store := { s.store with table := t.store.table, keys := t.store.keys }
    deadlines := t.deadlines
    attention := t.attention }

theorem OnlyParcels.refl (s : State) : OnlyParcels s s := rfl

theorem OnlyParcels.trans {s t u : State} (h1 : OnlyParcels s t) (h2 : OnlyParcels t u) : OnlyParcels s u := by
  unfold OnlyParcels at *; rw [h2, h1]

theorem setEntry_only (i : Nat) (o : Option ParcelEntry) (s : State) : OnlyParcels s (s.setEntry i o) := rfl

theorem dropParcelDeadlines_only (i : Nat) (s : State) : OnlyParcels s (dropParcelDeadlines i s) := rfl

theorem eraseEntry_only (i : Nat) (s : State) : OnlyParcels s (eraseEntry i s) := by
  unfold eraseEntry; split <;> rfl

theorem freeEntry_only (i : Nat) (s : State) : OnlyParcels s (freeEntry i s) :=
  ((eraseEntry_only i s).trans (setEntry_only ..)).trans (dropParcelDeadlines_only ..)

theorem freeAtZero_only (i : Nat) (s : State) : OnlyParcels s (freeAtZero i s) := by
  unfold freeAtZero; split
  · rfl
  · split
    · exact freeEntry_only i s
    · rfl

theorem countDown_only (i : Nat) (s : State) : OnlyParcels s (countDown i s) := by
  unfold countDown; split
  · rfl
  · exact (setEntry_only ..).trans (freeAtZero_only ..)

theorem countUp_only (i : Nat) (s : State) : OnlyParcels s (countUp i s) := by
  unfold countUp; split <;> rfl

theorem setEntryState_only (i : Nat) (st : ParcelState) (s : State) : OnlyParcels s (setEntryState i st s) := by
  unfold setEntryState; split <;> rfl

theorem lapseEntry_only (i : Nat) (s : State) : OnlyParcels s (lapseEntry i s) :=
  ((setEntryState_only ..).trans (eraseEntry_only ..)).trans (by rfl)

/-- Erased slots are free, every other key slot is as it was. -/
theorem slotGet_eraseKeys (refs : List KeyRef) (keys : List (Option Key)) (k : Nat) :
    slotGet (eraseKeys refs keys) k = if k ∈ refs.map (fun r => r.slot) then none else slotGet keys k := by
  induction refs generalizing keys with
  | nil => rfl
  | cons r refs ih =>
    show slotGet (eraseKeys refs (keys.set r.slot none)) k = _
    rw [ih]
    by_cases hk : k ∈ refs.map (fun r => r.slot)
    · simp [hk]
    · by_cases hr : r.slot = k
      · subst hr; simp
      · simp [hk, hr, Ne.symm hr]

@[simp] theorem eraseKeys_length (refs : List KeyRef) (keys : List (Option Key)) :
    (eraseKeys refs keys).length = keys.length := by
  induction refs generalizing keys with
  | nil => rfl
  | cons r refs ih => show (eraseKeys refs (keys.set r.slot none)).length = _; rw [ih]; simp

/-- Erasure empties the references of its entry and leaves the others (02 R22). -/
theorem eraseEntry_entry (i j : Nat) (s : State) : (eraseEntry i s).entry j =
    if i = j then (s.entry j).map (fun e => { e with refs := [] }) else s.entry j := by
  unfold eraseEntry
  cases h : s.entry i with
  | none => by_cases hj : i = j
            · subst hj; simp [h]
            · simp [hj]
  | some e =>
    show slotGet (s.store.table.set i _) j = _
    rw [slotGet_set]
    by_cases hj : i = j
    · subst hj; simp [State.entry_lt h, h]
    · simp [hj, State.entry]

/-- The key store after an erasure (02 R22). -/
theorem eraseEntry_key (i k : Nat) (s : State) : slotGet (eraseEntry i s).store.keys k =
    if k ∈ (((s.entry i).map fun e => e.refs).getD []).map (fun r => r.slot) then none
    else slotGet s.store.keys k := by
  unfold eraseEntry
  cases h : s.entry i with
  | none => simp
  | some e => simpa using slotGet_eraseKeys e.refs s.store.keys k

@[simp] theorem eraseEntry_deadlines (i : Nat) (s : State) : (eraseEntry i s).deadlines = s.deadlines := by
  unfold eraseEntry; split <;> rfl

@[simp] theorem eraseEntry_attention (i : Nat) (s : State) : (eraseEntry i s).attention = s.attention := by
  unfold eraseEntry; split <;> rfl

/-- Freeing leaves every other entry and frees its own (02 R26). -/
theorem freeEntry_entry (i j : Nat) (s : State) :
    (freeEntry i s).entry j = if i = j then none else s.entry j := by
  show ((eraseEntry i s).setEntry i none).entry j = _
  by_cases hj : i = j
  · subst hj; simp [State.setEntry, State.entry]
  · rw [State.entry_setEntry]; simp [hj, eraseEntry_entry]

theorem freeEntry_key (i k : Nat) (s : State) : slotGet (freeEntry i s).store.keys k =
    if k ∈ (((s.entry i).map fun e => e.refs).getD []).map (fun r => r.slot) then none
    else slotGet s.store.keys k := eraseEntry_key i k s

theorem freeEntry_deadlines (i : Nat) (s : State) : (freeEntry i s).deadlines =
    s.deadlines.filter fun d => !(d.kind != .spanEnd && d.ref == i) := by
  simp [freeEntry, dropParcelDeadlines]

@[simp] theorem freeEntry_attention (i : Nat) (s : State) : (freeEntry i s).attention = s.attention := by
  simp [freeEntry]

/-- A count that falls, and the entry freed at 0 (02 R24, R26). -/
theorem countDown_entry (i j : Nat) (s : State) : (countDown i s).entry j =
    if i = j then (s.entry j).bind (fun e =>
      if e.grantCount ≤ 1 ∧ (e.state = .withdrawn ∨ (e.state = .lapsed ∧ e.purgeDue = true)) then none
      else some { e with grantCount := e.grantCount - 1 })
    else s.entry j := by
  unfold countDown
  cases h : s.entry i with
  | none => by_cases hj : i = j
            · subst hj; simp [h]
            · simp [hj]
  | some e =>
    have hself : (s.setEntry i (some { e with grantCount := e.grantCount - 1 })).entry i =
        some { e with grantCount := e.grantCount - 1 } := by rw [State.entry_setEntry]; simp [State.entry_lt h]
    simp only [freeAtZero, hself]
    by_cases hj : i = j
    · subst hj
      by_cases hc : e.grantCount ≤ 1 ∧ (e.state = .withdrawn ∨ (e.state = .lapsed ∧ e.purgeDue = true))
      · have hc' : e.grantCount - 1 = 0 ∧ (e.state = .withdrawn ∨ (e.state = .lapsed ∧ e.purgeDue = true)) :=
          ⟨by omega, hc.2⟩
        simp only [hc', and_self, if_true, freeEntry_entry, h, Option.bind_some, hc]
      · have hc' : ¬(e.grantCount - 1 = 0 ∧ (e.state = .withdrawn ∨ (e.state = .lapsed ∧ e.purgeDue = true))) :=
          fun x => hc ⟨by omega, x.2⟩
        simp only [hc', if_false, if_true, h, Option.bind_some, hc, hself]
    · split
      · simp [freeEntry_entry, hj, State.entry_setEntry]
      · simp [hj, State.entry_setEntry]

/-! ## Grants -/

/-- The state in which a freed record has left the grant table and the Deadline List, its parcel not yet counted down. -/
def withoutGrant (g : Nat) (s : State) : State :=
  dropSpanEnd g { s with grants :=
    { slots := s.grants.slots.set g none, gens := s.grants.gens.modify g nextGen,
      expireList := s.grants.expireList.filter fun h => h != g } }

theorem freeGrant_eq {g : Nat} {r : Grant} {s : State} (h : s.grant g = some r) :
    freeGrant g s = countDown r.parcel (withoutGrant g s) := by simp [freeGrant, h, withoutGrant]

theorem countDown_attention (i : Nat) (s : State) : (countDown i s).attention = s.attention := by
  unfold countDown freeAtZero
  split
  · rfl
  · split
    · rfl
    · split
      · simp
      · rfl

/-- The two things a count that falls can do: the entry stays with its new count, or it is freed (02 R24, R26). -/
theorem countDown_eq {i : Nat} {e : ParcelEntry} {s : State} (h : s.entry i = some e) : countDown i s =
    if e.grantCount ≤ 1 ∧ (e.state = .withdrawn ∨ (e.state = .lapsed ∧ e.purgeDue = true))
    then freeEntry i (s.setEntry i (some { e with grantCount := e.grantCount - 1 }))
    else s.setEntry i (some { e with grantCount := e.grantCount - 1 }) := by
  have hself : (s.setEntry i (some { e with grantCount := e.grantCount - 1 })).entry i =
      some { e with grantCount := e.grantCount - 1 } := by rw [State.entry_setEntry]; simp [State.entry_lt h]
  simp only [countDown, h, freeAtZero, hself, Nat.sub_eq_zero_iff_le]

/-- The keys of an entry that is freed (02 R22). -/
theorem freeEntry_keys {i : Nat} {e : ParcelEntry} {s : State} (h : s.entry i = some e) :
    (freeEntry i s).store.keys = eraseKeys e.refs s.store.keys := by
  simp [freeEntry, eraseEntry, h, dropParcelDeadlines, State.setEntry]

theorem mem_countDown_deadlines {i : Nat} {s : State} {d : Deadline} (h : d ∈ (countDown i s).deadlines) :
    d ∈ s.deadlines := by
  revert h
  unfold countDown freeAtZero
  split
  · exact id
  · split
    · exact id
    · split
      · rw [freeEntry_deadlines]; exact fun x => (List.mem_filter.mp x).1
      · exact id

theorem leavesWith_some {r : Grant} {e : ParcelEntry} {s : State} (h : s.entry r.parcel = some e) : leavesWith s r =
    decide (e.grantCount ≤ 1 ∧ (e.state = .withdrawn ∨ (e.state = .lapsed ∧ e.purgeDue = true))) := by
  simp only [leavesWith, h]

theorem leavesWith_none {r : Grant} {s : State} (h : s.entry r.parcel = none) : leavesWith s r = false := by
  simp only [leavesWith, h]

/-- All that freeing a record can do (06 R93): the record, its generation, its expiry, its SPAN_END, its parcel. -/
theorem freeGrant_recordFreed {g : Nat} {r : Grant} {s : State} (h : s.grant g = some r) :
    RecordFreed s (freeGrant g s) g r := by
  rw [freeGrant_eq h]
  have hg : (countDown r.parcel (withoutGrant g s)).grants =
      { slots := s.grants.slots.set g none, gens := s.grants.gens.modify g nextGen,
        expireList := (s.grants.expireList.filter fun h => h != g) } := by
    rw [countDown_only r.parcel (withoutGrant g s)]; rfl
  refine ⟨?_, ?_, ?_, ?_, ?_, ?_, ?_, ?_, ?_, ?_⟩
  · simp [State.grant, hg]
  · intro x hx; simp [State.grant, hg, Ne.symm hx]
  · rw [hg]
  · rw [hg]
  · intro d hd
    have := mem_countDown_deadlines hd
    simp only [withoutGrant, dropSpanEnd, List.mem_filter] at this
    rintro ⟨h1, h2⟩
    simp [h1, h2] at this
  · intro e hent
    rw [countDown_entry]
    have : (withoutGrant g s).entry r.parcel = some e := hent
    simp [this]
  · intro i hi
    rw [countDown_entry]
    simp only [Ne.symm hi, if_false]
    rfl
  · have hd : (withoutGrant g s).deadlines = s.deadlines.filter fun d => !(d.kind == .spanEnd && d.ref == g) := rfl
    cases hent : s.entry r.parcel with
    | none =>
      have hw : (withoutGrant g s).entry r.parcel = none := hent
      simp only [leavesWith_none hent, countDown, hw, hd, Bool.false_and, Bool.not_false, Bool.and_true]
    | some e =>
      rw [countDown_eq (s := withoutGrant g s) hent, leavesWith_some hent]
      split <;> rename_i hc
      · rw [freeEntry_deadlines]
        show ((withoutGrant g s).deadlines.filter _) = _
        rw [hd, List.filter_filter, decide_eq_true hc]
        simp only [Bool.true_and, Bool.and_comm]
      · show (withoutGrant g s).deadlines = _
        rw [hd, decide_eq_false hc]
        simp only [Bool.false_and, Bool.not_false, Bool.and_true]
  · intro hl
    cases hent : s.entry r.parcel with
    | none =>
      have hw : (withoutGrant g s).entry r.parcel = none := hent
      simp only [countDown, hw]; rfl
    | some e =>
      rw [leavesWith_some hent] at hl
      rw [countDown_eq (s := withoutGrant g s) hent, if_neg (of_decide_eq_false hl)]; rfl
  · intro hl e hent
    rw [leavesWith_some hent] at hl
    have hlt : r.parcel < (withoutGrant g s).store.table.length := State.entry_lt (s := withoutGrant g s) hent
    rw [countDown_eq (s := withoutGrant g s) hent, if_pos (of_decide_eq_true hl),
      freeEntry_keys (e := { e with grantCount := e.grantCount - 1 }) (by rw [State.entry_setEntry, if_pos ⟨rfl, hlt⟩])]
    rfl

/-- Freeing a record touches grants, parcels and deadlines alone. -/
theorem freeGrant_only (g : Nat) (s : State) : OnlyGrantsAndParcels s (freeGrant g s) := by
  cases h : s.grant g with
  | none => simp [OnlyGrantsAndParcels, freeGrant, h]
  | some r =>
    have ho := countDown_only r.parcel (withoutGrant g s)
    unfold OnlyParcels at ho
    rw [countDown_attention] at ho
    rw [freeGrant_eq h]
    generalize countDown r.parcel (withoutGrant g s) = t at ho ⊢
    rw [OnlyGrantsAndParcels]
    obtain ⟨⟩ := t
    simp only [State.mk.injEq] at ho ⊢
    simp only [withoutGrant, dropSpanEnd_pending, dropSpanEnd_link, dropSpanEnd_stations, dropSpanEnd_clock,
      dropSpanEnd_store, dropSpanEnd_openQueue, dropSpanEnd_arbiter, dropSpanEnd_engine, dropSpanEnd_attention,
      dropSpanEnd_fuses, dropSpanEnd_control, true_and] at ho ⊢
    tauto

/-- An expiry touches the grant table and the Deadline List alone. -/
theorem expireGrant_frame (g : Nat) (why : Reason) (s : State) :
    expireGrant g why s = { s with
      grants := (expireGrant g why s).grants
      deadlines := (expireGrant g why s).deadlines } := by
  unfold expireGrant; split <;> rfl

/-- An expiry makes its record EXPIRING and leaves the others. -/
theorem expireGrant_grant (g h : Nat) (why : Reason) (s : State) : (expireGrant g why s).grant h =
    if g = h then (s.grant h).map (fun r => { r with state := .expiring why }) else s.grant h := by
  unfold expireGrant
  cases hg : s.grant g with
  | none => by_cases hj : g = h
            · subst hj; simp [hg]
            · simp [hj]
  | some r =>
    show slotGet (s.grants.slots.set g _) h = _
    rw [slotGet_set]
    by_cases hj : g = h
    · subst hj; simp [State.grant_lt hg, hg]
    · simp [hj, State.grant]

theorem expireGrant_expireList {g : Nat} {r : Grant} {s : State} (why : Reason) (h : s.grant g = some r) :
    (expireGrant g why s).grants.expireList = s.grants.expireList ++ [g] := by
  simp [expireGrant, h]

@[simp] theorem expireGrant_gens (g : Nat) (why : Reason) (s : State) :
    (expireGrant g why s).grants.gens = s.grants.gens := by
  unfold expireGrant; split <;> rfl

/-- A reached slot holds an OPEN record of the picked kind. -/
theorem mem_reached {pick : Grant → Bool} {s : State} {g : Nat} :
    g ∈ reached pick s ↔ ∃ r, s.grant g = some r ∧ r.state = .opened ∧ pick r = true := by
  unfold reached
  simp only [List.mem_map, List.mem_filter, Prod.exists, mem_listUsed, Bool.and_eq_true, beq_iff_eq]
  constructor
  · rintro ⟨a, r, ⟨h, h1, h2⟩, rfl⟩; exact ⟨r, h, h1, h2⟩
  · rintro ⟨r, h, h1, h2⟩; exact ⟨g, r, ⟨h, h1, h2⟩, rfl⟩

/-- The reached slots are in ascending order, each once (06 R100). -/
theorem reached_ascending (pick : Grant → Bool) (s : State) : (reached pick s).Pairwise (· < ·) := by
  unfold reached
  rw [List.pairwise_map]
  exact (listUsed_ascending _).filter _

theorem foldl_expire (hit : List Nat) (why : Reason) (s : State)
    (hn : hit.Nodup) (hs : ∀ g ∈ hit, ∃ r, s.grant g = some r) :
    let t := hit.foldl (fun t g => expireGrant g why t) s
    (∀ h, t.grant h = if h ∈ hit then (s.grant h).map (fun r => { r with state := .expiring why }) else s.grant h) ∧
    t.grants.expireList = s.grants.expireList ++ hit ∧
    t.grants.gens = s.grants.gens ∧
    (∀ d, d ∈ t.deadlines ↔ d ∈ s.deadlines ∧ ¬(d.kind = .spanEnd ∧ d.ref ∈ hit)) ∧
    t = { s with grants := t.grants, deadlines := t.deadlines } := by
  induction hit generalizing s with
  | nil => simp
  | cons g hit ih =>
    obtain ⟨hg, hn'⟩ := List.nodup_cons.mp hn
    obtain ⟨r, hr⟩ := hs g List.mem_cons_self
    have hs' : ∀ h ∈ hit, ∃ r, (expireGrant g why s).grant h = some r := by
      intro h hh
      obtain ⟨q, hq⟩ := hs h (List.mem_cons_of_mem _ hh)
      rw [expireGrant_grant]
      by_cases hgh : g = h
      · subst hgh; exact absurd hh hg
      · exact ⟨q, by simp [hgh, hq]⟩
    obtain ⟨h1, h2, h3, h4, h5⟩ := ih (expireGrant g why s) hn' hs'
    refine ⟨fun h => ?_, ?_, ?_, fun d => ?_, ?_⟩
    · rw [List.foldl_cons, h1, expireGrant_grant]
      by_cases hgh : g = h
      · subst hgh; simp [hg]
      · simp [hgh, Ne.symm hgh]
    · rw [List.foldl_cons, h2, expireGrant_expireList why hr]; simp
    · rw [List.foldl_cons, h3]; simp
    · rw [List.foldl_cons, h4]
      have : (expireGrant g why s).deadlines = s.deadlines.filter fun d => !(d.kind == .spanEnd && d.ref == g) := by
        simp [expireGrant, hr, dropSpanEnd]
      rw [this, List.mem_filter]
      simp only [Bool.not_eq_true', Bool.and_eq_false_iff, beq_eq_false_iff_ne, ne_eq, List.mem_cons]
      tauto
    · rw [List.foldl_cons, h5, expireGrant_frame]

/-- All that a forced expiry can do (06 R100). -/
theorem forceExpiry_grants (pick : Grant → Bool) (why : Reason) (s : State) :
    (∀ g, (forceExpiry pick why s).grant g =
      (s.grant g).map fun r => if r.state = .opened ∧ pick r = true then { r with state := .expiring why } else r) ∧
    (forceExpiry pick why s).grants.expireList = s.grants.expireList ++ reached pick s ∧
    (forceExpiry pick why s).grants.gens = s.grants.gens ∧
    (∀ d, d ∈ (forceExpiry pick why s).deadlines ↔
      d ∈ s.deadlines ∧ ¬(d.kind = .spanEnd ∧ d.ref ∈ reached pick s)) ∧
    forceExpiry pick why s = { s with
      grants := (forceExpiry pick why s).grants
      deadlines := (forceExpiry pick why s).deadlines
      attention := (forceExpiry pick why s).attention } := by
  have key := foldl_expire (reached pick s) why s
    ((reached_ascending pick s).imp fun h => Nat.ne_of_lt h)
    (fun g hg => let ⟨r, h, _⟩ := mem_reached.mp hg; ⟨r, h⟩)
  have hgrant : ∀ g, (if g ∈ reached pick s then (s.grant g).map (fun r => { r with state := .expiring why })
      else s.grant g) =
      (s.grant g).map fun r => if r.state = .opened ∧ pick r = true then { r with state := .expiring why } else r := by
    intro g
    cases hg : s.grant g with
    | none => simp
    | some r =>
      have : g ∈ reached pick s ↔ r.state = .opened ∧ pick r = true := by rw [mem_reached]; simp [hg]
      by_cases hm : g ∈ reached pick s
      · simp [hm, this.mp hm]
      · simp [hm, mt this.mpr hm]
  unfold forceExpiry
  cases hr : reached pick s with
  | nil =>
    refine ⟨fun g => ?_, by simp, rfl, by simp, rfl⟩
    have := hgrant g
    simp only [hr, List.not_mem_nil, if_false] at this
    exact this
  | cons g0 rest =>
    rw [hr] at key hgrant
    obtain ⟨h1, h2, h3, h4, h5⟩ := key
    refine ⟨fun g => ?_, h2, h3, h4, ?_⟩
    · exact (h1 g).trans (hgrant g)
    · dsimp only
      generalize (g0 :: rest).foldl (fun t g => expireGrant g why t) s = t at h5 ⊢
      rw [h5]; rfl

/-! ## The outcome of VERIFY (01 R10) -/

/-- All of a list maps to values exactly when each element does, in order. -/
theorem mapM_eq_some_iff {α β : Type} (f : α → Option β) (l : List α) (ys : List β) :
    l.mapM f = some ys ↔ l.map f = ys.map some := by
  induction l generalizing ys with
  | nil => cases ys <;> simp
  | cons a l ih =>
    cases ys with
    | nil => cases h : f a <;> cases h' : l.mapM f <;> simp [h, h', List.mapM_cons]
    | cons y ys => simp [List.mapM_cons, Option.bind_eq_some_iff, ih]

/-- Every key unseals: one store-form key for each record, in record order. -/
theorem storeForms_eq_some (secret : Key) (p : Parcel) (ks : List Key) :
    storeForms secret p = some ks ↔ p.records.map (fun r => Config.storeForm secret r.sealedKey) = ks.map some :=
  mapM_eq_some_iff _ _ _

/-- Some key fails to unseal. -/
theorem storeForms_eq_none (secret : Key) (p : Parcel) :
    storeForms secret p = none ↔ ∃ r ∈ p.records, Config.storeForm secret r.sealedKey = none := by
  unfold storeForms
  induction p.records with
  | nil => simp
  | cons a l ih =>
    simp only [List.mem_cons, exists_eq_or_imp, ← ih]
    cases h : Config.storeForm secret a.sealedKey <;>
      cases h' : l.mapM (fun r => Config.storeForm secret r.sealedKey) <;> simp [h, h', List.mapM_cons]

/-- PASS carries one key for each record, of a parcel whose tags match. -/
theorem verifyOutcome_pass (secret : Key) (p : Parcel) (ks : List Key) :
    verifyOutcome secret p = .verifyPass ks ↔ p.tag = computedTag secret p ∧
      p.records.map (fun r => Config.storeForm secret r.sealedKey) = ks.map some := by
  rw [← storeForms_eq_some]
  unfold verifyOutcome
  split
  · cases h : storeForms secret p <;> simp [*]
  · simp [*]

/-- FAIL when the tags differ or a key fails to unseal. -/
theorem verifyOutcome_fail (secret : Key) (p : Parcel) :
    verifyOutcome secret p = .verifyFail ↔ p.tag ≠ computedTag secret p ∨
      ∃ r ∈ p.records, Config.storeForm secret r.sealedKey = none := by
  rw [← storeForms_eq_none]
  unfold verifyOutcome
  split
  · cases h : storeForms secret p <;> simp [*]
  · simp [*]

/-! ## The oscillator monitor -/

/-- A window is bad when no crystal second was completed in it or when it deviates by more than 200 ppm (03 R40). -/
theorem badWindow_iff {deviation : Nat} {s : State} :
    badWindow deviation s = true ↔ s.clock.ticked = false ∨ 200 < deviation := by simp [badWindow]

/-- A window that ends is good, bad below the limit, or the bad one that makes the run count reach 16 (03 R40). -/
theorem measure_cases (deviation : Nat) (s : State) :
    (s.clock.ticked = true ∧ deviation ≤ 200 ∧ measure deviation s =
      clearLevel Src.clockDrift { s with clock := { s.clock with driftRun := 0, ticked := false } }) ∨
    ((s.clock.ticked = false ∨ 200 < deviation) ∧ s.clock.driftRun < 15 ∧ measure deviation s =
      raiseLevel Src.clockDrift
        { s with clock := { s.clock with driftRun := s.clock.driftRun + 1, ticked := false } }) ∨
    ((s.clock.ticked = false ∨ 200 < deviation) ∧ 15 ≤ s.clock.driftRun ∧
      measure deviation s = reachDriftLimit (openWindow s)) := by
  by_cases hb : s.clock.ticked = false ∨ 200 < deviation
  · by_cases h : 15 ≤ s.clock.driftRun
    · exact .inr (.inr ⟨hb, h, by simp [measure, badWindow_iff, hb, h]⟩)
    · exact .inr (.inl ⟨hb, by omega, by simp [measure, badWindow_iff, hb, h, openWindow]⟩)
  · exact .inl ⟨by simpa using fun h => hb (.inl h), by omega, by simp [measure, badWindow_iff, hb, openWindow]⟩

end Sys2Proof.Machine
end

