-- ==== Sys2Proof/Laws/Deadlines.lean ====
section
/-! SUPPORT. What firing, a backward trim, a rebuild and the selection of a parcel can do. -/

namespace Sys2Proof.Machine

/-! ## The frame of deadline work -/

/-- The work of the Deadline List, of a rebuild and of the losses of time: parcels, keys, grants, deadlines and notices
change, and nothing else of the part. -/
def OnlyDeadlineWork (s t : State) : Prop :=
  t = { s with
    store := { s.store with table := t.store.table, keys := t.store.keys }
    grants := t.grants
    deadlines := t.deadlines
    attention := t.attention }

theorem OnlyDeadlineWork.refl (s : State) : OnlyDeadlineWork s s := rfl

theorem OnlyDeadlineWork.trans {s t u : State} (h1 : OnlyDeadlineWork s t) (h2 : OnlyDeadlineWork t u) :
    OnlyDeadlineWork s u := by
  unfold OnlyDeadlineWork at *; rw [h2, h1]

theorem OnlyParcels.deadlineWork {s t : State} (h : OnlyParcels s t) : OnlyDeadlineWork s t := by
  have hg : t.grants = s.grants := by rw [h]
  unfold OnlyDeadlineWork; rw [hg]; exact h

theorem addDeadline_work (d : Deadline) (s : State) : OnlyDeadlineWork s (addDeadline d s) := rfl

theorem dropSpanEnd_work (g : Nat) (s : State) : OnlyDeadlineWork s (dropSpanEnd g s) := rfl

theorem raisePulse_work (n : Nat) (s : State) : OnlyDeadlineWork s (raisePulse n s) := rfl

theorem expireGrant_work (g : Nat) (why : Reason) (s : State) : OnlyDeadlineWork s (expireGrant g why s) := by
  unfold expireGrant; split <;> rfl

/-- A fold of steps that each do deadline work does deadline work. -/
theorem foldl_work {β : Type} (f : State → β → State) (hf : ∀ s b, OnlyDeadlineWork s (f s b)) (l : List β)
    (s : State) : OnlyDeadlineWork s (l.foldl f s) := by
  induction l generalizing s with
  | nil => rfl
  | cons b l ih => exact (hf s b).trans (ih (f s b))

theorem fireOne_work (d : Deadline) (s : State) : OnlyDeadlineWork s (fireOne d s) := by
  unfold fireOne
  split
  · unfold fireWindowStart
    split
    · split
      · exact (setEntryState_only ..).deadlineWork
      · rfl
    · rfl
  · unfold fireWindowEnd
    split
    · split
      · exact (lapseEntry_only ..).deadlineWork.trans (addDeadline_work ..)
      · rfl
    · rfl
  · unfold firePurge
    split
    · split
      · split
        · exact (freeEntry_only ..).deadlineWork
        · rfl
      · rfl
    · rfl
  · unfold fireSpanEnd
    split
    · split
      · exact (expireGrant_work ..).trans (raisePulse_work ..)
      · rfl
    · rfl

theorem fireDue_work (fuel n : Nat) (s : State) : OnlyDeadlineWork s (fireDue fuel n s) := by
  induction fuel generalizing s with
  | zero => rfl
  | succ fuel ih =>
    unfold fireDue
    split
    · rfl
    · rename_i d t _
      split
      · have h0 : OnlyDeadlineWork s { s with deadlines := t } := rfl
        exact (h0.trans (fireOne_work d _)).trans (ih _)
      · rfl

/-- An event of the Deadline List does deadline work alone (07 R114). -/
theorem runDeadlines_work (n : Nat) (s : State) : OnlyDeadlineWork s (runDeadlines n s) := fireDue_work ..

/-- A backward trim's return to LATENT does deadline work alone (07 R119). -/
theorem returnLatent_work (n : Nat) (s : State) : OnlyDeadlineWork s (returnLatent n s) := by
  unfold returnLatent
  refine foldl_work _ (fun t p => ?_) _ s
  split
  · exact (setEntryState_only ..).deadlineWork.trans (addDeadline_work ..)
  · rfl

theorem rebuildLapse_work (n : Nat) (s : State) : OnlyDeadlineWork s (rebuildLapse n s) := by
  unfold rebuildLapse
  refine foldl_work _ (fun u p => ?_) _ s
  exact (lapseEntry_only p.1 u).deadlineWork

theorem rebuildClassify_work (n : Nat) (s : State) : OnlyDeadlineWork s (rebuildClassify n s) := by
  unfold rebuildClassify
  refine foldl_work _ (fun u p => ?_) _ s
  split
  · exact (setEntryState_only ..).deadlineWork
  · rfl

theorem rebuildPurge_work (n : Nat) (s : State) : OnlyDeadlineWork s (rebuildPurge n s) := by
  unfold rebuildPurge
  refine foldl_work _ (fun u p => ?_) _ s
  split
  · exact (freeEntry_only ..).deadlineWork
  · rfl

theorem rebuildInsert_work (s : State) : OnlyDeadlineWork s (rebuildInsert s) := by
  unfold rebuildInsert
  refine foldl_work _ (fun u p => ?_) _ s
  exact foldl_work _ (fun v d => addDeadline_work d v) _ u

/-- A rebuild does deadline work alone (07 R121, R122). -/
theorem rebuildList_work (n : Nat) (s : State) : OnlyDeadlineWork s (rebuildList n s) := by
  unfold rebuildList
  have h0 : OnlyDeadlineWork s { s with deadlines := [] } := rfl
  refine h0.trans ?_
  generalize ({ s with deadlines := [] } : State) = t
  exact (rebuildLapse_work n t).trans ((rebuildClassify_work n _).trans
    ((rebuildPurge_work n _).trans (rebuildInsert_work _)))

theorem OnlyDeadlineWork.clock {s t : State} (h : OnlyDeadlineWork s t) : t.clock = s.clock := by rw [h]
theorem OnlyDeadlineWork.link {s t : State} (h : OnlyDeadlineWork s t) : t.link = s.link := by rw [h]
theorem OnlyDeadlineWork.stations {s t : State} (h : OnlyDeadlineWork s t) : t.stations = s.stations := by rw [h]
theorem OnlyDeadlineWork.openQueue {s t : State} (h : OnlyDeadlineWork s t) : t.openQueue = s.openQueue := by rw [h]
theorem OnlyDeadlineWork.arbiter {s t : State} (h : OnlyDeadlineWork s t) : t.arbiter = s.arbiter := by rw [h]
theorem OnlyDeadlineWork.engine {s t : State} (h : OnlyDeadlineWork s t) : t.engine = s.engine := by rw [h]
theorem OnlyDeadlineWork.fuses {s t : State} (h : OnlyDeadlineWork s t) : t.fuses = s.fuses := by rw [h]
theorem OnlyDeadlineWork.control {s t : State} (h : OnlyDeadlineWork s t) : t.control = s.control := by rw [h]
theorem OnlyDeadlineWork.pending {s t : State} (h : OnlyDeadlineWork s t) : t.pending = s.pending := by rw [h]

/-! ## What one deadline can leave in the list -/

/-- Firing inserts at most the PURGE of the entry that lapses, and takes nothing in besides (07 R117). -/
theorem mem_fireOne_deadlines {d q : Deadline} {s : State} (h : q ∈ (fireOne d s).deadlines) :
    q ∈ s.deadlines ∨ (d.kind = .windowEnd ∧ q.kind = .purge ∧ q.ref = d.ref) := by
  revert h
  unfold fireOne
  split
  · rename_i hk
    unfold fireWindowStart setEntryState
    split
    · split
      · split <;> exact Or.inl
      · exact Or.inl
    · exact Or.inl
  · rename_i hk
    unfold fireWindowEnd
    split
    · split
      · rename_i e _ _
        intro h
        have hl : (lapseEntry d.ref s).deadlines = s.deadlines := by
          unfold lapseEntry setEntryState; simp; split <;> rfl
        rw [addDeadline, mem_insertDeadline, hl] at h
        rcases h with rfl | h
        · exact Or.inr ⟨hk, rfl, rfl⟩
        · exact Or.inl h
      · exact Or.inl
    · exact Or.inl
  · unfold firePurge
    split
    · split
      · split
        · rw [freeEntry_deadlines]; exact fun h => Or.inl (List.mem_filter.mp h).1
        · exact Or.inl
      · exact Or.inl
    · exact Or.inl
  · unfold fireSpanEnd
    split
    · split
      · unfold expireGrant
        split
        · exact Or.inl
        · exact fun h => Or.inl (List.mem_filter.mp h).1
      · exact Or.inl
    · exact Or.inl

/-- Firing keeps the order (07 R111). -/
theorem fireOne_inOrder {d : Deadline} {s : State} (h : InOrder s.deadlines) : InOrder (fireOne d s).deadlines := by
  unfold fireOne
  split
  · unfold fireWindowStart setEntryState
    split
    · split
      · split <;> exact h
      · exact h
    · exact h
  · unfold fireWindowEnd
    split
    · split
      · have hl : (lapseEntry d.ref s).deadlines = s.deadlines := by
          unfold lapseEntry setEntryState; simp; split <;> rfl
        show InOrder (insertDeadline _ _)
        rw [hl]; exact insertDeadline_inOrder h
      · exact h
    · exact h
  · unfold firePurge
    split
    · split
      · split
        · rw [freeEntry_deadlines]; exact h.filter _
        · exact h
      · exact h
    · exact h
  · unfold fireSpanEnd
    split
    · split
      · unfold expireGrant
        split
        · exact h
        · exact h.filter _
      · exact h
    · exact h

end Sys2Proof.Machine
end

