-- ==== Sys2Proof/Tests/Slice0.lean ====
section
/-! SUPPORT. Small tests, their expected results from the spec's own worked examples, tables and encodings, and a witness for the
hypotheses of each statement for the provers (`witness_<Name>`). -/

namespace Sys2Proof.Tests

-- One theorem at a time: theorems decided side by side would hold a thread of a large stack each.
set_option Elab.async false

open Sys2Proof.Machine

/-! ## A part in service -/

/-- The state a command leads to. -/
def after (c : Instr) (s : State) : State :=
  match exec c s with
  | .next t => t
  | .fault f => nomatch f
  | .refused _ => s

/-- Code and detail of the youngest answer waiting. -/
def said (s : State) : Option (Code × List Byte) := s.link.answers.getLast?.map fun a => (a.code, a.detail)

/-- A station entry with full tokens. -/
def sta (st : StationState) (r : Role) (base : Addr) (size fp aud rank : Nat) : Station where
  state := st
  role := r
  base := base
  size := size
  fingerprint := BitVec.ofNat 128 fp
  auditorium := aud
  rank := rank
  wrapKey := if r = .screen then some 7 else none
  tokens := 6
  mark := none

/-- A parcel entry that names the screens with fingerprints 11 and 12. -/
def par (st : ParcelState) (id winStart winEnd seq grants : Nat) (slots : List Nat) : ParcelEntry where
  state := st
  id := BitVec.ofNat 64 id
  feature := 5
  winStart := winStart
  winEnd := winEnd
  screens := [11, 12]
  refs := slots.map fun k => { track := BitVec.ofNat 32 (k + 1), kind := .picture, slot := k }
  recordCount := slots.length
  ingestSeq := seq
  grantCount := grants
  purgeDue := false

/-- A grant record with two tracks. -/
def gra (st : GrantState) (station parcel x : Nat) : Grant where
  state := st
  station := station
  parcel := parcel
  tracks := [1, 2]
  q := 99000
  r := 3600
  x := x
  used := 0

/-- Programming station at 0x0100, screens at 0x0200-0x0203 and 0x0300, monitor at 0x0400, a suspended screen at 0x0500. -/
def crew : List (Option Station) :=
  [some (sta .enrolled .programming 0x0100 1 1 0 0), some (sta .enrolled .screen 0x0200 4 11 1 5),
   some (sta .enrolled .screen 0x0300 1 12 2 9), some (sta .enrolled .monitor 0x0400 1 3 0 0),
   some (sta .suspended .screen 0x0500 1 13 3 1)] ++ List.replicate 27 none

/-- SHOW mode at booth time 100,000: a LIVE parcel with an OPEN grant, a LATENT and a LAPSED one, and a WITHDRAWN one with a
grant that is EXPIRING. -/
def hall : State :=
  { State.reset with
    stations := { State.reset.stations with entries := crew, mode := .showing }
    clock := { boothTime := 100000, uptime := 1000, timeState := .running, driftRun := 0, trimBudget := 360, trimYear := 5,
               floor := 99960, ticked := true }
    attention := freshAttention
    store :=
      { table := [some (par .live 10 1000 2000 1 1 [0, 1]), some (par .latent 20 2000 3000 2 0 [2]),
                  some (par .lapsed 30 100 1600 3 0 []), some (par .withdrawn 40 1000 2000 4 1 [])] ++
                  List.replicate 60 none,
        keys := [some 70, some 71, some 72] ++ List.replicate 509 none, staging := [], ingestSeq := 4 }
    grants :=
      { slots := [some (gra .opened 1 0 103500), some (gra (.expiring .withdrawn) 2 3 103000)] ++
          List.replicate 46 none,
        gens := List.replicate 48 3, expireList := [1] }
    deadlines :=
      [{ due := 103500, kind := .spanEnd, ref := 0 }, { due := 120000, kind := .windowEnd, ref := 0 },
       { due := 120000, kind := .windowStart, ref := 1 }, { due := 180000, kind := .windowEnd, ref := 1 },
       { due := 182400, kind := .purge, ref := 2 }] }

/-- The same part in SERVICE, without grants. -/
def foyer : State :=
  { hall with
    stations := { hall.stations with mode := .service }
    store := { hall.store with table :=
      [some (par .live 10 1000 2000 1 0 [0, 1]), some (par .latent 20 2000 3000 2 0 [2])] ++ List.replicate 62 none }
    grants := { hall.grants with slots := List.replicate 48 none, expireList := [] }
    deadlines :=
      [{ due := 120000, kind := .windowEnd, ref := 0 }, { due := 120000, kind := .windowStart, ref := 1 },
       { due := 180000, kind := .windowEnd, ref := 1 }] }

/-- In SERVICE with the time LOST. -/
def dark : State := { foyer with clock := { foyer.clock with timeState := .lost }, deadlines := [] }

/-- The bytes of numbers given with their sizes. -/
def bytes (l : List (Nat × Nat)) : List Byte := l.flatMap fun p => beBytes p.1 p.2

/-! ## What the outside can bring about (WellFormed): one ill-formed term for each check -/

theorem test_body_of_2049_bytes_refused : WellFormed (.parcelLoad 1 2 (List.replicate 2049 0)) = false := by decide +kernel
theorem test_body_of_2048_bytes_occurs : WellFormed (.parcelLoad 1 2 (List.replicate 2048 0)) = true := by decide +kernel
theorem test_unknown_kind_with_a_request_kind_refused : WellFormed (.unknownKind 1 2 0x30 []) = false := by decide +kernel
theorem test_unknown_kind_body_of_2049_bytes_refused : WellFormed (.unknownKind 1 2 0x99 (List.replicate 2049 0)) = false := by
  decide +kernel
theorem test_unknown_kind_occurs : WellFormed (.unknownKind 1 2 0x99 []) = true := by decide +kernel

/-! ## Kind bytes and frames (12 Tables 12.1, 12.2; 12.5) -/

theorem test_kind_bytes : [0x10, 0x20, 0x30, 0x31, 0x40, 0x55, 0x64, 0x70, 0x78, 0x7F].map (fun n => kindOf (BitVec.ofNat 8 n)) =
    [Kind.status, .parcelLoad, .openKeys, .close, .timeTrim, .stationList, .zeroize, .noticeRead, .selfTest, .restart].map some := by
  decide +kernel
/-- The worked example of 12.5, byte by byte up to the check. -/
theorem test_expire_frame_of_section_12_5 :
    (TxFrame.wire { dst := 0x0120, src := 0x0002, kind := 0x03, tag := 0,
                    body := ([0x07, 0x03, 0x01] ++ beBytes 4 60611400 ++ beBytes 4 60611402) }).take 19 =
      [0x01, 0x20, 0x00, 0x02, 0x03, 0x00, 0x00, 0x0B, 0x07, 0x03, 0x01, 0x03, 0x9C, 0xDB, 0x48, 0x03, 0x9C, 0xDB, 0x4A] := by
  decide +kernel
/-- The usual check value of CRC-32 over the nine digits (log 10). -/
theorem test_crc32_check_value : crc32 [0x31, 0x32, 0x33, 0x34, 0x35, 0x36, 0x37, 0x38, 0x39] = 0xCBF43926 := by
  decide +kernel

/-! ## The spec's worked arithmetic -/

/-- 04 Table 4.4: near end, capped, late start, too early. -/
theorem test_table_4_4 :
    effectiveStart 60602400 60602000 900 120 = some 60602400 ∧
    spanEnd 60602400 8100 900 60602000 60604800 7200 = some 60611400 ∧
    spanEnd 60602400 9000 900 60602000 60604800 7200 = some 60612000 ∧
    effectiveStart 60601700 60602000 900 120 = some 60602000 ∧
    spanEnd 60602000 8100 900 60602000 60604800 7200 = some 60611000 ∧
    effectiveStart 60603000 60602000 900 120 = none := by decide +kernel
/-- 04 Table 4.5, and the guard of R58 after it. -/
theorem test_table_4_5 :
    effectiveStart 60601500 60602000 900 600 = some 60601500 ∧ clampRuntime 30 = 60 ∧
    spanEnd 60601500 60 0 60602000 60604800 7200 = some 60602060 ∧
    spanEnd 60604790 7200 900 60604790 60604800 0 = some 60604800 ∧
    spanEnd 60604710 7200 900 60604810 60604800 0 = none := by decide +kernel
/-- 04 Tables 4.6 and 4.7: the span end after each request. -/
theorem test_tables_4_6_and_4_7 :
    extendedEnd 60611400 (allowedAddition 300 0) 60604800 7200 = 60611700 ∧
    extendedEnd 60611700 (allowedAddition 600 300) 60604800 7200 = 60612000 ∧
    extendedEnd 60612000 (allowedAddition 100 600) 60604800 7200 = 60612000 ∧
    allowedAddition 5000 0 = 3600 ∧ allowedAddition 2400 3600 = 2400 ∧ allowedAddition 2000 6000 = 1200 ∧
    allowedAddition 60 7200 = 0 := by decide +kernel
/-- 04 Table 4.8: uptimes 1,000, 1,060, 1,600, 2,500 and 6,000. -/
theorem test_table_4_8 :
    refreshTokens 6 none 1000 6 600 = (6, none) ∧ spendToken 6 none 1000 = (5, some 1000) ∧
    refreshTokens 0 (some 1000) 1060 6 600 = (0, some 1000) ∧
    refreshTokens 0 (some 1000) 1600 6 600 = (1, some 1600) ∧
    refreshTokens 0 (some 1600) 2500 6 600 = (1, some 2200) ∧
    refreshTokens 0 (some 2200) 6000 6 600 = (6, none) := by decide +kernel
/-- 03 Table 3.4 and the request of d = -5,000 under it. -/
theorem test_table_3_4 :
    appliedTrim (-500) 360 1000000 = -360 ∧ appliedTrim 30 0 999640 = 0 ∧ appliedTrim 45 360 999640 = 45 ∧
    appliedTrim (-5000) 360 999640 = -360 := by decide +kernel

/-- The five entries of 02 section 2.8; screens and tracks by their letters and numbers. -/
def fiveParcels : List (Option ParcelEntry) :=
  let p (st : ParcelState) (w e seq : Nat) (screens : List Bytes16) (tracks : List TrackId) : ParcelEntry :=
    { state := st, id := 0, feature := 5, winStart := w, winEnd := e, screens := screens,
      refs := tracks.map fun t => { track := t, kind := .picture, slot := 0 },
      recordCount := 6, ingestSeq := seq, grantCount := 0, purgeDue := false }
  ((((((List.replicate 64 none).set 3 (some (p .lapsed 29989920 29999940 1288 [0xA, 0x10] []))).set 8
    (some (p .live 30000000 30010080 1301 [0xA, 0xB] [1, 2, 3]))).set 12
    (some (p .live 30005040 30015120 1310 [0xA] [1, 2]))).set 20
    (some (p .latent 30015120 30025200 1322 [0xA, 0xB, 0xE] [1, 2, 3]))).set 25
    (some (p .live 30005040 30015120 1318 [0xA, 0xC] [1, 2, 3, 4])))

/-- The outcome of a case: the entry and its released tracks, or the code. -/
def outcome (fp : Bytes16) (q : Nat) (tracks : List TrackId) : Except Code (Nat × List TrackId) :=
  match selectParcel fiveParcels fp 5 q tracks with
  | .ok p => .ok (p.1, (releasedRefs p.2 tracks).map fun r => r.track)
  | .error c => .error c

/-- What a case gave: entry and tracks, or nothing and the code. -/
def told (e : Except Code (Nat × List TrackId)) : Option (Nat × List TrackId) × Option Code :=
  match e with
  | .ok v => (some v, none)
  | .error c => (none, some c)

/-- 02 section 2.8, cases 1, 2, 4: the entry chosen and the released tracks. -/
theorem test_selection_chooses :
    told (outcome 0xA 1800400000 []) = (some (25, [1, 2, 3, 4]), none) ∧
    told (outcome 0xA 1800400000 [3, 1]) = (some (25, [3, 1]), none) ∧
    told (outcome 0xB 1800400000 []) = (some (8, [1, 2, 3]), none) := by decide +kernel
/-- 02 section 2.8, cases 3, 5, 6, 7, 8: the code of the last step that lost a candidate. -/
theorem test_selection_refuses :
    told (outcome 0xA 1800400000 [5]) = (none, some .noTrack) ∧ told (outcome 0xE 1800400000 []) = (none, some .notYet) ∧
    told (outcome 0x10 1800400000 []) = (none, some .lapsed) ∧
    told (outcome 0xB 1800605000 []) = (none, some .pastWindow) ∧
    told (outcome 0xD 1800400000 []) = (none, some .noParcel) := by decide +kernel

/-! ## Parcels -/

/-- A PARCEL_LOAD body with one screen and one record: identifier, S, E, screen, track, kind. -/
def loadBody (id w e screen track kind : Nat) : List Byte :=
  bytes [(8, id), (16, 5), (4, w), (4, e), (1, 1), (1, 1), (16, screen), (4, track), (1, kind), (32, 99), (16, 0)]

/-- 01 Table 1.2: well formed, it is staged WAITING behind none; the body is 50 + 16 + 37 bytes. -/
theorem test_load_is_staged : (loadBody 50 1700 1800 11 1 1).length = 103 ∧
    (after (.parcelLoad 0x0100 49 (loadBody 50 1700 1800 11 1 1)) hall).store.staging.map
      (fun p => (p.parcel.id, p.parcel.winStart, p.answerTo, p.tag, p.phase)) = [(50, 1700, 0x0100, 49, .waiting)] := by
  decide +kernel
/-- 01 R5: the identifier of entry 0; 01 Table 1.3: a track identifier of 0 is reason 6. -/
theorem test_load_refusals :
    said (after (.parcelLoad 0x0100 51 (loadBody 10 1700 1800 11 1 1)) hall) = some (.duplicate, []) ∧
    said (after (.parcelLoad 0x0100 51 (loadBody 50 1700 1800 11 0 1)) hall) = some (.malformed, [6]) := by decide +kernel

/-- 01 section 1.7 before A's posting: a full table with three LAPSED entries, slots 40-47 and 300-311 free. -/
def fullHall : State :=
  let lapsed (es seq grants : Nat) : ParcelEntry := par .lapsed 0 0 (es / 60) seq grants []
  { hall with
    clock := { hall.clock with boothTime := 1800003600 }
    engine := { faulted := false, job := none, held := some (.verifyPass (List.replicate 10 8)) }
    deadlines := [{ due := 1799906400, kind := .purge, ref := 17 }]
    store :=
      { table := ((((List.replicate 64 (some (par .live 1 1 31000000 1 1 []))).set 5 (some (lapsed 1799892000 1150 0))).set 17
            (some (lapsed 1799820000 1188 0))).set 40 (some (lapsed 1800000000 1142 1)))
        keys := (List.replicate 40 (some 1) ++ List.replicate 8 none ++ List.replicate 252 (some 1) ++
            List.replicate 12 none ++ List.replicate 200 (some 1))
        ingestSeq := 1204
        staging := [{ parcel := { id := 77, feature := 5, winStart := 30010080, winEnd := 30020160, screens := [11],
                                  records := List.replicate 10 { track := 1, kind := .picture, sealedKey := 0 }, tag := 0 },
                      answerTo := 0x0100, tag := 49, phase := .verifying false }] } }

/-- 01 section 1.7: entry 17 is reclaimed; A takes index 17, LATENT, ten slots, counter 1,205; ten slots are left. -/
theorem test_posting_of_section_1_7 :
    said (after .verifyPosting fullHall) = some (.accepted, [17, 1, 0, 10]) ∧
    ((after .verifyPosting fullHall).entry 17).map (fun e => (e.state, e.ingestSeq, e.refs.map fun r => r.slot)) =
      some (.latent, 1205, [40, 41, 42, 43, 44, 45, 46, 47, 300, 301]) ∧
    (after .verifyPosting fullHall).deadlines =
      [{ due := 1800604800, kind := .windowStart, ref := 17 }, { due := 1801209600, kind := .windowEnd, ref := 17 }] := by
  decide +kernel
/-- 01 R14, Table 1.6: eleven records do not fit ten slots: NO_SLOTS, with what is free after the reclaim. -/
theorem test_posting_no_slots :
    said (after .verifyPosting { fullHall with store := { fullHall.store with
      keys := List.replicate 503 (some 1) ++ List.replicate 9 none } }) = some (.storeFull, [2, 0, 9, 1]) := by decide +kernel
/-- 07 R126: an entry with a grant becomes WITHDRAWN, its keys erased; with FORCE its OPEN record expires. -/
theorem test_withdraw_with_force :
    let t := after (.parcelWithdraw 0x0100 9 (bytes [(8, 10), (1, 1)])) hall
    said t = some (.ok, [4, 1, 1]) ∧ (t.entry 0).map (fun e => (e.state, e.refs)) = some (.withdrawn, []) ∧
    t.store.keys.take 3 = [none, none, some 72] ∧ t.grants.expireList = [1, 0] := by decide +kernel
/-- 07 R125: grant count 0 frees the entry; 07 R124: an unheld identifier is UNKNOWN_PARCEL. -/
theorem test_withdraw_frees :
    said (after (.parcelWithdraw 0x0100 9 (bytes [(8, 20), (1, 0)])) hall) = some (.ok, [3, 0, 0]) ∧
    (after (.parcelWithdraw 0x0100 9 (bytes [(8, 20), (1, 0)])) hall).entry 1 = none ∧
    said (after (.parcelWithdraw 0x0100 9 (bytes [(8, 99), (1, 0)])) hall) = some (.unknownParcel, []) := by decide +kernel
/-- 02 R34: from index 1, three summaries and no continuation. -/
theorem test_parcel_list :
    ((said (after (.parcelList 0x0400 9 [1]) hall)).map fun p => (p.2.take 9, p.2.length)) =
      some ([4, 0x01, 0xFD, 0, 0, 0, 4, 0xFF, 3], 9 + 41 * 3) := by decide +kernel
/-- 01 R8: the refusal of a staged parcel is answered and its place vacated. -/
theorem test_staging_answer_due :
    let s := { fullHall with store := { fullHall.store with staging :=
      (fullHall.store.staging.map fun p => { p with phase := .answerDue .withdrawn }) } }
    said (after .stagingAnswerDue s) = some (.withdrawn, []) ∧ (after .stagingAnswerDue s).store.staging = [] := by
  decide +kernel
/-- `fullHall` with the VERIFY of its head in flight. -/
def verifying : State := { fullHall with engine := { faulted := false, job := some .verify, held := none } }
/-- The head of `fullHall`. -/
def head : Parcel where
  id := 77
  feature := 5
  winStart := 30010080
  winEnd := 30020160
  screens := [11]
  records := List.replicate 10 { track := 1, kind := .picture, sealedKey := 0 }
  tag := 0
/-- 01 R10: FAIL when the tags differ, and when a key fails to unseal; PASS with one key per record when all unseal. -/
theorem test_verify_fails (h : head.tag ≠ computedTag 0 head ∨ Config.storeForm 0 0 = none) :
    (after (.verifyComplete ()) verifying).engine.held = some .verifyFail :=
  congrArg some ((verifyOutcome_fail 0 head).mpr (h.imp id fun h => ⟨_, List.mem_replicate.mpr ⟨by decide, rfl⟩, h⟩))
theorem test_verify_passes (k : Key) (h : head.tag = computedTag 0 head) (hk : Config.storeForm 0 0 = some k) :
    (after (.verifyComplete ()) verifying).engine.held = some (.verifyPass (List.replicate 10 k)) :=
  congrArg some ((verifyOutcome_pass 0 head _).mpr ⟨h, by
    show (List.replicate 10 _).map _ = (List.replicate 10 k).map some
    rw [List.map_replicate, List.map_replicate, hk]⟩)

/-! ## Opens and grants -/

/-- An OPEN body: feature 5, planned start, runtime, tracks. -/
def openBody (planned runtime : Nat) (tracks : List Nat) : List Byte :=
  bytes ([(16, 5), (4, planned), (4, runtime), (1, tracks.length)] ++ tracks.map fun t => (4, t))

/-- 05 R69, 04 R54, R65: the request waits with its runtime clamped to 60, and a token is spent at uptime 1,000. -/
theorem test_open_admitted :
    let t := after (.openKeys 0x0201 9 (openBody 0 30 [2, 1])) hall
    t.openQueue.waiting.map (fun w => (w.station, w.tracks, w.runtime, w.arrival)) = [(1, [2, 1], 60, 1000)] ∧
    (t.station 1).map (fun e => (e.tokens, e.mark)) = some (5, some 1000) ∧ t.link.answers = [] := by decide +kernel
/-- 05 Table 5.2: the suspended screen; a start 901 seconds ahead; SERVICE. -/
theorem test_open_refusals :
    said (after (.openKeys 0x0500 9 (openBody 0 30 [])) hall) = some (.suspended, []) ∧
    said (after (.openKeys 0x0200 9 (openBody 100901 30 [])) hall) = some (.tooEarly, []) ∧
    said (after (.openKeys 0x0200 9 (openBody 0 30 [])) foyer) = some (.mode, []) := by decide +kernel

/-- An open of screen `slot` that waits since uptime `arrival`. -/
def wait (slot : Nat) (arrival : Nat) : OpenReq where
  station := slot
  who := { addr := 0x0200, tag := 1 }
  feature := 5
  tracks := []
  planned := 0
  runtime := 60
  arrival := arrival

/-- Opens wait: the screen of rank 5 first, then the one of rank 9. -/
def rush : State := { hall with openQueue := { waiting := [wait 1 990, wait 2 995], due := [] } }

/-- 05 R77: the higher rank goes first; R80: the lowest free grant slot, the parcel's count, the copied keys. -/
theorem test_arbiter_serves_rank_9 :
    let t := after .engineArbiterChoice rush
    t.openQueue.waiting = [wait 1 990] ∧
    (t.grant 2).map (fun r => (r.station, r.parcel, r.q, r.r, r.x)) = some (2, 0, 100000, 60, 100960) ∧
    (t.entry 0).map (fun e => e.grantCount) = some 2 ∧
    t.engine.job = some (.rewrap 2 3 7 [(1, 70), (2, 71)]) := by decide +kernel
/-- 05 R77, R80: an open that finds no track is refused and the arbiter chooses again at once. -/
theorem test_arbiter_chooses_again :
    let t := after .engineArbiterChoice { rush with openQueue :=
      { waiting := [wait 1 990, { wait 2 995 with tracks := [9] }], due := [] } }
    t.openQueue.waiting = [] ∧ t.openQueue.due.map (fun d => d.code) = [.noTrack] ∧ t.engine.job.isSome = true := by
  decide +kernel
/-- 05 R72: 30 uptime seconds have passed for one of two. -/
theorem test_open_wait_timeout :
    let t := after .openWaitTimeout { rush with clock := { rush.clock with uptime := 1020 } }
    t.openQueue.waiting = [wait 2 995] ∧ t.openQueue.due.map (fun d => d.code) = [.timeout] := by decide +kernel

/-- A REWRAP result is held for grant slot 2, generation 3. -/
def wrapped : State :=
  { hall with
    engine := { faulted := false, job := none, held := some (.rewrapped 2 3 [(1, 70), (2, 71)] [(1, 0), (2, 0)]) }
    grants := { hall.grants with slots := hall.grants.slots.set 2 (some (gra (.opening { addr := 0x0200, tag := 8 }) 1 0 104000)) } }

/-- 05 R83, 12 Table 12.5: GRANTED with handle, Q, X, R, parcel index, 2 tracks of 44 bytes; SPAN_END at X. -/
theorem test_rewrap_posting_grants :
    let t := after .rewrapPosting wrapped
    (said t).map (fun p => (p.1, p.2.take 16, p.2.length)) =
      some (.granted, [2, 3] ++ beBytes 4 99000 ++ beBytes 4 104000 ++ beBytes 4 3600 ++ [0, 2], 104) ∧
    (t.grant 2).map (fun r => r.state) = some .opened ∧ { due := 104000, kind := .spanEnd, ref := 2 } ∈ t.deadlines := by
  decide +kernel
/-- 05 R82: the station was suspended since; the record is freed, its generation rises. -/
theorem test_rewrap_posting_discards :
    let t := after .rewrapPosting (wrapped.setStation 1 ((wrapped.station 1).map fun e => { e with state := .suspended }))
    said t = some (.suspended, []) ∧ t.grant 2 = none ∧ t.grants.gens.take 3 = [3, 3, 4] := by decide +kernel

/-- 06 section 6.10 step 5: a CLOSE from any address of the block; the generation rises. -/
theorem test_close_from_the_block :
    let t := after (.close 0x0203 9 [0, 3]) hall
    said t = some (.ok, [0, 3] ++ beBytes 4 103500) ∧ t.grant 0 = none ∧ t.grants.gens.take 2 = [4, 3] ∧
    (t.entry 0).map (fun e => e.grantCount) = some 0 ∧ t.deadlines.length = 4 := by decide +kernel
/-- 06 R98, 02 R26: the EXPIRING record is answered EXPIRED with its reason, and its WITHDRAWN entry is freed. -/
theorem test_close_of_an_expiring_record :
    let t := after (.close 0x0300 9 [1, 3]) hall
    said t = some (.expired, [1, 3, 2] ++ beBytes 4 103000) ∧ t.entry 3 = none ∧ t.grants.expireList = [] ∧
    said (after (.close 0x0300 9 [0, 3]) hall) = some (.unknownGrant, []) := by decide +kernel
/-- 04 Table 4.6, 4.7: 300 seconds asked and given; 5,000 asked, 3,600 given. -/
theorem test_extend :
    said (after (.extend 0x0200 9 (bytes [(1, 0), (1, 3), (4, 300)])) hall) =
      some (.ok, [0, 3] ++ beBytes 4 103800 ++ beBytes 2 300 ++ beBytes 2 300) ∧
    said (after (.extend 0x0200 9 (bytes [(1, 0), (1, 3), (4, 5000)])) hall) =
      some (.clamped, [0, 3] ++ beBytes 4 107100 ++ beBytes 2 3600 ++ beBytes 2 3600) := by decide +kernel
/-- 06 R109: a monitor sees both records, a screen its own. -/
theorem test_grant_list :
    ((said (after (.grantList 0x0400 9 []) hall)).map fun p => (p.2.take 7, p.2.length)) =
      some (beBytes 4 100000 ++ [2, 0, 3], 47) ∧
    ((said (after (.grantList 0x0300 9 []) hall)).map fun p => (p.2.take 7, p.2.length)) =
      some (beBytes 4 100000 ++ [1, 1, 3], 26) := by decide +kernel

/-! ## Booth time and deadlines -/

/-- 03 Table 3.4 step 4 moved to 99,960: the floor rises across 100,020, and B falls to 315. -/
theorem test_trim_forward :
    let t := after (.timeTrim 0x0100 9 (bytes [(4, 45)])) hall
    said t = some (.ok, beBytes 4 45 ++ beBytes 4 100045 ++ beBytes 2 315) ∧ t.clock.floor = 100045 := by decide +kernel
/-- 03 Table 3.4 step 1: -500 is clamped to the budget. -/
theorem test_trim_clamped :
    let t := after (.timeTrim 0x0100 9 (bytes [(4, 4294966796)])) hall
    said t = some (.clamped, [0xFF, 0xFF, 0xFE, 0x98] ++ beBytes 4 99640 ++ beBytes 2 0) ∧
    (t.source Src.trimClamped).status = true ∧ t.clock.floor = 99960 := by decide +kernel
/-- 03 section 3.10: a value below the floor gives the floor, CLAMPED; TIME_LOST clears. -/
theorem test_time_set :
    let t := after (.timeSet 0x0100 9 (bytes [(4, 99000)])) dark
    said t = some (.clamped, beBytes 4 99960 ++ beBytes 4 99960) ∧ t.clock.timeState = .running ∧
    t.deadlines.map (fun d => (d.due, d.ref)) = [(120000, 0), (120000, 1), (180000, 1)] := by decide +kernel

/-- 07 section 7.7: the three entries, the two grants and the list before the trim. -/
def evening : State :=
  let e (st : ParcelState) (w v : Nat) (slots : List Nat) : ParcelEntry := par st 1 w v 1 1 slots
  { hall with
    clock := { hall.clock with boothTime := 1800003500 }
    store := { hall.store with
      table := ((((List.replicate 64 none).set 21 (some (e .live 29000000 30000060 [0, 1]))).set 30
        (some (e .latent 30000060 30010140 [2]))).set 6 (some (e .lapsed 100 29998623 []))) }
    grants :=
      { slots := (((List.replicate 48 none).set 3 (some (gra .opened 1 21 1800003550))).set 11
          (some (gra .opened 2 6 1800003700)))
        gens := List.replicate 48 0, expireList := [] }
    deadlines :=
      [{ due := 1800003550, kind := .spanEnd, ref := 3 }, { due := 1800003600, kind := .windowEnd, ref := 21 },
       { due := 1800003600, kind := .windowStart, ref := 30 }, { due := 1800003700, kind := .spanEnd, ref := 11 },
       { due := 1800003780, kind := .purge, ref := 6 }, { due := 1800608400, kind := .windowEnd, ref := 30 }] }

/-- 07 Table 7.7: what the trim of +300 fires, in order, and the two deadlines left. -/
theorem test_trim_of_section_7_7 :
    let t := after (.timeTrim 0x0100 9 (bytes [(4, 300)])) evening
    t.grants.expireList = [3, 11] ∧
    t.deadlines = [{ due := 1800090000, kind := .purge, ref := 21 }, { due := 1800608400, kind := .windowEnd, ref := 30 }] ∧
    [21, 30, 6].map (fun i => (t.entry i).map fun e => (e.state, e.purgeDue)) =
      [some (.lapsed, false), some (.live, false), some (.lapsed, true)] ∧
    t.store.keys.take 3 = [none, none, some 72] ∧
    said t = some (.ok, beBytes 4 300 ++ beBytes 4 1800003800 ++ beBytes 2 60) := by decide +kernel

/-- 07 Table 7.8: the entries before the rebuild. -/
def darkNight : State :=
  let e (st : ParcelState) (w v : Nat) : Option ParcelEntry := some (par st 1 (w / 60) (v / 60) 1 0 [])
  { hall with
    control := { hall.control with service := .starting, phase := .rebuild }
    clock := { hall.clock with boothTime := 1800700000 }
    store := { hall.store with
      table := (((((((List.replicate 64 none).set 2 (e .live 1800000000 1800604800)).set 9 (e .latent 1800648000 1801252800)).set 15
        (e .live 1800043200 1800648000)).set 33 (e .lapsed 1799913600 1800518400)).set 40
        (e .latent 1801252800 1801857600)).set 44 (e .live 1800000000 1800907200)) }
    grants := { hall.grants with slots := List.replicate 48 none, expireList := [] }
    deadlines := [] }

/-- 07 Table 7.9: the list after the rebuild, and the states. -/
theorem test_rebuild_of_section_7_8 :
    let t := after .rebuild darkNight
    t.deadlines = [{ due := 1800734400, kind := .purge, ref := 15 }, { due := 1800907200, kind := .windowEnd, ref := 44 },
      { due := 1801252800, kind := .windowEnd, ref := 9 }, { due := 1801252800, kind := .windowStart, ref := 40 },
      { due := 1801857600, kind := .windowEnd, ref := 40 }] ∧
    [2, 9, 15, 33, 40, 44].map (fun i => (t.entry i).map fun e => e.state) =
      [none, some .live, some .lapsed, none, some .latent, some .live] ∧ t.control.phase = .finish := by decide +kernel

/-- 03 R35, R47: the second that lands on 100,020 raises the floor; 02 section 2.9: the one on Es lapses the entry. -/
theorem test_crystal_second :
    (after .crystalSecond { hall with clock := { hall.clock with boothTime := 100019 } }).clock.floor = 100020 ∧
    ((after .crystalSecond { hall with clock := { hall.clock with boothTime := 119999 } }).entry 0).map (fun e => e.state) =
      some .lapsed := by decide +kernel
/-- 03 R43: the wrap refills the budget. -/
theorem test_trim_year :
    let s := { hall with clock := { hall.clock with trimYear := 31535999, trimBudget := 3 } }
    (after .trimYearWrap s).clock.trimBudget = 360 ∧ (after .crystalSecond s).clock.trimYear = 0 := by decide +kernel
/-- 03 Table 3.5: the sixteenth bad window loses the time, and CLOCK_DRIFT clears; a good one ends the run. -/
theorem test_drift_run :
    let s := { hall with clock := { hall.clock with driftRun := 15 } }
    (after (.mainClockSecond 201) s).clock.timeState = .lost ∧ (after (.mainClockSecond 201) s).clock.driftRun = 0 ∧
    (after (.mainClockSecond 200) s).clock.timeState = .running := by decide +kernel
/-- 03 R40: a stopped crystal makes a window bad whatever deviation is measured; a crystal second makes the next one good. -/
theorem test_stopped_crystal :
    let t := after (.mainClockSecond 0) (after (.mainClockSecond 0) hall)
    t.clock.driftRun = 1 ∧ (t.source Src.clockDrift).status = true ∧
    (after (.mainClockSecond 0) (after .crystalSecond t)).clock.driftRun = 0 := by decide +kernel
/-- 06 R103, 07 R120: the OPEN grant expires CLOCK behind the one that waits; the list empties; TIME_LOST and FAULT rise. -/
theorem test_drift_run_limit :
    let t := after .driftRunLimit { hall with clock := { hall.clock with driftRun := 15 } }
    t.grants.expireList = [1, 0] ∧ t.deadlines = [] ∧ [0, 2, 5].map (fun n => (t.source n).status) = [true, true, false] := by
  decide +kernel

/-! ## Stations, modes, settings (08 section 8.8 and after) -/

/-- A STATION_ENROL body. -/
def enrolBody (role base size fp aud rank : Nat) : List Byte :=
  bytes [(1, role), (2, base), (1, size), (16, fp), (1, aud), (1, rank), (32, 7)]

/-- 08 Table 8.6 step 1, on the part as it comes up: the boot address enrols a programming station into slot 0. -/
theorem test_commissioning_step_1 :
    let t := after (.stationEnrol 0x0010 1 (enrolBody 2 0x0020 2 1 0 0)) State.reset
    said t = some (.ok, [0]) ∧ bootActive t = false ∧
    (after (.stationEnrol 0x0010 1 (enrolBody 3 0x0030 1 2 0 0)) t).link.stranger = 1 := by decide +kernel
/-- 08 Table 8.6 steps 3 and 5: MISALIGNED; CONFLICT RANK with the slot that holds it. -/
theorem test_commissioning_refusals :
    said (after (.stationEnrol 0x0100 1 (enrolBody 1 0x0101 2 9 6 10)) foyer) = some (.misaligned, []) ∧
    said (after (.stationEnrol 0x0100 1 (enrolBody 1 0x0102 1 9 6 9)) foyer) = some (.conflict, [2, 2]) := by decide +kernel
/-- 08 R137, R139: retire frees a slot; a screen takes a free rank, and not a held one. -/
theorem test_retire_and_rank :
    (after (.stationRetire 0x0100 1 [1]) foyer).station 1 = none ∧
    ((after (.stationRank 0x0100 1 [1, 31]) hall).station 1).map (fun e => e.rank) = some 31 ∧
    said (after (.stationRank 0x0100 1 [1, 9]) hall) = some (.conflict, [2, 2]) := by decide +kernel
/-- 08 R138: suspension expires the screen's OPEN grant and counts it; resumption enrols. -/
theorem test_suspend_and_resume :
    said (after (.stationSuspend 0x0100 1 [1]) hall) = some (.ok, [1, 0]) ∧
    (after (.stationSuspend 0x0100 1 [1]) hall).grants.expireList = [1, 0] ∧
    ((after (.stationResume 0x0100 1 [4]) hall).station 4).map (fun e => e.state) = some .enrolled ∧
    said (after (.stationSuspend 0x0100 1 [0]) hall) = some (.lastProgramming, []) := by decide +kernel
/-- 08 R140: roles in use 3, 1, 1, five entries of 24 bytes. -/
theorem test_station_list :
    ((said (after (.stationList 0x0400 1 []) hall)).map fun p => (p.2.take 5, p.2.length)) = some ([0, 3, 1, 1, 5], 125) := by
  decide +kernel
/-- 08 Table 8.6 steps 8 and 9: an empty holder is a mismatch; the fuse mode key (0 here) enters SHOW. -/
theorem test_mode_change :
    said (after (.modeChange 0x0100 1 [2]) foyer) = some (.keyMismatch, [1, 1]) ∧
    said (after (.modeChange 0x0100 1 [2]) (after (.modeKey 0x0100 1 (List.replicate 16 0)) foyer)) = some (.ok, [2, 0]) := by
  decide +kernel
/-- 08 R146: 5,000 is clamped to 3,600; HOLD_HIGH 4 lowers HOLD_LOW 4 to 3. -/
theorem test_setting_write :
    said (after (.settingWrite 0x0100 1 (bytes [(1, 1), (4, 5000)])) foyer) = some (.clamped, beBytes 4 3600 ++ [0]) ∧
    said (after (.settingWrite 0x0100 1 (bytes [(1, 7), (4, 4)])) foyer) = some (.clamped, beBytes 4 4 ++ [3]) ∧
    said (after (.settingWrite 0x0100 1 (bytes [(1, 12), (4, 4)])) foyer) = some (.readOnly, []) := by decide +kernel
/-- 08 R147, 12 Table 12.9: B with the seconds left, own address, an unknown name. -/
theorem test_setting_read :
    said (after (.settingRead 0x0400 1 [12]) hall) = some (.ok, beBytes 4 360 ++ beBytes 4 31535995) ∧
    said (after (.settingRead 0x0400 1 [13]) hall) = some (.ok, [0, 0, 0, 2]) ∧
    said (after (.settingRead 0x0400 1 [14]) hall) = some (.unknownSetting, []) := by decide +kernel
/-- 08 R144: the answer waits for the sender; tables and deadlines are empty; the mode stays SERVICE. -/
theorem test_zeroize :
    let t := after (.zeroize 0x0100 1 []) foyer
    said t = some (.ok, []) ∧ t.parcelsInUse = 0 ∧ t.freeKeySlots = 512 ∧ bootActive t = true ∧ t.deadlines = [] ∧
    t.store.ingestSeq = 4 := by decide +kernel

/-! ## Notices (10 Table 10.3) -/

/-- Steps 1 and 2: level 1 does not exceed the threshold 2, level 3 does. -/
theorem test_attention_levels :
    (raisePulse Src.grantOpened hall).attnLow = false ∧ (raisePulse Src.grantExpired hall).attnLow = true := by decide +kernel
/-- Steps 4 and 9: a read with clear clears pulse sources and releases the line; a masked FAULT of level 7 holds it. -/
theorem test_notices :
    let t := after (.noticeRead 0x0100 1 [1]) (raisePulse Src.grantExpired hall)
    (t.source Src.grantExpired).status = false ∧ (t.source Src.grantExpired).history = true ∧ t.attnLow = false ∧
    (after (.noticeConfig 0x0100 1 [0xFF, 1, 0, 1, 1, 7]) (raisePulse Src.fault hall)).attnLow = true := by decide +kernel
/-- 10 R167: FAULT's level is 7 whatever is asked, so the answer is CLAMPED; 73 bytes. -/
theorem test_notice_config :
    ((said (after (.noticeConfig 0x0100 1 [3, 1, 0, 1, 0, 2]) hall)).map fun p => (p.1, p.2.take 4, p.2.length)) =
      some (.clamped, [3, 1, 0, 7], 73) := by decide +kernel

/-! ## Engine tests -/

/-- 05 R85, R77, R75, R86: a SELF_TEST waits, is chosen, fails into FAULT; its answer is held and placed. -/
theorem test_self_test :
    (after (.selfTest 0x0100 6 []) foyer).arbiter.selfTest = some { addr := 0x0100, tag := 6 } ∧
    (after .engineArbiterChoice (after (.selfTest 0x0100 6 []) foyer)).engine.job =
      some (.kat (.selfTest { addr := 0x0100, tag := 6 })) ∧
    said (after .selfTestPosting { foyer with engine :=
      { faulted := true, job := none, held := some (.selfTestFailed { addr := 0x0100, tag := 6 }) } }) = some (.failed, []) := by
  decide +kernel
/-- 05 R84: a failed periodic KAT refuses the waiting opens; R79: at 3,600 seconds since the last KAT the test is due. -/
theorem test_periodic_test :
    (after (.katComplete false) { rush with engine := { faulted := false, job := some (.kat .periodic), held := none } }).openQueue.due.map
      (fun d => d.code) = [.engineFault, .engineFault] ∧
    (after .periodicTestDue { hall with clock := { hall.clock with uptime := 3600 } }).arbiter.testDue = true ∧
    (after .periodicTestDue { hall with clock := { hall.clock with uptime := 3599 } }).arbiter.testDue = false := by decide +kernel
/-- 05 R71: the oldest refused open is answered. -/
theorem test_open_answer_due :
    said (after .openAnswerDue { hall with openQueue :=
      { waiting := [], due := [{ who := { addr := 0x0200, tag := 4 }, code := .timeout }] } }) = some (.timeout, []) := by
  decide +kernel
/-- 05 R76, 02 R23: a REWRAP's result keeps the tracks' order, and the engine its copy of the keys. -/
theorem test_rewrap_complete :
    (match (after .rewrapComplete { hall with engine :=
        { faulted := false, job := some (.rewrap 2 3 7 [(2, 71), (1, 70)]), held := none } }).engine.held with
      | some (.rewrapped g n copy ks) => (g, n, copy, ks.map fun p => p.1)
      | _ => (0, 0, [], [])) = (2, 3, [(2, 71), (1, 70)], [2, 1]) := by decide +kernel

/-! ## The link (09 section 9.7) -/

/-- A stored frame. -/
def frame (src kind : Nat) (body : List Byte) : Frame where
  src := BitVec.ofNat 16 src
  kind := BitVec.ofNat 8 kind
  tag := 9
  body := body

/-- `n` STATUS requests of the monitor are stored. -/
def burst (n : Nat) : State :=
  { hall with link := { hall.link with stored := List.replicate n (frame 0x0400 0x10 []) } }

/-- At 2 ms: the ninth slot taken enters HOLDING with 50 pending and the timer at 40. -/
theorem test_hold_entered :
    let t := after (.frameHeader 0x0002 0x0200) (burst 8)
    t.link.hold = .holding ∧ t.link.pendingHold = some 50 ∧ t.link.holdTimer = some 40 ∧
    (after (.frameHeader 0x0002 0x0200) (burst 7)).link.hold = .idle := by decide +kernel
/-- At 10 ms: no slot is left. A stranger and another part's frame are no overrun. -/
theorem test_overrun :
    (after (.frameHeader 0x0002 0x0200) (burst 12)).link.overrun = 1 ∧
    (after (.frameHeader 0x0002 0x0777) (burst 12)).link.stranger = 1 ∧
    after (.frameHeader 0x0003 0x0200) (burst 12) = burst 12 := by decide +kernel
/-- At 42 ms the timer repeats the hold; at 60 ms the take that leaves three releases it. -/
theorem test_hold_repeated_and_released :
    (after .holdRepeatTimer { burst 12 with link := { (burst 12).link with hold := .holding } }).link.pendingHold = some 50 ∧
    (let t := after .frameTake { burst 4 with link := { (burst 4).link with hold := .holding } }
     t.link.hold = .idle ∧ t.link.pendingHold = some 0 ∧ t.link.stored.length = 3) := by decide +kernel
/-- 09 R152: a kind that is none is answered with its own value; STATUS answers 36 bytes. -/
theorem test_take :
    ((after (.unknownKind 0x0200 9 0x99 []) hall).link.answers.map fun a => (a.kind, a.code)) = [(0x99, .unknownKind)] ∧
    ((said (after .frameTake (burst 1))).map fun p => (p.1, p.2.length)) = some (.ok, 36) ∧
    ((said (after (.status 0x0500 9 []) hall)).map fun p => p.1) = some .ok := by decide +kernel
/-- 09 R150: a frame read back is stored; a frame with one bit of its check wrong is bad. -/
theorem test_frame_end :
    let s := { hall with link := { hall.link with arriving := some { dst := 0x0002, src := 0x0200 } } }
    let w := (TxFrame.wire { dst := 0x0002, src := 0x0200, kind := 0x31, tag := 5, body := [0, 3] }).drop 4
    (after (.frameEnd w) s).link.stored = [{ src := 0x0200, kind := 0x31, tag := 5, body := [0, 3] }] ∧
    (after (.frameEnd (w.dropLast ++ [w.getLast! ^^^ 1])) s).link.bad = 1 := by decide +kernel
/-- 09 R154: an expiry goes before an answer, an answer before a notice; a pending HOLD before all. -/
theorem test_transmit_order :
    let s := raisePulse Src.overrun (after (.status 0x0400 9 []) hall)
    ((after .sendExpire s).link.sending.map fun f => (f.dst, f.kind)) = some (0x0300, 3) ∧
    (after .sendExpire s).grant 1 = none ∧ after .sendAnswer s = s ∧
    ((after .sendAnswer (after (.status 0x0400 9 []) foyer)).link.sending.map fun f => (f.dst, f.kind)) = some (0x0400, 1) ∧
    ((after .sendNotice (raisePulse Src.overrun foyer)).link.sending.map fun f => (f.dst, f.body)) =
      some (0xFFFD, [7, 3, 1] ++ beBytes 4 100000) := by decide +kernel
/-- 09 Table 9.4 at 3 ms: HOLD 50 to 0xFFFF. -/
theorem test_send_hold :
    let t := after .sendHold { burst 9 with link := { (burst 9).link with pendingHold := some 50 } }
    (t.link.sending.map fun f => (f.dst, f.kind, f.body)) = some (0xFFFF, 2, [0, 50]) ∧ t.link.pendingHold = none ∧
    (after .transmitFrameEnd t).link.sending = none ∧ (after .linkUp (after .linkDown t)).link.up = true := by decide +kernel

/-! ## Power and start-up (11 section 11.7) -/

/-- RESTART is answered at once with 11 bytes; the start-up begins when that answer has left, and no other one does. -/
theorem test_restart :
    ((said (after (.restart 0x0100 9 []) foyer)).map fun p => (p.1, p.2.length)) = some (.ok, 11) ∧
    (let t := after .transmitFrameEnd (after .sendAnswer (after (.restart 0x0100 9 []) foyer))
     t.control.service = .starting ∧ t.control.phase = .begin ∧ t.control.beganBy = .restart) ∧
    (after .transmitFrameEnd (after .sendAnswer (after (.status 0x0100 9 []) foyer))).control.service = .operating := by
  decide +kernel
/-- 11 R174: power off and on again; the reset line held and released. -/
theorem test_power_and_reset_line :
    (after .powerOn (after .powerLoss hall)).control.beganBy = .powerOn ∧
    (after .powerLoss hall).control.phase = .halted ∧ (after .resetLineAssert hall).control.service = .starting ∧
    (after .resetLineRelease (after .resetLineAssert hall)).control.beganBy = .resetLine := by decide +kernel
/-- 11 R170, R171: with the backup supply lost, RETAINED_CHECK gives the lost store's values. -/
theorem test_retained_loss :
    let t := after (.retainedCheck false) { after .retainedLoss (after .powerLoss hall) with control :=
      { hall.control with storeValid := false, service := .starting, phase := .retainedCheck } }
    t.parcelsInUse = 0 ∧ t.clock.timeState = .lost ∧ t.stations.mode = .service ∧ t.control.beganBy = .backupLost := by
  decide +kernel
/-- 11 R171: a sound store keeps its entries, but for the WITHDRAWN one, with grant counts 0. -/
theorem test_retained_check_sound :
    let t := after (.retainedCheck false) { hall with control := { hall.control with service := .starting, phase := .retainedCheck } }
    [0, 1, 2, 3].map (fun i => (t.entry i).map fun e => e.grantCount) = [some 0, some 0, some 0, none] := by decide +kernel
/-- 11 R169: an uncorrectable own address seals the start-up and raises FUSE_FAULT. -/
theorem test_fuse_load :
    let t := after .fuseLoad { hall with
      control := { hall.control with service := .starting, phase := .fuseLoad }
      fuses := { hall.fuses with words := { hall.fuses.words with ownAddr := { value := 2, condition := .uncorrectable } } } }
    t.control.sealing = true ∧ t.ownAddr = 0xFFFE ∧ (t.source Src.fuseFault).status = true ∧ t.fuses.held.uncorrectable = 4 := by
  decide +kernel
/-- 11 R172, 10 R168: a sealing start-up ends SEALED, with the line low; a clean one ends OPERATING. -/
theorem test_start_up_end :
    let s := { foyer with control := { foyer.control with service := .starting, phase := .finish, beganBy := .restart } }
    (after .startUpEnd s).control.service = .operating ∧ (after .startUpEnd s).control.cause = .restart ∧
    (let t := after .startUpEnd { s with control := { s.control with sealing := true } }
     t.control.service = .sealedOff ∧ t.attnLow = true ∧ said (after (.grantList 0x0400 9 []) t) = some (.sealing, [])) := by
  decide +kernel
/-- 11 R171: the whole first start-up of a new part, phase after phase, ends in State.reset, but for the one crystal second
of the CLOCK_CHECK window, which the trim-year counter has counted. -/
theorem test_first_start_up_ends_in_reset :
    after .startUpEnd (after (.clockCheck 0) (after .crystalSecond (after (.katComplete true) (after .engineArbiterChoice
      (after (.retainedCheck false) (after .fuseLoad (after .startUpBegin (after .powerOn
        (after .retainedLoss (after .powerLoss State.reset)))))))))) =
      { State.reset with clock := { State.reset.clock with trimYear := 1 } } := by decide +kernel
/-- 03 R40, R41: a crystal second before the CLOCK_CHECK phase does not count for its window. -/
theorem test_clock_check_without_crystal :
    let s := { State.reset with
      control := { State.reset.control with service := .starting, phase := .engineTest }, engine := {
        faulted := false, job := some (.kat .startUp), held := none } }
    let t := after (.clockCheck 0) (after (.katComplete true) (after .crystalSecond s))
    t.clock.driftRun = 1 ∧ (t.source Src.clockDrift).status = true := by decide +kernel

/-! ## Witnesses: concrete states and operands that meet the hypotheses of each statement -/

/-- The sender of a request from `slot` of the crew. -/
def member (slot : Nat) : Sender :=
  match slotGet crew slot with
  | some e => .station slot e
  | none => .boot

theorem servedBy {s : State} {src : Addr} {who : Sender} (h : s.control.power = true ∧ s.control.service = .operating ∧
    s.link.answers.length < 16 ∧ matchSource s src = some who) : Served s src who := ⟨h.1, h.2.1, h.2.2.1, h.2.2.2⟩

theorem programmerBy {s : State} {src : Addr} {who : Sender} (h : s.control.power = true ∧ s.control.service = .operating ∧
    s.link.answers.length < 16 ∧ matchSource s src = some who ∧ who.role = .programming ∧ who.isSuspended = false) :
    ServedProgrammer s src who := ⟨⟨h.1, h.2.1, h.2.2.1, h.2.2.2.1⟩, h.2.2.2.2.1, h.2.2.2.2.2⟩

theorem screenBy {s : State} {src : Addr} {slot : Nat} {e : Station} (h : s.control.power = true ∧
    s.control.service = .operating ∧ s.link.answers.length < 16 ∧ matchSource s src = some (.station slot e) ∧
    e.role = .screen ∧ e.state = .enrolled) :
    ServedScreen s src slot e := ⟨⟨h.1, h.2.1, h.2.2.1, h.2.2.2.1⟩, h.2.2.2.2.1, h.2.2.2.2.2⟩

theorem awakeBy {s : State} (h : s.control.power = true ∧ s.control.service ≠ .starting) : Awake s := h

theorem mayPostBy {s : State} (h : s.control.power = true ∧ s.control.service ≠ .starting ∧ s.link.answers.length < 16) :
    MayPost s := ⟨⟨h.1, h.2.1⟩, h.2.2⟩

theorem maySendBy {s : State} (h : s.control.power = true ∧ s.control.service ≠ .starting ∧ s.link.up = true ∧
    s.link.sending = none) : MaySend s := ⟨⟨h.1, h.2.1⟩, h.2.2.1, h.2.2.2⟩

/-- A condition on every place in use, checked on the list of places in use. -/
theorem everyPlace {α : Type} {t : List (Option α)} {P : Nat → α → Prop} (h : ∀ p ∈ listUsed t, P p.1 p.2) :
    ∀ i a, slotGet t i = some a → P i a := fun i a hi => h (i, a) (mem_listUsed.mpr hi)

theorem hall_programmer : ServedProgrammer hall 0x0100 (member 0) := programmerBy (by decide +kernel)
theorem foyer_programmer : ServedProgrammer foyer 0x0100 (member 0) := programmerBy (by decide +kernel)
theorem dark_programmer : ServedProgrammer dark 0x0100 (member 0) := programmerBy (by decide +kernel)
theorem hall_screen : ServedScreen hall 0x0203 1 (sta .enrolled .screen 0x0200 4 11 1 5) := screenBy (by decide +kernel)
theorem hall_screen_2 : ServedScreen hall 0x0300 2 (sta .enrolled .screen 0x0300 1 12 2 9) := screenBy (by decide +kernel)
theorem hall_monitor : Served hall 0x0400 (member 3) := servedBy (by decide +kernel)
theorem hall_suspended : Served hall 0x0500 (member 4) := servedBy (by decide +kernel)
theorem hall_mayPost : MayPost hall := mayPostBy (by decide +kernel)

/-- `hall` with one command waiting. -/
def queued (c : Instr) : State := { hall with pending := [c] }

theorem witness_EmptyQueueIdles : hall.pending = [] := rfl
theorem witness_KindValuesRead : kindOf 0x30 = some .openKeys := by decide +kernel

/-- A condition on every two places in use, checked on the list of places in use. -/
theorem everyTwo {α : Type} {t : List (Option α)} {P : Nat → Nat → α → α → Prop}
    (h : ∀ p ∈ listUsed t, ∀ q ∈ listUsed t, P p.1 q.1 p.2 q.2) :
    ∀ i j a b, slotGet t i = some a → slotGet t j = some b → P i j a b :=
  fun i j a b hi hj => h (i, a) (mem_listUsed.mpr hi) (j, b) (mem_listUsed.mpr hj)

theorem hall_capacities : Capacities (queued .crystalSecond) := by constructor <;> decide +kernel

/-- `hall` holds two records and no WAITING request. -/
theorem hall_screen_limit (c : Instr) : ScreenLimit (queued c) := fun slot =>
  have h : ((listUsed hall.grants.slots).filter fun p => p.2.station == slot).length ≤ 2 :=
    le_trans (List.length_filter_le _ _) (by decide +kernel)
  h

theorem hall_distinct (c : Instr) : StationsDistinct (queued c) where
  held := rfl
  blocks i j e f h hi hj := everyTwo (t := crew) (P := fun i j e f => i ≠ j →
    e.base.toNat + e.size ≤ f.base.toNat ∨ f.base.toNat + f.size ≤ e.base.toNat) (by decide +kernel) i j e f hi hj h
  own i e a hi ha := everyPlace (t := crew) (P := fun _ e => e.covers 2 = false) (by decide +kernel) i e hi |>
    fun h => (Option.some.inj ha : (2 : Addr) = a) ▸ h
  aligned := everyPlace (t := crew) (by decide +kernel)
  ranked := everyPlace (t := crew) (by decide +kernel)
  ranks i j e f h hi hj := everyTwo (t := crew) (P := fun i j e f => i ≠ j → e.role = .screen → f.role = .screen →
    e.rank ≠ f.rank) (by decide +kernel) i j e f hi hj h
  fingerprints i j e f h hi hj := everyTwo (t := crew) (P := fun i j e f => i ≠ j → e.fingerprint ≠ f.fingerprint)
    (by decide +kernel) i j e f hi hj h
  auditoriums i j e f h hi hj := everyTwo (t := crew) (P := fun i j e f => i ≠ j → e.role = .screen → f.role = .screen →
    e.auditorium ≠ f.auditorium) (by decide +kernel) i j e f hi hj h
  roles r := (show roleCount hall r ≤ roleLimit r by cases r <;> decide +kernel)

theorem witness_CapacitiesKept : Capacities (queued .crystalSecond) ∧ ScreenLimit (queued .crystalSecond) ∧
    StationsDistinct (queued .crystalSecond) ∧ ∃ t, step (queued .crystalSecond) = .next t :=
  ⟨hall_capacities, hall_screen_limit _, hall_distinct _, _, rfl⟩

theorem defaults_fit : settingsFit hardDefaults := by
  refine ⟨fun n h1 h2 => ?_, by decide⟩
  unfold settingFits
  interval_cases n <;> decide

theorem witness_ValuesKeptInRange :
    ValuesInRange (queued .crystalSecond) ∧ ∃ t, step (queued .crystalSecond) = .next t :=
  ⟨by
    constructor <;> first
      | exact defaults_fit
      | decide +kernel
      | exact everyPlace (t := hall.grants.slots) (by decide +kernel)
      | exact everyPlace (t := crew) (by decide +kernel), _, rfl⟩

/-- `hall`'s grant counts are the numbers of its records. -/
theorem hall_counted (c : Instr) : GrantsCounted (queued c) where
  counts _ := everyPlace (t := hall.store.table) (P := fun i e => e.grantCount = recordsNaming hall i) (by decide +kernel)
  named := everyPlace (t := hall.grants.slots) (P := fun _ r => (hall.entry r.parcel).isSome = true) (by decide +kernel)
  none h := absurd h (show ¬(Service.operating = .starting ∨ Mode.showing = .service) by decide)
  phase h := absurd rfl h
  startUpKat h := nomatch h

theorem someBy {α : Type} {o : Option α} {P : α → Prop} [DecidablePred P] (h : o.any (fun a => decide (P a)) = true) :
    ∃ a, o = some a ∧ P a := by
  cases o with
  | none => cases h
  | some a => exact ⟨a, rfl, of_decide_eq_true h⟩

/-- `hall`'s five deadlines are those of its entries and of its OPEN record. -/
theorem hall_deadlines (c : Instr) : DeadlinesMatch (queued c) where
  order := show InOrder hall.deadlines by unfold InOrder; decide +kernel
  once := show (hall.deadlines.map fun d => (d.kind, d.ref)).Nodup by decide +kernel
  starts d hd hk := someBy ((show ∀ d ∈ hall.deadlines, d.kind = .windowStart →
    (hall.entry d.ref).any (fun e => decide (e.state = .latent ∧ d.due = e.ss)) = true by decide +kernel) d hd hk)
  ends d hd hk := someBy ((show ∀ d ∈ hall.deadlines, d.kind = .windowEnd →
    (hall.entry d.ref).any (fun e => decide (e.holdsKeys = true ∧ d.due = e.es)) = true by decide +kernel) d hd hk)
  purges d hd hk := someBy ((show ∀ d ∈ hall.deadlines, d.kind = .purge →
    (hall.entry d.ref).any (fun e => decide (e.state = .lapsed)) = true by decide +kernel) d hd hk)
  spans d hd hk := someBy ((show ∀ d ∈ hall.deadlines, d.kind = .spanEnd →
    (hall.grant d.ref).any (fun r => decide (r.state = .opened ∧ d.due = r.x)) = true by decide +kernel) d hd hk)
  listed _ := everyPlace (t := hall.store.table) (P := fun i e =>
    (e.state = .latent → (⟨e.ss, .windowStart, i⟩ : Deadline) ∈ hall.deadlines) ∧
    (e.holdsKeys = true → (⟨e.es, .windowEnd, i⟩ : Deadline) ∈ hall.deadlines) ∧
    (e.state = .lapsed → e.purgeDue = false → ∃ d ∈ hall.deadlines, d.kind = .purge ∧ d.ref = i)) (by decide +kernel)
  early h := absurd rfl h
  windows := everyPlace (t := hall.store.table) (by decide +kernel)
  staged _ h := nomatch h

theorem hall_spans (c : Instr) : SpansListed (queued c) := fun _ _ =>
  everyPlace (t := hall.grants.slots) (P := fun g r => r.state = .opened →
    (⟨r.x, .spanEnd, g⟩ : Deadline) ∈ hall.deadlines) (by decide +kernel)

theorem witness_DeadlinesKeptInOrder :
    InOrder (queued .crystalSecond).deadlines ∧ GrantsCounted (queued .crystalSecond) ∧
    DeadlinesMatch (queued .crystalSecond) ∧ Capacities (queued .crystalSecond) ∧
    ListServes (queued .crystalSecond) ∧ ∃ t, step (queued .crystalSecond) = .next t :=
  ⟨(hall_deadlines _).order, hall_counted _, hall_deadlines _, hall_capacities, ⟨rfl, .inl rfl⟩, _, rfl⟩

/-- `hall` is RUNNING and OPERATING and has an OPEN record. -/
theorem witness_ExpiryListKept_spans :
    GrantsCounted (queued .crystalSecond) ∧ SpansListed (queued .crystalSecond) ∧
    (hall.clock.timeState = .running ∧ hall.control.service ≠ .starting ∧ hall.grant 0 = some (gra .opened 1 0 103500)) ∧
    ∃ t, step (queued .crystalSecond) = .next t := ⟨hall_counted _, hall_spans _, by decide +kernel, _, rfl⟩

theorem witness_ExpiryListKept :
    ExpiryListed (queued .sendExpire) ∧ ∃ t, step (queued .sendExpire) = .next t := by
  refine ⟨⟨by decide +kernel, fun g => ⟨fun h => ?_, ?_⟩, ?_⟩, _, rfl⟩
  · obtain rfl : g = 1 := List.mem_singleton.mp h
    exact ⟨gra (.expiring .withdrawn) 2 3 103000, .withdrawn, by decide +kernel, rfl⟩
  · rintro ⟨r, why, hr, hw⟩
    exact everyPlace (t := hall.grants.slots) (P := fun g r => r.state ≠ .opened → g ∈ hall.grants.expireList)
      (by decide +kernel) g r hr (by rw [hw]; exact fun hc => nomatch hc)
  · have h : ∀ d ∈ hall.deadlines, d.kind = .spanEnd → d = { due := 103500, kind := .spanEnd, ref := 0 } := by decide +kernel
    intro d hd hk
    rw [h d hd hk]
    exact ⟨gra .opened 1 0 103500, by decide +kernel, rfl⟩

theorem witness_KeysReferencedKept :
    KeysReferenced (queued .crystalSecond) ∧ ∃ t, step (queued .crystalSecond) = .next t := by
  refine ⟨fun k v hk => ?_, _, rfl⟩
  have h := everyPlace (t := hall.store.keys) (P := fun k _ => k = 0 ∨ k = 1 ∨ k = 2) (by decide +kernel) k v hk
  rcases h with rfl | rfl | rfl
  · exact ⟨0, par .live 10 1000 2000 1 1 [0, 1], by decide +kernel, by decide +kernel, by decide +kernel⟩
  · exact ⟨0, par .live 10 1000 2000 1 1 [0, 1], by decide +kernel, by decide +kernel, by decide +kernel⟩
  · exact ⟨1, par .latent 20 2000 3000 2 0 [2], by decide +kernel, by decide +kernel, by decide +kernel⟩

theorem witness_GrantsCountedKept :
    GrantsCounted (queued .sendExpire) ∧ ∃ t, step (queued .sendExpire) = .next t := ⟨hall_counted _, _, rfl⟩

theorem witness_LapseIsOneWay : ∃ t e e', exec (.parcelWithdraw 0x0100 1 (bytes [(8, 30), (1, 0)])) hall = .next t ∧
    exec .linkDown hall = .next (after .linkDown hall) ∧ hall.entry 2 = some e ∧ e.state = .lapsed ∧
    (after .linkDown hall).entry 2 = some e' ∧ hall.entry 3 = some (par .withdrawn 40 1000 2000 4 1 []) :=
  ⟨_, par .lapsed 30 100 1600 3 0 [], par .lapsed 30 100 1600 3 0 [], rfl, rfl, by decide +kernel, rfl, by decide +kernel,
    by decide +kernel⟩

theorem witness_OnlyPostingReleasesKeys : ∃ t a, exec .rewrapPosting wrapped = .next t ∧ a ∈ t.link.answers ∧
    a.code = .granted ∧ a.detail ≠ [] :=
  ⟨_, ((after .rewrapPosting wrapped).link.answers.head?).get (by decide +kernel), rfl, by decide +kernel, by decide +kernel,
    by decide +kernel⟩

/-- The holder holds the fuse mode key. -/
def keyed : State := { foyer with stations := { foyer.stations with keyHolder := some 0 } }

theorem witness_ModeChangesOnlyByItsCommands : ∃ t, exec (.modeChange 0x0100 1 [2]) keyed = .next t ∧
    t.stations.mode ≠ keyed.stations.mode := ⟨_, rfl, by decide +kernel⟩

/-- A state whose list holds one deadline, due at 9. -/
def alone (k : DeadlineKind) (i : Nat) (s : State) : State := { s with deadlines := [{ due := 9, kind := k, ref := i }] }

/-- The four kinds at the head, each due, with the entry or record it acts on: a LATENT entry, a LIVE one, a LAPSED one with
a grant and one without, an OPEN record; and a head beyond booth time. -/
theorem witness_FiringLeavesNothingDue :
    InOrder evening.deadlines ∧
    ((∀ k i s, (alone k i s).deadlines = { due := 9, kind := k, ref := i } :: []) ∧ 9 ≤ 9) ∧
    (((alone .windowStart 30 evening).entry 30).map fun e => e.state) = some .latent ∧
    (((alone .windowEnd 21 evening).entry 21).map fun e => e.holdsKeys) = some true ∧
    (((alone .purge 2 hall).entry 2).map fun e => (e.state, e.grantCount)) = some (.lapsed, 0) ∧
    (((alone .purge 6 evening).entry 6).map fun e => (e.state, e.grantCount)) = some (.lapsed, 1) ∧
    (((alone .spanEnd 3 evening).grant 3).map fun r => r.state) = some .opened ∧
    ∀ d rest, (alone .purge 6 evening).deadlines = d :: rest → 8 < d.due :=
  ⟨by unfold InOrder; decide +kernel, ⟨fun _ _ _ => rfl, le_refl 9⟩, by decide +kernel, by decide +kernel, by decide +kernel,
    by decide +kernel, by decide +kernel, fun d rest h => (List.cons.inj h).1 ▸ (by decide : 8 < 9)⟩

/-- 07 R116, R117, R118, 06 R99: one deadline of each kind, fired alone. -/
theorem test_each_kind_fires :
    ((runDeadlines 9 (alone .windowStart 30 evening)).entry 30).map (fun e => e.state) = some .live ∧
    (runDeadlines 9 (alone .windowEnd 21 evening)).deadlines =
      [{ due := 30000060 * 60 + 86400, kind := .purge, ref := 21 }] ∧
    ((runDeadlines 9 (alone .purge 6 evening)).entry 6).map (fun e => e.purgeDue) = some true ∧
    (runDeadlines 9 (alone .purge 2 hall)).entry 2 = none ∧
    (runDeadlines 9 (alone .spanEnd 3 evening)).grants.expireList = [3] := by decide +kernel

/-- Each kind of entry before a rebuild at 130,000: a LIVE one whose window has ended, a LATENT one whose window has begun,
a LAPSED and a WITHDRAWN one; two LIVE ones of `darkNight`, of which the first is purged in the same rebuild. -/
theorem witness_RebuildAgreesWithTime :
    ([0, 1, 2, 3].map fun i => (hall.entry i).map fun e => (e.state, decide (e.es ≤ 130000), decide (e.ss ≤ 130000))) =
      [some (.live, true, true), some (.latent, false, true), some (.lapsed, true, true), some (.withdrawn, true, true)] ∧
    ([2, 15].map fun i => (darkNight.entry i).map fun e => (e.holdsKeys, decide (e.es + 86400 ≤ 1800700000))) =
      [some (true, true), some (true, false)] ∧ darkNight.stations.settings.purgeDelay * 60 = 86400 := by decide +kernel

/-- 07 R122: at 130,000 the ended entry is LAPSED without references, its two slots are free, the other entries stay, the
LATENT one LIVE; PARCEL_LAPSED is raised; the key of the entry kept stays. -/
theorem test_rebuild_keeps_and_lapses :
    let t := rebuildList 130000 hall
    t.entry 0 = some { par .lapsed 10 1000 2000 1 1 [] with recordCount := 2 } ∧
    t.entry 1 = some (par .live 20 2000 3000 2 0 [2]) ∧ t.entry 2 = hall.entry 2 ∧ t.entry 3 = hall.entry 3 ∧
    t.store.keys.take 3 = [none, none, some 72] ∧ (t.source Src.parcelLapsed).status = true ∧
    [2, 33].map (fun i => (rebuildList 1800700000 darkNight).entry i) = [none, none] := by decide +kernel

theorem witness_RequestPermissions :
    (Served hall 0x0400 (member 3) ∧ permitted .noticeRead [1] (member 3).role = false) ∧
    (Served hall 0x0500 (member 4) ∧ permitted .close [] (member 4).role = true ∧ (member 4).isSuspended = true ∧
      Kind.close ≠ .status ∧ Kind.close ≠ .openKeys) ∧
    (Served hall 0x0100 (member 0) ∧ permitted .zeroize [] (member 0).role = true ∧ (member 0).isSuspended = false ∧
      Kind.zeroize ∈ serviceKinds ∧ hall.stations.mode = .showing) :=
  ⟨⟨hall_monitor, by decide +kernel⟩, ⟨hall_suspended, by decide +kernel⟩, ⟨hall_programmer.toServed, by decide +kernel⟩⟩

/-- A SEALED part. -/
def sealedHall : State := { hall with control := { hall.control with service := .sealedOff } }

theorem witness_SealedUnknownAndStranger :
    (MayPost sealedHall ∧ sealedHall.control.service = .sealedOff ∧ matchSource sealedHall 0x0400 = some (member 3) ∧
      Kind.grantList ≠ .status ∧ Kind.grantList ≠ .restart) ∧
    (MayPost hall ∧ kindOf 0x99 = none ∧ matchSource hall 0x0500 = some (member 4)) ∧
    matchSource hall 0x0204 = none ∧ matchSource hall 0x0010 = none :=
  ⟨⟨mayPostBy (by decide +kernel), by decide +kernel⟩, ⟨hall_mayPost, by decide +kernel⟩, by decide +kernel⟩

theorem witness_FrameTakeSettlesTheOldestFrame :
    (MayPost (burst 2) ∧ (burst 2).link.stored = frame 0x0400 0x10 [] :: [frame 0x0400 0x10 []] ∧
      kindOf (frame 0x0400 0x10 []).kind = some .status) ∧ kindOf (frame 0x0400 0x02 []).kind = none :=
  ⟨⟨mayPostBy (by decide +kernel), by decide +kernel⟩, by decide +kernel⟩

/-- Each clause, at the boundaries P = N + PREP, N + PREP + 1, N - LATE, N - LATE - 1. -/
theorem witness_EffectiveStartCases :
    (2000 + 900 + 1 > min (2000 + 900) 4294967295) ∧ (1879 < (if 120 > 2000 then 0 else 2000 - 120)) ∧
    ((if 120 > 2000 then 0 else 2000 - 120) ≤ 1880) ∧ 1999 < 2000 ∧ 2000 < 2001 ∧ 2000 + 900 ≤ 4294967295 ∧ 120 ≤ 120 := by
  decide +kernel

theorem witness_ExtensionAllowance : 7200 ≤ 7200 ∧ 3600 < 3601 ∧ (1 ≤ 3600 ∧ 3600 ≤ 3600) ∧ (1 ≤ 1 ∧ 1 ≤ 3600) := by decide

theorem witness_SpanEndWithinWindowAndTail :
    (match planOpen (wait 1 990) hall with | .ok p => p.parcel = 0 ∧ p.x = 100960 | .error _ => False) ∧
    hall.entry 0 = some (par .live 10 1000 2000 1 1 [0, 1]) := by
  constructor
  · have h : (match planOpen (wait 1 990) hall with | .ok p => p.parcel == 0 && p.x == 100960 | .error _ => false) = true := by
      decide +kernel
    revert h
    cases planOpen (wait 1 990) hall with
    | ok p => simp
    | error c => simp
  · decide +kernel

/-- Both cases at their boundary: 5 + 1 and 5 + 0 tokens against a burst of 6. -/
theorem witness_TokensBroughtUpToDate : 6 ≤ 5 + (1600 - 1000) / 600 ∧ 5 + (1599 - 1000) / 600 < 6 := by decide

theorem witness_SentFramesPassTheEndChecks :
    (TxFrame.body { dst := 1, src := 2, kind := 1, tag := 0, body := List.replicate 2048 7 }).length ≤ 2048 := by
  decide +kernel

theorem witness_StatusReports : MayPost hall ∧ matchSource hall 0x0500 = some (member 4) ∧ ([0] : List Byte) ≠ [] :=
  ⟨hall_mayPost, by decide +kernel⟩

theorem witness_ListingsAnswered :
    (Served hall 0x0400 (member 3) ∧ (member 3).isSuspended = false ∧ (member 3).role ≠ .screen) ∧
    (([0] : List Byte).length = 1 ∧ num [0] 0 1 < 64 ∧ num [63] 0 1 < 64) ∧
    (1 ≤ num [1] 0 1 ∧ num [13] 0 1 ≤ 13 ∧ num [12] 0 1 = 12) := ⟨⟨hall_monitor, by decide +kernel⟩, by decide +kernel⟩

theorem witness_ParcelLoadArrival : Served hall 0x0100 (member 0) := hall_programmer.toServed

/-- Both clauses: an entry with grant count 1 and one with 0. -/
theorem witness_WithdrawalOfACommittedParcel :
    ServedProgrammer hall 0x0100 (member 0) ∧ (∀ p ∈ hall.store.staging, p.parcel.id ≠ str 64 (bytes [(8, 10), (1, 1)]) 0) ∧
    (∀ id i e, (id = 10 ∧ i = 0 ∧ e = par .live 10 1000 2000 1 1 [0, 1]) ∨ (id = 20 ∧ i = 1 ∧ e = par .latent 20 2000 3000 2 0 [2]) →
      (bytes [(8, id), (1, 1)]).length = 9 ∧ num (bytes [(8, id), (1, 1)]) 8 1 < 2 ∧ hall.entry i = some e ∧
      e.id = str 64 (bytes [(8, id), (1, 1)]) 0 ∧
      ∀ j f, hall.entry j = some f → f.id = str 64 (bytes [(8, id), (1, 1)]) 0 → j = i) := by
  refine ⟨hall_programmer, by decide +kernel, ?_⟩
  rintro id i e (⟨rfl, rfl, rfl⟩ | ⟨rfl, rfl, rfl⟩)
  · refine ⟨by decide +kernel, by decide +kernel, by decide +kernel, by decide +kernel, ?_⟩
    exact everyPlace (t := hall.store.table) (P := fun j f => f.id = str 64 (bytes [(8, 10), (1, 1)]) 0 → j = 0) (by decide +kernel)
  · refine ⟨by decide +kernel, by decide +kernel, by decide +kernel, by decide +kernel, ?_⟩
    exact everyPlace (t := hall.store.table) (P := fun j f => f.id = str 64 (bytes [(8, 20), (1, 1)]) 0 → j = 1) (by decide +kernel)

/-- A staging place for the parcel with an identifier. -/
def place (id : Nat) (ph : StagingPhase) : StagingPlace where
  parcel := { id := BitVec.ofNat 64 id, feature := 5, winStart := 1700, winEnd := 1800, screens := [11],
              records := [{ track := 1, kind := .picture, sealedKey := 9 }], tag := 0 }
  answerTo := 0x0100
  tag := 49
  phase := ph

/-- `hall` with these staging places. -/
def staged (l : List StagingPlace) : State := { hall with store := { hall.store with staging := l } }

theorem staged_programmer (l : List StagingPlace) : ServedProgrammer (staged l) 0x0100 (member 0) :=
  ⟨⟨rfl, rfl, by show 0 < 16; decide, hall_programmer.source⟩, hall_programmer.role, hall_programmer.enrolled⟩

/-- Every clause: a WAITING head, a VERIFYING head, a WAITING second place, an identifier that is held nowhere. -/
theorem witness_WithdrawalOfAStagedParcel :
    (∀ l, ServedProgrammer (staged l) 0x0100 (member 0)) ∧
    (bytes [(8, 50), (1, 0)]).length = 9 ∧ num (bytes [(8, 50), (1, 0)]) 8 1 < 2 ∧
    (place 50 .waiting).parcel.id = str 64 (bytes [(8, 50), (1, 0)]) 0 ∧
    (place 50 (.verifying false)).phase = .verifying false ∧
    (place 51 .waiting).parcel.id ≠ str 64 (bytes [(8, 50), (1, 0)]) 0 ∧
    (∀ p ∈ (staged [place 50 (.answerDue .withdrawn)]).store.staging, p.parcel.id = str 64 (bytes [(8, 50), (1, 0)]) 0 →
      p.phase = .answerDue .withdrawn) ∧
    (∀ j f, (staged [place 50 (.answerDue .withdrawn)]).entry j = some f → f.id ≠ str 64 (bytes [(8, 50), (1, 0)]) 0) := by
  refine ⟨staged_programmer, by decide +kernel, by decide +kernel, by decide +kernel, rfl, by decide +kernel,
    by decide +kernel, ?_⟩
  exact everyPlace (t := hall.store.table) (P := fun _ f => f.id ≠ str 64 (bytes [(8, 50), (1, 0)]) 0) (by decide +kernel)

theorem witness_OpenAdmission : Served hall 0x0203 (.station 1 (sta .enrolled .screen 0x0200 4 11 1 5)) := hall_screen.toServed

/-- An OPEN record, an EXPIRING one, and a handle of the other screen's record. -/
theorem witness_CloseFreesTheRecord :
    (ServedScreen hall 0x0203 1 (sta .enrolled .screen 0x0200 4 11 1 5) ∧ hall.grant 0 = some (gra .opened 1 0 103500) ∧
      hall.grants.gens.getD 0 0 = num [0, 3] 1 1) ∧
    (ServedScreen hall 0x0300 2 (sta .enrolled .screen 0x0300 1 12 2 9) ∧
      hall.grant 1 = some (gra (.expiring .withdrawn) 2 3 103000) ∧ hall.grants.gens.getD 1 0 = num [1, 3] 1 1) ∧
    (∀ r, hall.grant (num [1, 3] 0 1) = some r → r.station ≠ 1) :=
  ⟨⟨hall_screen, by decide +kernel⟩, ⟨hall_screen_2, by decide +kernel⟩,
    fun r h => everyPlace (t := hall.grants.slots) (P := fun g r => g = 1 → r.station ≠ 1) (by decide +kernel) _ r h
      (by decide +kernel)⟩

/-- Both clauses: 300 seconds are added; with the extension used up, none. -/
theorem witness_ExtendMovesTheSpanEnd :
    (ServedScreen hall 0x0203 1 (sta .enrolled .screen 0x0200 4 11 1 5) ∧ hall.grant 0 = some (gra .opened 1 0 103500) ∧
      hall.entry 0 = some (par .live 10 1000 2000 1 1 [0, 1]) ∧
      103500 < min (min (103500 + min (max 1 (min 3600 300)) (7200 - 0)) 4294967295) (min (120000 + 7200) 4294967295)) ∧
    (hall.setGrant 0 (some { gra .opened 1 0 103500 with used := 7200 })).grant 0 =
      some { gra .opened 1 0 103500 with used := 7200 } ∧
    min (min (103500 + min (max 1 (min 3600 300)) (7200 - 7200)) 4294967295) (min (120000 + 7200) 4294967295) ≤ 103500 :=
  ⟨⟨hall_screen, by decide +kernel⟩, by decide +kernel⟩

/-- a = 45, a = 0 (empty budget) and a = -360, which takes booth time below the window start of a LIVE entry. -/
theorem witness_TrimApplied :
    ServedProgrammer hall 0x0100 (member 0) ∧ hall.clock.timeState = .running ∧ hall.clock.boothTime ≤ 4294967295 ∧
    (bytes [(4, 45)]).length = 4 ∧ InOrder hall.deadlines ∧ hall.attention.sources.length = 24 ∧
    appliedTrim 45 360 100000 = 45 ∧ appliedTrim 45 0 100000 = 0 ∧ appliedTrim (-500) 360 100000 = -360 ∧
    appliedTrim (-360) 360 60100 = -360 ∧ hall.entry 0 = some (par .live 10 1000 2000 1 1 [0, 1]) ∧
    59740 < (par .live 10 1000 2000 1 1 [0, 1]).ss :=
  ⟨hall_programmer, by decide +kernel, by decide +kernel, by decide +kernel, by unfold InOrder; decide +kernel, by decide +kernel⟩

/-- 07 R119: the LIVE entry returns to LATENT and its WINDOW_START at 60,000 is listed again, ahead of the others. -/
theorem test_backward_trim_lists_the_window_start_again :
    let t := after (.timeTrim 0x0100 9 (bytes [(4, 4294966936)])) { hall with clock := { hall.clock with boothTime := 60100 } }
    (t.entry 0).map (fun e => e.state) = some .latent ∧
    t.deadlines = { due := 60000, kind := .windowStart, ref := 0 } :: hall.deadlines := by decide +kernel

theorem witness_TimeSetEstablishesTime :
    ServedProgrammer dark 0x0100 (member 0) ∧ dark.stations.mode = .service ∧ dark.clock.timeState = .lost ∧
    (bytes [(4, 99000)]).length = 4 ∧ dark.attention.sources.length = 24 := ⟨dark_programmer, by decide +kernel⟩

theorem witness_EnrolTakesTheLowestFreeSlot :
    let body := enrolBody 1 0x0600 8 21 24 31
    ServedProgrammer foyer 0x0100 (member 0) ∧ (foyer.stations.mode = .service ∧ body.length = 54 ∧
    lowestFree foyer.stations.entries = some 5 ∧ roleOf (body.getD 0 0) = some .screen ∧
    roleCount foyer .screen < roleLimit .screen ∧ enrolmentValid (enrolmentOf body) = true ∧ num body 1 2 % num body 3 1 = 0 ∧
    addressCollisions (enrolmentOf body) foyer = []) ∧
    (∀ j t, foyer.station j = some t → t.fingerprint ≠ str 128 body 4 ∧
      (Role.screen = .screen → t.role = .screen → t.rank ≠ num body 21 1 ∧ t.auditorium ≠ num body 20 1)) :=
  ⟨foyer_programmer, by decide +kernel, everyPlace (t := foyer.stations.entries)
    (P := fun _ t => t.fingerprint ≠ str 128 (enrolBody 1 0x0600 8 21 24 31) 4 ∧
      (Role.screen = .screen → t.role = .screen → t.rank ≠ num (enrolBody 1 0x0600 8 21 24 31) 21 1 ∧
        t.auditorium ≠ num (enrolBody 1 0x0600 8 21 24 31) 20 1)) (by decide +kernel)⟩

/-- `foyer` with a second programming station, in slot 5. -/
def doubled (st : StationState) : State := foyer.setStation 5 (some (sta st .programming 0x0700 1 15 0 0))

/-- 08 R137: while another programming station is ENROLLED one may retire, itself included; while the other is SUSPENDED
it may not. -/
theorem test_retire_with_another_programming_station :
    said (after (.stationRetire 0x0100 1 [0]) (doubled .enrolled)) = some (.ok, []) ∧
    (after (.stationRetire 0x0100 1 [0]) (doubled .enrolled)).station 0 = none ∧
    said (after (.stationRetire 0x0100 1 [0]) (doubled .suspended)) = some (.lastProgramming, []) := by decide +kernel

theorem witness_RetireResumeAndRank_programming :
    (∀ st, ServedProgrammer (doubled st) 0x0100 (member 0) ∧
      (doubled st).station (num [0] 0 1) = some (sta .enrolled .programming 0x0100 1 1 0 0)) ∧
    (∃ f, (doubled .enrolled).station 5 = some f ∧ f.role = .programming ∧ f.state = .enrolled) ∧
    (∃ f, (doubled .suspended).station 5 = some f ∧ f.role = .programming) ∧
    ∀ j f, (doubled .suspended).station j = some f → j ≠ 0 → f.role = .programming → f.state = .suspended :=
  ⟨fun st => ⟨programmerBy (by cases st <;> decide +kernel), by cases st <;> decide +kernel⟩,
    ⟨sta .enrolled .programming 0x0700 1 15 0 0, by decide +kernel⟩,
    ⟨sta .suspended .programming 0x0700 1 15 0 0, by decide +kernel⟩,
    everyPlace (t := (doubled .suspended).stations.entries)
      (P := fun j f => j ≠ 0 → f.role = .programming → f.state = .suspended) (by decide +kernel)⟩

/-- Retirement of a screen and of the last programming station, resumption, and a rank of 31. -/
theorem witness_RetireResumeAndRank :
    ServedProgrammer foyer 0x0100 (member 0) ∧ (num [1] 0 1 < 32 ∧ foyer.station 1 = some (sta .enrolled .screen 0x0200 4 11 1 5) ∧
    foyer.station (num [0] 0 1) = some (sta .enrolled .programming 0x0100 1 1 0 0) ∧ foyer.stations.mode = .service ∧
    1 ≤ num [1, 31] 1 1 ∧ num [1, 31] 1 1 ≤ 31) ∧
    (∀ j f, foyer.station j = some f → j ≠ 0 → f.role ≠ .programming) ∧
    (∀ j f, foyer.station j = some f → j ≠ 1 → f.role = .screen → f.rank ≠ num [1, 31] 1 1) :=
  ⟨foyer_programmer, by decide +kernel,
    everyPlace (t := foyer.stations.entries) (P := fun j f => j ≠ 0 → f.role ≠ .programming) (by decide +kernel),
    everyPlace (t := foyer.stations.entries) (P := fun j f => j ≠ 1 → f.role = .screen → f.rank ≠ num [1, 31] 1 1)
      (by decide +kernel)⟩

theorem witness_SuspensionStopsAScreen :
    ServedProgrammer hall 0x0100 (member 0) ∧ (1 = num [1] 0 1 ∧ hall.station 1 = some (sta .enrolled .screen 0x0200 4 11 1 5)) :=
  ⟨hall_programmer, by decide +kernel⟩

/-- A SUSPENDED entry; a MONITOR; a second PROGRAMMING entry; the last one; the requester's own beside another. -/
theorem witness_SuspensionStopsAScreen_others :
    ((hall.station 4).map (fun e => e.state) = some .suspended ∧ (member 0).slot ≠ some 4) ∧
    ((hall.station 3).map (fun e => (e.role, e.state)) = some (.monitor, .enrolled) ∧ (member 0).slot ≠ some 3) ∧
    (∀ st, ServedProgrammer (doubled st) 0x0100 (member 0)) ∧
    (∃ f, (doubled .enrolled).station 0 = some f ∧ f.role = .programming ∧ f.state = .enrolled) ∧
    (∃ f, (doubled .enrolled).station 5 = some f ∧ f.role = .programming ∧ f.state = .enrolled) ∧
    (∀ j f, j ≠ 0 → hall.station j = some f → f.role = .programming → f.state = .suspended) ∧
    (member 0).slot = some 0 :=
  ⟨by decide +kernel, by decide +kernel, fun st => programmerBy (by cases st <;> decide +kernel),
    ⟨sta .enrolled .programming 0x0100 1 1 0 0, by decide +kernel⟩,
    ⟨sta .enrolled .programming 0x0700 1 15 0 0, by decide +kernel⟩,
    fun j f hj hf => everyPlace (t := crew) (P := fun j f => j ≠ 0 → f.role = .programming → f.state = .suspended)
      (by decide +kernel) j f hf hj, by decide +kernel⟩

/-- 08 R138, 06 R100: SELF, a second programming station, a monitor, one already SUSPENDED; FORCED_EXPIRY and the SPAN_END. -/
theorem test_suspend_others :
    said (after (.stationSuspend 0x0100 1 [0]) (doubled .enrolled)) = some (.ownEntry, []) ∧
    said (after (.stationSuspend 0x0100 1 [5]) (doubled .enrolled)) = some (.ok, [0, 0]) ∧
    ((after (.stationSuspend 0x0100 1 [3]) hall).station 3).map (fun e => e.state) = some .suspended ∧
    said (after (.stationSuspend 0x0100 1 [4]) hall) = some (.ok, [0, 0]) ∧
    ((after (.stationSuspend 0x0100 1 [1]) hall).source Src.forcedExpiry).status = true ∧
    (after (.stationSuspend 0x0100 1 [1]) hall).deadlines = hall.deadlines.tail := by decide +kernel

theorem witness_ModeKeyAndModeChange :
    ServedProgrammer hall 0x0100 (member 0) ∧ (List.replicate 16 (0 : Byte)).length = 16 ∧ [Mode.value .service] = [1] ∧
    [Mode.value .showing] = [2] := ⟨hall_programmer, by decide +kernel⟩

/-- The first and the last name, HOLD_HIGH and HOLD_LOW, TEST_INTERVAL at 0, values below, in and above the range. -/
theorem witness_SettingWriteClampsAndOrders :
    ServedProgrammer foyer 0x0100 (member 0) ∧ foyer.stations.mode = .service ∧ settingsFit foyer.stations.settings ∧
    (∀ n ∈ [1, 7, 8, 11], (bytes [(1, n), (4, 5)]).length = 5 ∧ num (bytes [(1, n), (4, 5)]) 0 1 = n ∧
      num (bytes [(1, n), (4, 5)]) 1 4 = 5) ∧
    settingFits 10 0 ∧ settingFits 1 3600 ∧ 4 < 5 ∧ (settingRange 1).2 < 3601 ∧ 59 < (settingRange 6).1 :=
  ⟨foyer_programmer, by decide +kernel, defaults_fit, by decide +kernel, Or.inr ⟨rfl, rfl⟩, Or.inl (by decide +kernel),
    by decide +kernel⟩

theorem witness_ZeroizeErases : ServedProgrammer foyer 0x0100 (member 0) ∧ foyer.stations.mode = .service ∧
    foyer.engine.job ≠ some .verify ∧ foyer.attention.sources.length = 24 := ⟨foyer_programmer, by decide +kernel⟩

theorem witness_NoticesRead :
    (Served hall 0x0400 (member 3) ∧ (member 3).isSuspended = false ∧ (member 3).role ≠ .screen ∧ hall.attention.sources.length = 24) ∧
    Served hall 0x0100 (member 0) ∧ (member 0).role = .programming :=
  ⟨⟨hall_monitor, by decide +kernel⟩, hall_programmer.toServed, by decide +kernel⟩

/-- With a threshold and with the marker; two sources, the last one disabled. -/
theorem witness_NoticesConfigured :
    ServedProgrammer hall 0x0100 (member 0) ∧ (configForm [7, 2, 0, 1, 0, 7, 23, 0, 1, 0] = none ∧
    configForm [0xFF, 1, 23, 0, 1, 0] = none ∧ hall.attention.sources.length = 24 ∧
    (configEntries [7, 2, 0, 1, 0, 7, 23, 0, 1, 0]).map (fun e => e.number) = [0, 23]) := ⟨hall_programmer, by decide +kernel⟩

/-- 10 R165, R167: a flag stays where its source stays enabled and goes where it is disabled; OK when nothing is changed by
a limit. -/
theorem test_notice_config_flags :
    let t := after (.noticeConfig 0x0100 1 [0xFF, 2, 15, 1, 1, 3, 14, 0, 0, 1])
      (raisePulse Src.grantOpened (raisePulse Src.grantExpired hall))
    (t.source Src.grantExpired).pending = true ∧ (t.source Src.grantOpened).pending = false ∧
    (said t).map (fun p => (p.1, p.2.take 1, field p.2 43 3, field p.2 46 3)) = some (.ok, [2], [0, 0, 1], [1, 1, 3]) := by
  decide +kernel

theorem witness_SelfTestAndRestartAccepted :
    (ServedProgrammer foyer 0x0100 (member 0) ∧ foyer.stations.mode = .service ∧ selfTestBusy foyer = false) ∧
    MayPost sealedHall ∧ matchSource sealedHall 0x0100 = some (member 0) ∧ (member 0).role = .programming ∧
    (member 0).isSuspended = false :=
  ⟨⟨foyer_programmer, by decide +kernel⟩, mayPostBy (by decide +kernel), by decide +kernel⟩

/-- Every decision: not for the part, stranger, overrun at 12 stored, a slot at 11 in HOLDING, a slot at 7, and the ninth slot. -/
theorem witness_HeaderDecisions :
    (∀ n, Awake (burst n)) ∧ (∀ n, (burst n).link.up = true ∧ (burst n).link.arriving = none) ∧
    hall.fuses.held.ownAddr ≠ some 0x0003 ∧ hall.fuses.held.ownAddr = some 0x0002 ∧ matchSource (burst 1) 0x0777 = none ∧
    matchSource (burst 1) 0x0200 = some (member 1) ∧ 12 ≤ (burst 12).link.stored.length ∧ (burst 11).link.stored.length < 12 ∧
    (burst 7).link.stored.length + 1 < (burst 7).stations.settings.holdHigh ∧ (burst 8).link.hold = .idle ∧
    (burst 8).stations.settings.holdHigh ≤ (burst 8).link.stored.length + 1 :=
  ⟨fun _ => awakeBy ⟨rfl, by show Service.operating ≠ .starting; decide⟩, fun _ => ⟨rfl, rfl⟩, by decide +kernel⟩

theorem witness_FrameEndJudges :
    Awake { burst 3 with link := { (burst 3).link with arriving := some { dst := 2, src := 0x0200 }, hold := .holding } } ∧
    (TxFrame.body { dst := 2, src := 0x0200, kind := 0x31, tag := 5, body := [0, 3] }).length ≤ 2048 ∧
    (List.replicate 7 (0 : Byte)).length < 8 ∧ 2056 < (List.replicate 2057 (0 : Byte)).length ∧
    (List.replicate 9 (0 : Byte)).length ≠ 8 + num (List.replicate 9 0) 2 2 ∧
    num (List.replicate 8 (0 : Byte)) 4 4 ≠ crc32 ((wholeFrame { dst := 2, src := 0x0200 } (List.replicate 8 0)).take 8) ∧
    frameGood (wholeFrame { dst := 2, src := 0x0200 } (List.replicate 8 0)) = false ∧
    (burst 3).link.stored.length < (burst 3).stations.settings.holdLow ∧
    (burst 4).stations.settings.holdLow ≤ (burst 4).link.stored.length := ⟨awakeBy ⟨rfl, by decide +kernel⟩, by decide +kernel⟩

theorem witness_HoldRepeatsOrReleases :
    Awake (burst 3) ∧ ({ (burst 3).link with hold := .holding } : LinkPort).hold = .holding ∧
    (burst 4).stations.settings.holdLow ≤ occupancy (burst 4) ∧ occupancy (burst 3) < (burst 3).stations.settings.holdLow :=
  ⟨awakeBy ⟨rfl, by decide +kernel⟩, rfl, by decide +kernel⟩

/-- A HOLD pending; an expiry; an answer; a notice. -/
theorem witness_SendsInTheArbitersOrder :
    (MaySend { hall with link := { hall.link with pendingHold := some 50 } } ∧ MaySend hall ∧ MaySend (after (.status 0x0400 9 []) foyer) ∧
      MaySend (raisePulse Src.overrun foyer)) ∧
    (hall.link.pendingHold = none ∧ hall.grants.expireList = 1 :: [] ∧ hall.grant 1 = some (gra (.expiring .withdrawn) 2 3 103000) ∧
      hall.station 2 = some (sta .enrolled .screen 0x0300 1 12 2 9)) ∧
    (foyer.grants.expireList = [] ∧ ((after (.status 0x0400 9 []) foyer).link.answers.length = 1) ∧ foyer.link.answers = [] ∧
      firstPending (raisePulse Src.overrun foyer).attention = some 7) :=
  ⟨⟨maySendBy (by decide +kernel), maySendBy (by decide +kernel), maySendBy (by decide +kernel), maySendBy (by decide +kernel)⟩,
    by decide +kernel, by decide +kernel⟩

theorem witness_SendingEndsAndLinkChanges :
    Awake hall ∧ (TxFrame.kind { dst := 2, src := 2, kind := 0x03, tag := 0, body := [] } ≠ 0x01) ∧
    ([0x02, 0x30] : List Byte).take 2 ≠ [0x00, 0x7F] ∧ (after .linkDown hall).link.up = false :=
  ⟨awakeBy (by decide +kernel), by decide +kernel⟩

/-- Counting, the last second, the wrap; awake and RUNNING; without power; LOST. -/
theorem witness_CrystalSecondCounts :
    (after .retainedLoss (after .powerLoss hall)).control.storeValid = false ∧
    hall.control.storeValid = true ∧ Awake hall ∧ hall.clock.timeState = .running ∧ hall.clock.boothTime < 4294967295 ∧
    InOrder hall.deadlines ∧ ¬Awake (after .powerLoss hall) ∧ dark.clock.timeState = .lost :=
  ⟨by decide +kernel, rfl, awakeBy (by decide +kernel), rfl, by decide +kernel, by unfold InOrder; decide +kernel,
    fun h => absurd h.1 (by decide +kernel), rfl⟩

/-- The clauses' deviations and run counts at their boundaries. -/
theorem witness_MainClockSecondAndTimeLoss :
    Awake { hall with clock := { hall.clock with driftRun := 15 } } ∧ hall.clock.ticked = true ∧
    (after (.mainClockSecond 0) hall).clock.ticked = false ∧ 200 < 201 ∧ 200 ≤ 200 ∧ 14 < 15 ∧ 15 ≤ 15 ∧
    hall.clock.timeState = .running ∧ dark.clock.timeState = .lost ∧ hall.attention.sources.length = 24 :=
  ⟨awakeBy ⟨rfl, by decide +kernel⟩, by decide +kernel⟩

/-- 03 R36: one second times an open out, sets the due flag, and loses the time; the other open is refused NO_TIME. -/
theorem test_main_clock_second :
    let s := { rush with clock := { rush.clock with uptime := 1019, driftRun := 15 }, arbiter := { rush.arbiter with lastKat := 0 },
                         stations := { rush.stations with settings := { hardDefaults with testInterval := 600 } } }
    let t := after (.mainClockSecond 201) s
    t.openQueue.due.map (fun d => d.code) = [.timeout, .noTime] ∧ t.arbiter.testDue = true ∧ t.clock.uptime = 1020 ∧
    t.clock.timeState = .lost ∧ (t.source Src.forcedExpiry).status = true ∧ t.deadlines = [] := by decide +kernel

theorem witness_WaitLimitAndPeriodicTest :
    Awake rush ∧ (∃ w ∈ ({ rush with clock := { rush.clock with uptime := 1020 } } : State).openQueue.waiting, 30 ≤ 1020 - w.arrival) ∧
    (∀ w ∈ rush.openQueue.waiting, 1019 - w.arrival < 30) := ⟨awakeBy ⟨rfl, by decide +kernel⟩, by decide +kernel, by decide +kernel⟩

/-- The five choices: a SELF_TEST; the head at 4 passes and on an idle engine; the periodic KAT; the open of rank 9. -/
theorem witness_ArbiterOrder :
    (rush.control.service = .operating ∧ rush.engine = { faulted := false, job := none, held := none } ∧ rush.arbiter.selfTest = none) ∧
    (({ foyer with arbiter := { foyer.arbiter with selfTest := some { addr := 1, tag := 1 } } } : State).arbiter.selfTest =
      some { addr := 1, tag := 1 }) ∧
    ((staged [place 50 .waiting]).store.staging = place 50 .waiting :: [] ∧ (staged [place 50 .waiting]).openQueue.waiting = [] ∧
      (staged [place 50 .waiting]).arbiter.testDue = false ∧ headWaiting (staged [place 50 .waiting]) = true) ∧
    (headWaiting rush = false ∧ rush.openQueue.waiting[1]? = some (wait 2 995) ∧ rankOf rush 1 < rankOf rush 2 ∧
      lowestFree rush.grants.slots = some 2 ∧ rush.entry 0 = some (par .live 10 1000 2000 1 1 [0, 1]) ∧
      (match planOpen (wait 2 995) rush with | .ok p => p.parcel | .error _ => 9) = 0) := by decide +kernel

/-- FAULT with and without a waiting SELF_TEST, the ENGINE_TEST phase, SEALED, a held result; a start too far ahead. -/
theorem witness_ArbiterOrder_elsewhere :
    let broken : State := { foyer with engine := { faulted := true, job := none, held := none } }
    let waits : State := { broken with arbiter := { broken.arbiter with selfTest := some { addr := 1, tag := 1 } } }
    let testing : State := { foyer with control := { foyer.control with service := .starting, phase := .engineTest } }
    broken.arbiter.selfTest = none ∧ (after .engineArbiterChoice waits).engine.job = some (.kat (.selfTest { addr := 1, tag := 1 })) ∧
    testing.engine = { faulted := false, job := none, held := none } ∧
    (after .engineArbiterChoice testing).engine.job = some (.kat .startUp) ∧ sealedHall.control.service = .sealedOff ∧
    wrapped.engine.held ≠ none ∧
    effectiveStart 100901 rush.now rush.stations.settings.prep rush.stations.settings.late = none := by decide +kernel

/-- A selection that finds no track; the steps that leave no entry, each with its code; the entry that R30 chooses. -/
theorem witness_ArbiterOrder_selection :
    (rush.openQueue.waiting[1]? = some (wait 2 995) ∧
      (match planOpen { wait 2 995 with tracks := [9] } rush with | .ok _ => none | .error c => some c) = some .noTrack) ∧
    (rush.station 2 = some (sta .enrolled .screen 0x0300 1 12 2 9) ∧ rush.clock.timeState = .running ∧
      effectiveStart 0 rush.now rush.stations.settings.prep rush.stations.settings.late = some 100000) ∧
    LostAt rush (sta .enrolled .screen 0x0300 1 12 2 9) { wait 2 995 with feature := 6 } 100000 1 ∧
    LostAt rush (sta .enrolled .screen 0x0300 1 12 2 9) (wait 2 995) 59999 3 ∧
    LostAt rush (sta .enrolled .screen 0x0300 1 12 2 9) { wait 2 995 with tracks := [9] } 100000 5 ∧
    Chosen rush (sta .enrolled .screen 0x0300 1 12 2 9) (wait 2 995) 100000 0 (par .live 10 1000 2000 1 1 [0, 1]) := by
  have left : ∀ q tracks n, (n = 4 → 60000 ≤ q ∧ q < 120000) → n = 2 ∨ n = 4 →
      LeftAfter rush (sta .enrolled .screen 0x0300 1 12 2 9) { wait 2 995 with tracks := tracks } q n 0
        (par .live 10 1000 2000 1 1 [0, 1]) := by
    intro q tracks n hq hn
    refine ⟨by decide +kernel, fun m hm => ?_⟩
    have : m ≤ 4 := by omega
    interval_cases m
    · trivial
    · exact ⟨rfl, by decide +kernel⟩
    · exact Or.inr rfl
    · exact (hq (by omega)).1
    · exact (hq (by omega)).2
  refine ⟨by decide +kernel, by decide +kernel, ⟨fun i e h => ?_, .inl rfl⟩,
    ⟨fun i e h => ?_, .inr ⟨0, _, left 59999 [] 2 (by omega) (.inl rfl)⟩⟩,
    ⟨fun i e h => ?_, .inr ⟨0, _, left 100000 [9] 4 (by omega) (.inr rfl)⟩⟩, ⟨?_, fun j f h hj => ?_⟩⟩
  · exact absurd (h.2 1 (by omega)).1
      (everyPlace (t := hall.store.table) (P := fun _ e => e.feature ≠ 6) (by decide +kernel) i e h.1)
  · exact absurd (h.2 3 (by omega)) (everyPlace (t := hall.store.table)
      (P := fun _ e => e.state = .latent ∨ e.state = .live → ¬e.ss ≤ 59999) (by decide +kernel) i e h.1 (h.2 2 (by omega)))
  · obtain ⟨r, hr, hk⟩ := h.2 5 (by omega) 9 (by decide)
    exact absurd hk (everyPlace (t := hall.store.table) (P := fun _ e => ∀ r ∈ e.refs, r.track ≠ 9) (by decide +kernel)
      i e h.1 r hr)
  · refine ⟨(left 100000 [] 4 (by omega) (.inr rfl)).1, fun m hm => ?_⟩
    by_cases h4 : m ≤ 4
    · exact (left 100000 [] 4 (by omega) (.inr rfl)).2 m h4
    · obtain rfl : m = 5 := by omega
      exact fun k hk => nomatch hk
  · exact absurd (h.2 3 (by omega)) (everyPlace (t := hall.store.table)
      (P := fun j e => j ≠ 0 → e.state = .latent ∨ e.state = .live → ¬e.ss ≤ 100000) (by decide +kernel) j f h.1 hj
      (h.2 2 (by omega)))

/-- A part whose engine has a job in flight, with the VERIFY's parcel at the head. -/
def working (p : Parcel) (j : Job) : State :=
  { staged [{ place 50 (.verifying false) with parcel := p }] with engine := { faulted := false, job := some j, held := none } }

/-- Each job; a head whose tag is the one computed, and one whose tag is not. -/
theorem witness_JobsComplete :
    let p := (place 50 (.verifying false)).parcel
    let good : Parcel := { p with records := [], tag := computedTag 0 { p with records := [] } }
    let bad : Parcel := { p with tag := computedTag 0 p + 1 }
    ((working p (.kat .periodic)).engine.job = some (.kat .periodic) ∧
      (working p (.kat (.selfTest { addr := 0x0100, tag := 6 }))).engine.job = some (.kat (.selfTest { addr := 0x0100, tag := 6 })) ∧
      (working p (.kat .startUp)).engine.job = some (.kat .startUp) ∧
      (working p (.rewrap 2 3 7 [(1, 70)])).engine.job = some (.rewrap 2 3 7 [(1, 70)])) ∧
    ((working good .verify).engine.job = some .verify ∧
      (working good .verify).store.staging = [{ place 50 (.verifying false) with parcel := good }] ∧
      (working good .verify).fuses.held.siteSecret = some 0 ∧ good.tag = computedTag 0 good ∧
      good.records.map (fun r => Config.storeForm 0 r.sealedKey) = ([] : List Key).map some) ∧
    bad.tag ≠ computedTag 0 bad ∧ hall.attention.sources.length = 24 := by
  refine ⟨⟨rfl, rfl, rfl, rfl⟩, ⟨rfl, rfl, rfl, rfl, rfl⟩, fun h => ?_, rfl⟩
  have h' : computedTag 0 (place 50 (.verifying false)).parcel + 1 = computedTag 0 (place 50 (.verifying false)).parcel := h
  generalize computedTag 0 (place 50 (.verifying false)).parcel = x at h'
  bv_omega

/-- A held result of the head parcel. -/
def verified (h : Held) (ph : StagingPhase) : State :=
  { staged [place 50 ph] with engine := { faulted := false, job := none, held := some h } }

/-- FAIL; a marked PASS; an ended one; a PASS without and with room for its key. -/
theorem witness_VerifyPostingSettles :
    (∀ h ph, MayPost (verified h ph)) ∧
    (verified .verifyFail (.verifying false)).engine.held = some .verifyFail ∧
    (place 50 (.verifying true)).phase = .verifying true ∧
    (verified (.verifyPass [9]) (.verifying false)).clock.timeState = .running ∧
    hall.clock.boothTime < (place 50 (.verifying false)).parcel.winEnd * 60 ∧
    lowestFree (verified (.verifyPass [9]) (.verifying false)).store.table = some 4 ∧
    (place 50 (.verifying false)).parcel.records.length ≤ (verified (.verifyPass [9]) (.verifying false)).freeKeySlots ∧
    ([9] : List Key).length = (place 50 (.verifying false)).parcel.records.length ∧
    ({ hall with store := { hall.store with keys := List.replicate 512 (some 1) } } : State).freeKeySlots < 1 ∧
    lowestFree hall.store.table = some 4 :=
  ⟨fun _ _ => mayPostBy ⟨rfl, by show Service.operating ≠ .starting; decide, by show 0 < 16; decide⟩, by decide +kernel⟩

/-- A full table: with nothing to reclaim, and with entry 17 of `fullHall` to reclaim. -/
theorem witness_VerifyPostingSettles_full :
    (lowestFree fullHall.store.table = none ∧ fullHall.clock.boothTime < 30020160 * 60 ∧ fullHall.clock.timeState = .running ∧
      ∀ p ∈ listUsed (List.replicate 64 (some (par .live 1 1 31000000 1 1 []))), p.2.state ≠ .lapsed) ∧
    Reclaimed fullHall 17 (par .lapsed 0 0 29997000 1188 0 []) :=
  ⟨by decide +kernel, by decide +kernel, rfl, rfl, fun j f hf hl h0 hj => everyPlace (t := fullHall.store.table)
    (P := fun j f => f.state = .lapsed → f.grantCount = 0 → j ≠ 17 → 1799820000 < f.es) (by decide +kernel) j f hf hl h0 hj |> .inl⟩

theorem witness_RewrapPostingGrantsOrDiscards :
    MayPost wrapped ∧ (wrapped.engine.held = some (.rewrapped 2 3 [(1, 70), (2, 71)] [(1, 0), (2, 0)]) ∧
    wrapped.grant 2 = some (gra (.opening { addr := 0x0200, tag := 8 }) 1 0 104000) ∧ wrapped.grants.gens.getD 2 0 = 3 ∧
    wrapped.station 1 = some (sta .enrolled .screen 0x0200 4 11 1 5) ∧ wrapped.entry 0 = some (par .live 10 1000 2000 1 1 [0, 1]) ∧
    wrapped.clock.timeState = .running ∧ wrapped.clock.boothTime < 104000) ∧
    ((wrapped.setStation 1 (some (sta .suspended .screen 0x0200 4 11 1 5))).station 1).map (fun e => e.state) = some .suspended :=
  ⟨mayPostBy (by decide +kernel), by decide +kernel, by decide +kernel⟩

theorem witness_DueAnswersPlaced :
    MayPost (staged [place 50 .waiting, place 51 (.answerDue .withdrawn)]) ∧
    (staged [place 50 .waiting, place 51 (.answerDue .withdrawn)]).store.staging = [place 50 .waiting, place 51 (.answerDue .withdrawn)] ∧
    (∀ c, (place 50 .waiting).phase ≠ .answerDue c) ∧ (place 51 (.answerDue .withdrawn)).phase = .answerDue .withdrawn :=
  ⟨mayPostBy ⟨rfl, by decide +kernel, by show 0 < 16; decide⟩, rfl, (fun c h => nomatch h), rfl⟩

/-- The six beginnings and ends of operation. -/
theorem witness_StartUpBegins :
    (after .powerLoss hall).control.power = false ∧ (after .resetLineAssert hall).control.resetLow = true ∧
    (after .resetLineAssert hall).control.power = true ∧ hall.control.power = true ∧ hall.control.resetLow = false ∧
    (after .powerOn (after .powerLoss hall)).control.phase = .begin ∧
    ((after .sendAnswer (after (.restart 0x0100 9 []) foyer)).link.sending.map fun f => (f.kind, f.body.take 2)) =
      some (0x01, [0x00, 0x7F]) := by decide +kernel

theorem witness_StartUpPhases :
    [StartPhase.fuseLoad, .retainedCheck, .clockCheck, .rebuild].map
      (fun p => ({ hall with control := { hall.control with service := .starting, phase := p } } : State).control.phase) =
      [.fuseLoad, .retainedCheck, .clockCheck, .rebuild] ∧ hall.control.storeValid = true ∧
    (after .retainedLoss (after .powerLoss hall)).control.storeValid = false ∧
    FuseCondition.corrected ∈ fuseConditions { resetFuses with serial := { value := 0, condition := .corrected } } ∧
    FuseCondition.uncorrectable ∈ fuseConditions { resetFuses with modeKey := { value := 0, condition := .uncorrectable } } ∧
    resetFuses.defaults[7 - 1]? = some { value := 9, condition := .sound } ∧ settingFits 7 9 :=
  ⟨by decide +kernel, by decide +kernel, by decide +kernel, by decide +kernel, by decide +kernel, rfl, .inl (by decide +kernel)⟩

theorem witness_StartUpEnds :
    let s : State := { hall with control := { hall.control with service := .starting, phase := .finish } }
    (s.control.phase = .finish ∧ s.attention.sources.length = 24 ∧ s.clock.timeState = .running ∧ s.control.sealing = false) ∧
    InOrder s.deadlines ∧ (after .powerLoss hall).control.power = false :=
  ⟨by decide +kernel, by unfold InOrder; decide +kernel, by decide +kernel⟩

end Sys2Proof.Tests
end

section
/-! PROOFS. What every command keeps (O6, O7): the relation `Keeps`, with one rule for each block of the state. -/

namespace Sys2Proof.Machine

/-! ## Counting the places in use -/

/-- How many places in use satisfy a condition. -/
def countWhere {α : Type} (p : α → Bool) (t : List (Option α)) : Nat := t.countP (Option.any p)

theorem listUsed_filter_length {α : Type} (p : α → Bool) (t : List (Option α)) :
    ((listUsed t).filter fun q => p q.2).length = countWhere p t := by
  rw [← List.countP_eq_length_filter, listUsed, List.countP_filterMap, countWhere]
  conv_rhs => rw [← List.zipIdx_map_fst 0 t, List.countP_map]
  congr 1
  funext ⟨o, i⟩
  cases o <;> rfl

theorem roleCount_eq (s : State) (r : Role) :
    roleCount s r = countWhere (fun e => e.role == r) s.stations.entries :=
  listUsed_filter_length (fun e : Station => e.role == r) _

theorem stationLoad_eq (slot : Nat) (s : State) : stationLoad slot s =
    countWhere (fun r => r.station == slot) s.grants.slots +
      s.openQueue.waiting.countP fun w => w.station == slot := by
  unfold stationLoad
  rw [listUsed_filter_length fun r : Grant => r.station == slot, List.countP_eq_length_filter]

@[simp] theorem countWhere_replicate_none {α : Type} (p : α → Bool) (n : Nat) :
    countWhere p (List.replicate n none) = 0 := by
  simp [countWhere, List.countP_replicate]

/-- A write trades what the place counted for what it counts now. -/
theorem countWhere_set {α : Type} (p : α → Bool) {t : List (Option α)} {i : Nat} (o : Option α) (h : i < t.length) :
    countWhere p (t.set i o) + ((slotGet t i).any p).toNat = countWhere p t + (o.any p).toNat := by
  induction t generalizing i with
  | nil => simp at h
  | cons a t ih =>
    cases i with
    | zero => cases ha : a.any p <;> cases ho : o.any p <;> simp [countWhere, ha, ho]
    | succ i =>
      have := ih (i := i) (by simpa using h)
      simp only [countWhere, List.set_cons_succ, List.countP_cons, slotGet_cons_succ] at this ⊢
      omega

/-- A write to a place in use that keeps what is counted leaves the count. -/
theorem countWhere_set_le {α : Type} (p : α → Bool) {t : List (Option α)} {i : Nat} {a : α} {o : Option α}
    (h : slotGet t i = some a) (ho : ∀ b, o = some b → p b = p a) : countWhere p (t.set i o) ≤ countWhere p t := by
  have hset := countWhere_set p o (slotGet_lt h)
  rw [h] at hset
  cases o with
  | none => simp at hset; omega
  | some b => simp [ho b rfl] at hset; omega

theorem forall_mem_modify {α : Type} {P : α → Prop} {l : List α} {n : Nat} {f : α → α} (hf : ∀ a, P a → P (f a))
    (hl : ∀ a ∈ l, P a) : ∀ a ∈ l.modify n f, P a := by
  intro a ha
  obtain ⟨i, hi⟩ := List.mem_iff_getElem?.mp ha
  rw [List.getElem?_modify] at hi
  cases hb : l[i]? with
  | none => simp [hb] at hi
  | some b =>
    have hm := hl b (List.mem_of_getElem? hb)
    simp only [hb, Option.map_eq_map, Option.map_some, Option.some.injEq] at hi
    subst hi
    split
    · exact hf b hm
    · exact hm

/-! ## What a command keeps -/

/-- The four conditions that every step keeps, each on its own: a `t` after `s` meets each that `s` meets. -/
structure Keeps (s t : State) : Prop where
  capacities : Capacities s → Capacities t
  screens : ScreenLimit s → ScreenLimit t
  stations : StationsDistinct s → StationsDistinct t
  values : ValuesInRange s → ValuesInRange t

/-- Work that keeps the conditions and places no answer, so that an answer's free place is still free after it. -/
structure Quiet (s t : State) : Prop extends Keeps s t where
  answers : t.link.answers.length ≤ s.link.answers.length

theorem Keeps.refl (s : State) : Keeps s s := ⟨id, id, id, id⟩

theorem Keeps.trans {s t u : State} (h : Keeps s t) (k : Keeps t u) : Keeps s u :=
  ⟨k.capacities ∘ h.capacities, k.screens ∘ h.screens, k.stations ∘ h.stations, k.values ∘ h.values⟩

theorem Quiet.refl (s : State) : Quiet s s := ⟨.refl s, le_rfl⟩

theorem Quiet.trans {s t u : State} (h : Quiet s t) (k : Quiet t u) : Quiet s u :=
  ⟨h.toKeeps.trans k.toKeeps, k.answers.trans h.answers⟩

theorem foldl_quiet {β : Type} (f : State → β → State) (hf : ∀ s b, Quiet s (f s b)) (l : List β) (s : State) :
    Quiet s (l.foldl f s) := by
  induction l generalizing s with
  | nil => exact .refl s
  | cons b l ih => exact (hf s b).trans (ih (f s b))

/-! ## One rule for each block -/

/-- No condition reads the queue of commands, the Deadline List, the engine or the start-up control. -/
theorem quiet_unlimited {s : State} {p : List Instr} {d : List Deadline} {e : Engine} {c : Control} :
    Quiet s { s with pending := p, deadlines := d, engine := e, control := c } :=
  ⟨⟨fun h => { h with }, id, fun h => { h with }, fun h => { h with }⟩, le_rfl⟩

/-- The levels of a list of sources lie in 1 to 7 (10 R160). -/
def LevelsFit (l : List Source) : Prop := ∀ c ∈ l, 1 ≤ c.level ∧ c.level ≤ 7

theorem quiet_attention {s : State} {a : Attention} (hn : s.attention.sources.length = 24 → a.sources.length = 24)
    (ht : s.attention.threshold ≤ 7 → a.threshold ≤ 7) (hl : LevelsFit s.attention.sources → LevelsFit a.sources) :
    Quiet s { s with attention := a } :=
  ⟨⟨fun h => { h with sources := hn h.sources }, id, fun h => { h with },
    fun h => { h with threshold := ht h.threshold, levels := hl h.levels }⟩, le_rfl⟩

theorem quiet_parcels {s : State} {t : List (Option ParcelEntry)} {k : List (Option Key)}
    (ht : t.length = s.store.table.length) (hk : k.length = s.store.keys.length) :
    Quiet s { s with store := { s.store with table := t, keys := k } } :=
  ⟨⟨fun h => { h with parcels := ht.trans h.parcels, keys := hk.trans h.keys }, id, fun h => { h with },
    fun h => { h with }⟩, le_rfl⟩

theorem quiet_staging {s : State} {l : List StagingPlace} (hl : s.store.staging.length ≤ 2 → l.length ≤ 2) :
    Quiet s { s with store := { s.store with staging := l } } :=
  ⟨⟨fun h => { h with staging := hl h.staging }, id, fun h => { h with }, fun h => { h with }⟩, le_rfl⟩

theorem quiet_ingestSeq {s : State} {n : Nat} (hn : n ≤ maxCount) :
    Quiet s { s with store := { s.store with ingestSeq := n } } :=
  ⟨⟨fun h => { h with }, id, fun h => { h with }, fun h => { h with ingestSeq := hn }⟩, le_rfl⟩

/-- The WAITING places that are left were WAITING, and no place is added. -/
theorem quiet_openQueue {s : State} {q : OpenQueue} (hw : q.waiting.Sublist s.openQueue.waiting)
    (hp : q.waiting.length + q.due.length ≤ openPlaces s) : Quiet s { s with openQueue := q } := by
  refine ⟨⟨fun h => { h with opens := hp.trans h.opens }, fun h slot => le_trans ?_ (h slot), fun h => { h with },
    fun h => { h with }⟩, le_rfl⟩
  rw [stationLoad_eq, stationLoad_eq]
  exact Nat.add_le_add_left hw.countP_le _

theorem quiet_arbiter {s : State} {a : Arbiter} (hp : s.arbiter.passOver ≤ 4 → a.passOver ≤ 4) :
    Quiet s { s with arbiter := a } :=
  ⟨⟨fun h => { h with passOver := hp h.passOver }, id, fun h => { h with }, fun h => { h with }⟩, le_rfl⟩

/-- No record is added to a station, generations stay in a byte and extensions within their limit. -/
theorem quiet_grants {s : State} {t : GrantTable} (hs : t.slots.length = s.grants.slots.length)
    (hg : t.gens.length = s.grants.gens.length)
    (hload : ∀ slot, countWhere (fun r => r.station == slot) t.slots ≤
      countWhere (fun r => r.station == slot) s.grants.slots)
    (hgens : (∀ n ∈ s.grants.gens, n ≤ 255) → ∀ n ∈ t.gens, n ≤ 255)
    (hused : (∀ g r, s.grant g = some r → r.used ≤ 7200) → ∀ g r, slotGet t.slots g = some r → r.used ≤ 7200) :
    Quiet s { s with grants := t } := by
  refine ⟨⟨fun h => { h with grants := hs.trans h.grants, gens := hg.trans h.gens },
    fun h slot => le_trans ?_ (h slot), fun h => { h with },
    fun h => { h with generations := hgens h.generations, extensions := hused h.extensions }⟩, le_rfl⟩
  rw [stationLoad_eq, stationLoad_eq]
  exact Nat.add_le_add_right (hload slot) _

/-- The clauses of `ValuesInRange` about the Booth Clock (03 Table 3.1). -/
structure ClockFits (c : BoothClock) : Prop where
  boothTime : c.boothTime ≤ maxCount
  uptime : c.uptime ≤ maxCount
  driftRun : c.driftRun ≤ 16
  trimBudget : c.trimBudget ≤ 360
  trimYear : c.trimYear ≤ 31535999
  floor : c.floor ≤ maxCount

theorem quiet_clock {s : State} {c : BoothClock} (hc : ClockFits s.clock → ClockFits c) :
    Quiet s { s with clock := c } :=
  ⟨⟨fun h => { h with }, id, fun h => { h with }, fun h => { hc { h with }, h with }⟩, le_rfl⟩

/-- The clause of `ValuesInRange` about the link counters (09 R158). -/
def CountersFit (l : LinkPort) : Prop :=
  l.good ≤ maxCount ∧ l.stranger ≤ maxCount ∧ l.overrun ≤ maxCount ∧ l.bad ≤ maxCount

theorem quiet_link {s : State} {l : LinkPort} (ha : l.answers.length ≤ s.link.answers.length)
    (ho : occupancy s ≤ 12 → occupancy { s with link := l } ≤ 12) (hc : CountersFit s.link → CountersFit l) :
    Quiet s { s with link := l } :=
  ⟨⟨fun h => { h with answers := ha.trans h.answers, receive := ho h.receive }, id, fun h => { h with },
    fun h => { h with counters := hc h.counters }⟩, ha⟩

/-- Everything of the Station Table block but its entries. -/
theorem quiet_modes {s : State} {m : Mode} {k : Option Bytes16} {n : Nat} {c : Settings}
    (hn : s.stations.mismatch ≤ 4 → n ≤ 4) (hc : ValuesInRange s → settingsFit c) :
    Quiet s { s with stations := { s.stations with mode := m, keyHolder := k, mismatch := n, settings := c } } :=
  ⟨⟨fun h => { h with mismatch := hn h.mismatch }, id, fun h => { h with },
    fun h => { h with settings := hc h }⟩, le_rfl⟩

theorem quiet_entries {s : State} {l : List (Option Station)} (hn : l.length = s.stations.entries.length)
    (hd : StationsDistinct s → StationsDistinct { s with stations := { s.stations with entries := l } })
    (ht : ValuesInRange s → ∀ i e, slotGet l i = some e → e.tokens ≤ 15) :
    Quiet s { s with stations := { s.stations with entries := l } } :=
  ⟨⟨fun h => { h with stations := hn.trans h.stations }, id, hd, fun h => { h with tokens := ht h }⟩, le_rfl⟩

theorem placeAnswer_keeps {s t : State} (a : Answer) (h : Quiet s t) (hr : MayPost s) : Keeps s (placeAnswer a t) := by
  refine h.toKeeps.trans ⟨fun k => { k with answers := ?_ }, id, fun k => { k with }, fun k => { k with }⟩
  have := h.answers; have := hr.2
  simp only [placeAnswer_link_answers, List.length_append, List.length_singleton]; omega

/-- An answer placed after quiet work, where a place was free before it. -/
theorem Quiet.reply {s t : State} (h : Quiet s t) (hr : MayPost s) (f : Frame) (r : Reply) :
    Keeps s (reply f r t) := placeAnswer_keeps _ h hr

theorem Quiet.replyLater {s t : State} (h : Quiet s t) (hr : MayPost s) (who : Requester) (k : Kind) (r : Reply) :
    Keeps s (replyLater who k r t) := placeAnswer_keeps _ h hr

end Sys2Proof.Machine
end

section
/-! PROOFS. Notice sources, parcels, grants and deadline work keep the conditions of O6 and O7. -/

namespace Sys2Proof.Machine

/-! ## Notice sources -/

theorem modSource_quiet (n : Nat) {f : Source → Source} (hf : ∀ c, (f c).level = c.level) (s : State) :
    Quiet s (s.modSource n f) :=
  quiet_attention (by simp) id (forall_mem_modify fun c hc => by rw [hf]; exact hc)

theorem raiseOne_quiet (n : Nat) (s : State) : Quiet s (raiseOne n s) := modSource_quiet n (by intro; rfl) s

theorem raisePulse_quiet (n : Nat) (s : State) : Quiet s (raisePulse n s) := raiseOne_quiet n s

theorem clearLevel_quiet (n : Nat) (s : State) : Quiet s (clearLevel n s) := modSource_quiet n (by intro; rfl) s

theorem evaluateLevel_quiet (n : Nat) (b : Bool) (s : State) : Quiet s (evaluateLevel n b s) :=
  modSource_quiet n (by intro; rfl) s

theorem raiseLevel_quiet (n : Nat) (s : State) : Quiet s (raiseLevel n s) := by
  unfold raiseLevel
  split
  · exact .refl s
  · split
    · exact (raiseOne_quiet n s).trans (raiseOne_quiet ..)
    · exact raiseOne_quiet n s

theorem followLevel_quiet (n : Nat) (b : Bool) (s : State) : Quiet s (followLevel n b s) := by
  cases b
  · exact clearLevel_quiet n s
  · exact raiseLevel_quiet n s

/-- A change of every source's flags alone keeps the levels. -/
theorem LevelsFit.map {l : List Source} {f : Source → Source} (hf : ∀ c, (f c).level = c.level) (h : LevelsFit l) :
    LevelsFit (l.map f) := by
  intro c hc
  obtain ⟨b, hb, rfl⟩ := List.mem_map.mp hc
  rw [hf]; exact h b hb

theorem flagRaised_quiet (s : State) : Quiet s { s with attention := flagRaised s.attention } :=
  quiet_attention (by simp [flagRaised]) id (.map fun _ => rfl)

theorem clearPulses_quiet (s : State) : Quiet s { s with attention := clearPulses s.attention } := by
  refine quiet_attention (by simp [clearPulses]) id fun h c hc => ?_
  obtain ⟨p, hp, rfl⟩ := List.mem_map.mp hc
  exact h p.1 (List.fst_mem_of_mem_zipIdx hp)

/-- The levels of Table 10.1 are levels. -/
theorem freshAttention_levels : LevelsFit freshAttention.sources := by unfold LevelsFit; decide

theorem takeAttentionDefaults_length {a : Attention} (h : a.sources.length = 24) :
    (takeAttentionDefaults a).sources.length = 24 := by
  simp [takeAttentionDefaults, h]; decide

theorem takeAttentionDefaults_levels (a : Attention) : LevelsFit (takeAttentionDefaults a).sources := by
  intro c hc
  obtain ⟨p, hp, rfl⟩ := List.mem_map.mp hc
  exact freshAttention_levels p.2 (List.of_mem_zip hp).2

theorem takeAttentionDefaults_threshold (a : Attention) : (takeAttentionDefaults a).threshold ≤ 7 :=
  show freshAttention.threshold ≤ 7 by decide

theorem storedLevel_fits (n v : Nat) : 1 ≤ storedLevel n v ∧ storedLevel n v ≤ 7 := by
  unfold storedLevel; split <;> omega

theorem applyEntries_length (es : List ConfigEntry) (l : List Source) : (applyEntries es l).length = l.length := by
  unfold applyEntries
  induction es generalizing l with
  | nil => rfl
  | cons e es ih => rw [List.foldl_cons, ih, List.length_modify]

theorem applyEntries_levels (es : List ConfigEntry) {l : List Source} (h : LevelsFit l) :
    LevelsFit (applyEntries es l) := by
  unfold applyEntries
  induction es generalizing l with
  | nil => exact h
  | cons e es ih => exact ih (forall_mem_modify (fun c _ => storedLevel_fits e.number e.level) h)

/-- A configuration stores levels from 1 to 7 and a threshold of at most 7 (10 R167). -/
theorem configureAttention_quiet (body : List Byte) (s : State) :
    Quiet s { s with attention := configureAttention body s.attention } := by
  unfold configureAttention
  dsimp only
  split
  · exact quiet_attention (by simp [applyEntries_length]) id (applyEntries_levels _)
  · exact quiet_attention (by simp [flagLevelSeven, applyEntries_length]) (fun _ => Nat.min_le_left ..)
      fun h => (applyEntries_levels _ h).map fun _ => rfl

/-! ## Parcels and the Deadline List -/

theorem addDeadline_quiet (d : Deadline) (s : State) : Quiet s (addDeadline d s) := quiet_unlimited

theorem dropSpanEnd_quiet (g : Nat) (s : State) : Quiet s (dropSpanEnd g s) := quiet_unlimited

theorem dropParcelDeadlines_quiet (i : Nat) (s : State) : Quiet s (dropParcelDeadlines i s) := quiet_unlimited

theorem setEntry_quiet (i : Nat) (o : Option ParcelEntry) (s : State) : Quiet s (s.setEntry i o) :=
  quiet_parcels (by simp) rfl

theorem eraseEntry_quiet (i : Nat) (s : State) : Quiet s (eraseEntry i s) := by
  unfold eraseEntry
  split
  · exact .refl s
  · exact quiet_parcels (by simp) (by simp)

theorem freeEntry_quiet (i : Nat) (s : State) : Quiet s (freeEntry i s) :=
  ((eraseEntry_quiet i s).trans (setEntry_quiet ..)).trans (dropParcelDeadlines_quiet ..)

theorem freeAtZero_quiet (i : Nat) (s : State) : Quiet s (freeAtZero i s) := by
  unfold freeAtZero
  split
  · exact .refl s
  · split
    · exact freeEntry_quiet i s
    · exact .refl s

theorem countDown_quiet (i : Nat) (s : State) : Quiet s (countDown i s) := by
  unfold countDown
  split
  · exact .refl s
  · exact (setEntry_quiet ..).trans (freeAtZero_quiet ..)

theorem countUp_quiet (i : Nat) (s : State) : Quiet s (countUp i s) := by
  unfold countUp
  split
  · exact .refl s
  · exact setEntry_quiet ..

theorem setEntryState_quiet (i : Nat) (st : ParcelState) (s : State) : Quiet s (setEntryState i st s) := by
  unfold setEntryState
  split
  · exact .refl s
  · exact setEntry_quiet ..

theorem lapseEntry_quiet (i : Nat) (s : State) : Quiet s (lapseEntry i s) :=
  ((setEntryState_quiet ..).trans (eraseEntry_quiet ..)).trans (raisePulse_quiet ..)

/-! ## Grants -/

/-- A record is freed, or written with the station it has and an extension within its limit. -/
theorem quiet_writeGrant {s : State} {g : Nat} {r : Grant} {o : Option Grant} {gens list : List Nat}
    (h : s.grant g = some r) (ho : ∀ q, o = some q → q.station = r.station ∧ (r.used ≤ 7200 → q.used ≤ 7200))
    (hn : gens.length = s.grants.gens.length) (hg : (∀ n ∈ s.grants.gens, n ≤ 255) → ∀ n ∈ gens, n ≤ 255) :
    Quiet s { s with grants := { slots := s.grants.slots.set g o, gens := gens, expireList := list } } := by
  refine quiet_grants (by simp) hn (fun slot => countWhere_set_le _ h fun q hq => by rw [(ho q hq).1]) hg
    fun hu k q hk => ?_
  rw [slotGet_set] at hk
  split at hk
  · exact (ho q hk).2 (hu g r h)
  · exact hu k q hk

theorem setGrant_quiet {s : State} {g : Nat} {r q : Grant} (h : s.grant g = some r) (hs : q.station = r.station)
    (hu : r.used ≤ 7200 → q.used ≤ 7200) : Quiet s (s.setGrant g (some q)) :=
  quiet_writeGrant h (fun p hp => by cases hp; exact ⟨hs, hu⟩) rfl id

theorem nextGen_le {n : Nat} (h : n ≤ 255) : nextGen n ≤ 255 := by unfold nextGen; split <;> omega

theorem freeGrant_quiet (g : Nat) (s : State) : Quiet s (freeGrant g s) := by
  cases h : s.grant g with
  | none => simp only [freeGrant, h]; exact .refl s
  | some r =>
    rw [freeGrant_eq h]
    refine Quiet.trans (.trans ?_ (dropSpanEnd_quiet g _)) (countDown_quiet ..)
    exact quiet_writeGrant h (fun _ hq => nomatch hq) (List.length_modify ..) (forall_mem_modify fun _ => nextGen_le)

theorem expireGrant_quiet (g : Nat) (why : Reason) (s : State) : Quiet s (expireGrant g why s) := by
  unfold expireGrant
  split
  · exact .refl s
  · rename_i r h
    refine Quiet.trans ?_ (dropSpanEnd_quiet ..)
    exact quiet_writeGrant h (fun q hq => by cases hq; exact ⟨rfl, id⟩) rfl id

theorem forceExpiry_quiet (pick : Grant → Bool) (why : Reason) (s : State) : Quiet s (forceExpiry pick why s) := by
  unfold forceExpiry
  split
  · exact .refl s
  · exact (foldl_quiet _ (fun t g => expireGrant_quiet g why t) _ s).trans (raisePulse_quiet ..)

/-! ## Firing, a backward trim, a rebuild -/

theorem fireWindowStart_quiet (i : Nat) (s : State) : Quiet s (fireWindowStart i s) := by
  unfold fireWindowStart
  split
  · split
    · exact setEntryState_quiet ..
    · exact .refl s
  · exact .refl s

theorem fireWindowEnd_quiet (i : Nat) (s : State) : Quiet s (fireWindowEnd i s) := by
  unfold fireWindowEnd
  split
  · split
    · exact (lapseEntry_quiet ..).trans (addDeadline_quiet ..)
    · exact .refl s
  · exact .refl s

theorem firePurge_quiet (i : Nat) (s : State) : Quiet s (firePurge i s) := by
  unfold firePurge
  split
  · split
    · split
      · exact freeEntry_quiet i s
      · exact setEntry_quiet ..
    · exact .refl s
  · exact .refl s

theorem fireSpanEnd_quiet (g : Nat) (s : State) : Quiet s (fireSpanEnd g s) := by
  unfold fireSpanEnd
  split
  · split
    · exact (expireGrant_quiet ..).trans (raisePulse_quiet ..)
    · exact .refl s
  · exact .refl s

theorem fireOne_quiet (d : Deadline) (s : State) : Quiet s (fireOne d s) := by
  unfold fireOne
  split
  · exact fireWindowStart_quiet ..
  · exact fireWindowEnd_quiet ..
  · exact firePurge_quiet ..
  · exact fireSpanEnd_quiet ..

theorem fireDue_quiet (fuel n : Nat) (s : State) : Quiet s (fireDue fuel n s) := by
  induction fuel generalizing s with
  | zero => exact .refl s
  | succ fuel ih =>
    unfold fireDue
    split
    · exact .refl s
    · rename_i d t _
      split
      · have htail : Quiet s { s with deadlines := t } := quiet_unlimited
        exact (htail.trans (fireOne_quiet d _)).trans (ih _)
      · exact .refl s

theorem runDeadlines_quiet (n : Nat) (s : State) : Quiet s (runDeadlines n s) := fireDue_quiet ..

theorem returnLatent_quiet (n : Nat) (s : State) : Quiet s (returnLatent n s) := by
  refine foldl_quiet _ (fun t p => ?_) _ s
  split
  · exact (setEntryState_quiet ..).trans (addDeadline_quiet ..)
  · exact .refl t

theorem rebuildLapse_quiet (n : Nat) (s : State) : Quiet s (rebuildLapse n s) := by
  unfold rebuildLapse
  exact foldl_quiet _ (fun t (p : Nat × ParcelEntry) => lapseEntry_quiet p.1 t) _ s

theorem rebuildClassify_quiet (n : Nat) (s : State) : Quiet s (rebuildClassify n s) := by
  refine foldl_quiet _ (fun t p => ?_) _ s
  split
  · exact setEntryState_quiet ..
  · exact .refl t

theorem rebuildPurge_quiet (n : Nat) (s : State) : Quiet s (rebuildPurge n s) := by
  refine foldl_quiet _ (fun t p => ?_) _ s
  split
  · exact freeEntry_quiet ..
  · exact .refl t

theorem rebuildInsert_quiet (s : State) : Quiet s (rebuildInsert s) :=
  foldl_quiet _ (fun t _ => foldl_quiet _ (fun u d => addDeadline_quiet d u) _ t) _ s

theorem rebuildList_quiet (n : Nat) (s : State) : Quiet s (rebuildList n s) := by
  have hempty : Quiet s { s with deadlines := [] } := quiet_unlimited
  exact hempty.trans ((rebuildLapse_quiet ..).trans ((rebuildClassify_quiet ..).trans
    ((rebuildPurge_quiet ..).trans (rebuildInsert_quiet _))))

end Sys2Proof.Machine
end

section
/-! PROOFS. The Link Port, the Booth Clock, the Open Queue, engine fault and time loss keep the conditions of O6 and O7. -/

namespace Sys2Proof.Machine

/-! ## The Link Port -/

theorem satAdd_le (a b : Nat) : satAdd a b ≤ maxCount := Nat.min_le_right ..

theorem armHold_quiet (s : State) : Quiet s (armHold s) := quiet_link le_rfl id id

theorem enterHold_quiet (s : State) : Quiet s (enterHold s) := by
  have hstate : Quiet s { s with link := { s.link with hold := .holding } } := quiet_link le_rfl id id
  exact (hstate.trans (armHold_quiet _)).trans (raiseLevel_quiet ..)

theorem releaseHold_quiet (s : State) : Quiet s (releaseHold s) := by
  refine Quiet.trans ?_ (clearLevel_quiet ..)
  exact quiet_link le_rfl id id

theorem occupancyRose_quiet (s : State) : Quiet s (occupancyRose s) := by
  rw [occupancyRose_eq]
  split
  · exact enterHold_quiet s
  · exact .refl s

theorem occupancyFell_quiet (s : State) : Quiet s (occupancyFell s) := by
  rw [occupancyFell_eq]
  split
  · exact releaseHold_quiet s
  · exact .refl s

theorem discardStranger_quiet (s : State) : Quiet s (discardStranger s) := by
  refine Quiet.trans ?_ (raisePulse_quiet ..)
  exact quiet_link le_rfl id fun ⟨hg, _, ho, hb⟩ => ⟨hg, satAdd_le .., ho, hb⟩

/-- A header is given the arriving slot only below 12 slots in use (09 R149). -/
theorem judgeHeader_quiet (dst src : Addr) {s : State} (h : s.link.arriving = none) :
    Quiet s (judgeHeader dst src s) := by
  unfold judgeHeader
  split
  · exact .refl s
  · split
    · exact discardStranger_quiet s
    · split
      · refine Quiet.trans ?_ (raisePulse_quiet ..)
        exact quiet_link le_rfl id fun ⟨hg, hs, _, hb⟩ => ⟨hg, hs, satAdd_le .., hb⟩
      · rename_i hfull
        refine Quiet.trans ?_ (occupancyRose_quiet _)
        refine quiet_link le_rfl (fun _ => ?_) id
        simp only [occupancy, h] at hfull ⊢
        simpa using hfull

/-- A frame that ends gives up the arriving slot, for a stored one when it is good (09 R150). -/
theorem endFrame_quiet {h : Header} (rest : List Byte) {s : State} (ha : s.link.arriving = some h) :
    Quiet s (endFrame h rest s) := by
  unfold endFrame
  dsimp only
  split
  · refine quiet_link le_rfl ?_ fun ⟨_, hs, ho, hb⟩ => ⟨satAdd_le .., hs, ho, hb⟩
    simp [occupancy, ha]
  · refine Quiet.trans (.trans ?_ (raisePulse_quiet ..)) (occupancyFell_quiet _)
    refine quiet_link le_rfl ?_ fun ⟨hg, hs, ho, _⟩ => ⟨hg, hs, ho, satAdd_le ..⟩
    simp only [occupancy]; intro hle; split at hle <;> simp <;> omega

theorem startSending_quiet (dst : Addr) (kind tag : Byte) (body : List Byte) (s : State) :
    Quiet s (startSending dst kind tag body s) := quiet_link le_rfl id id

theorem sendHoldValue_quiet (v : Nat) (s : State) : Quiet s (sendHoldValue v s) := quiet_link le_rfl id id

theorem sendExpireFor_quiet (g : Nat) (s : State) : Quiet s (sendExpireFor g s) := by
  unfold sendExpireFor
  split
  · exact (startSending_quiet ..).trans (freeGrant_quiet ..)
  · exact .refl s

/-! ## Booth time -/

theorem beNat_lt (bs : List Byte) : beNat bs < 256 ^ bs.length := by
  suffices h : ∀ a, bs.foldl (fun a b => a * 256 + b.toNat) a < (a + 1) * 256 ^ bs.length by simpa [beNat] using h 0
  induction bs with
  | nil => simp
  | cons b bs ih =>
    intro a
    have hb : b.toNat < 256 := b.isLt
    calc bs.foldl (fun a b => a * 256 + b.toNat) (a * 256 + b.toNat)
        < (a * 256 + b.toNat + 1) * 256 ^ bs.length := ih _
      _ ≤ ((a + 1) * 256) * 256 ^ bs.length := Nat.mul_le_mul_right _ (by omega)
      _ = (a + 1) * 256 ^ (b :: bs).length := by rw [List.length_cons, pow_succ]; ring

/-- A field of `len` bytes spells a number below `256 ^ len`. -/
theorem num_lt (body : List Byte) (off len : Nat) : num body off len < 256 ^ len := by
  refine (beNat_lt _).trans_le (Nat.pow_le_pow_right (by decide) ?_)
  simp [field]

/-- A four-byte field is a booth second. -/
theorem num_four_le (body : List Byte) (off : Nat) : num body off 4 ≤ maxCount :=
  Nat.le_of_lt_succ (num_lt body off 4)

theorem openWindow_quiet (s : State) : Quiet s (openWindow s) := quiet_clock fun h => { h with }

theorem noteTick_quiet (s : State) : Quiet s (noteTick s) := quiet_clock fun h => { h with }

theorem raiseFloor_quiet (s : State) : Quiet s (raiseFloor s) :=
  quiet_clock fun h => { h with floor := max_le h.floor h.boothTime }

theorem wrapTrimYear_quiet (s : State) : Quiet s (wrapTrimYear s) :=
  quiet_clock fun h => { h with trimYear := Nat.zero_le _, trimBudget := le_refl 360 }

theorem countTrimYear_quiet (s : State) : Quiet s (countTrimYear s) := by
  unfold countTrimYear
  split
  · exact wrapTrimYear_quiet s
  · rename_i hend
    exact quiet_clock fun h => { h with trimYear := Nat.lt_of_not_le hend }

theorem advanceBooth_quiet {s : State} (hlt : s.clock.boothTime < maxCount) : Quiet s (advanceBooth s) := by
  have hnext : Quiet s { s with clock := { s.clock with boothTime := s.clock.boothTime + 1 } } :=
    quiet_clock fun h => { h with boothTime := hlt }
  unfold advanceBooth
  dsimp only
  split
  · exact hnext.trans (raiseFloor_quiet _)
  · exact hnext

/-- Booth time stops at its largest value (03 R35). -/
theorem tickBooth_quiet (s : State) : Quiet s (tickBooth s) := by
  unfold tickBooth
  split
  · rename_i hrun
    dsimp only
    split
    · exact (advanceBooth_quiet hrun.2).trans (runDeadlines_quiet ..)
    · exact advanceBooth_quiet hrun.2
  · exact .refl s

theorem countUptime_quiet (s : State) : Quiet s (countUptime s) :=
  quiet_clock fun h => { h with uptime := satAdd_le _ _ }

/-- An applied trim leaves booth time between 0 and its largest value (03 R45). -/
theorem appliedTrim_booth (d : Int) (budget now : Nat) :
    ((now : Int) + appliedTrim d budget now).toNat ≤ maxCount := by
  simp only [appliedTrim, maxCount]
  omega

theorem moveBooth_quiet {a : Int} {s : State} (ha : ((s.now : Int) + a).toNat ≤ maxCount) :
    Quiet s (moveBooth a s) := by
  have hmoved : Quiet s { s with clock := { s.clock with
      boothTime := ((s.now : Int) + a).toNat, trimBudget := s.clock.trimBudget - a.natAbs } } :=
    quiet_clock fun h => { h with boothTime := ha, trimBudget := (Nat.sub_le ..).trans h.trimBudget }
  unfold moveBooth
  dsimp only
  split
  · exact hmoved.trans (raiseFloor_quiet _)
  · exact hmoved

theorem handTrim_quiet (a : Int) (s : State) : Quiet s (handTrim a s) := by
  unfold handTrim
  split
  · exact runDeadlines_quiet ..
  · split
    · exact returnLatent_quiet ..
    · exact .refl s

theorem applyTrim_quiet (d : Int) (s : State) : Quiet s (applyTrim d s) := by
  have htrim := (moveBooth_quiet (appliedTrim_booth d s.clock.trimBudget s.now)).trans
    (handTrim_quiet (appliedTrim d s.clock.trimBudget s.now) _)
  unfold applyTrim
  dsimp only
  split
  · exact htrim
  · exact htrim.trans (raisePulse_quiet ..)

theorem establishTime_quiet {v : Nat} (hv : v ≤ maxCount) (s : State) : Quiet s (establishTime v s) := by
  refine Quiet.trans (.trans ?_ (clearLevel_quiet ..)) (rebuildList_quiet ..)
  exact quiet_clock fun h => { h with boothTime := max_le hv h.floor }

/-! ## The Open Queue -/

/-- Refused places leave WAITING and stand in ANSWER_DUE instead, as many as they were (05 R71). -/
theorem refuseWaiting_quiet (pick : OpenReq → Bool) (c : Code) (s : State) : Quiet s (refuseWaiting pick c s) := by
  refine quiet_openQueue List.filter_sublist ?_
  have hsplit := List.length_eq_countP_add_countP pick (l := s.openQueue.waiting)
  simp only [List.countP_eq_length_filter] at hsplit
  simp only [List.length_append, List.length_map, openPlaces]
  simp only [Bool.not_eq_true, Bool.decide_eq_false] at hsplit
  omega

theorem timeOutOpens_quiet (s : State) : Quiet s (timeOutOpens s) := by
  unfold timeOutOpens
  split
  · exact (refuseWaiting_quiet ..).trans (raisePulse_quiet ..)
  · exact .refl s

/-- A request is admitted where a place is free and the station holds fewer than two (05 R69, 06 R91). -/
theorem queueOpen_quiet {w : OpenReq} {s : State} (hp : openPlaces s < 16) (hl : stationLoad w.station s < 2) :
    Quiet s { s with openQueue := { s.openQueue with waiting := s.openQueue.waiting ++ [w] } } := by
  refine ⟨⟨fun h => { h with opens := ?_ }, fun h slot => ?_, fun h => { h with }, fun h => { h with }⟩, le_rfl⟩
  · simp only [openPlaces, List.length_append, List.length_singleton] at hp ⊢; omega
  · have hs := h slot
    rw [stationLoad_eq] at hs hl ⊢
    simp only [List.countP_append, List.countP_singleton]
    split
    · rename_i heq
      rw [beq_iff_eq] at heq
      subst heq; omega
    · omega

/-! ## Engine fault and time loss -/

theorem setPassOver_quiet {n : Nat} (hn : n ≤ 4) (s : State) : Quiet s (setPassOver n s) := quiet_arbiter fun _ => hn

theorem refuseStaging_quiet (c : Code) (s : State) : Quiet s (refuseStaging c s) := quiet_staging (by simp)

theorem vacateHead_quiet (s : State) : Quiet s (vacateHead s) := by
  refine Quiet.trans ?_ (setPassOver_quiet (Nat.zero_le _) _)
  exact quiet_staging fun h => by rw [List.length_drop]; omega

theorem enterFault_quiet (s : State) : Quiet s (enterFault s) := by
  refine Quiet.trans (.trans (.trans (.trans ?_ (refuseWaiting_quiet ..)) (refuseStaging_quiet ..))
    (setPassOver_quiet (Nat.zero_le _) _)) (raiseLevel_quiet ..)
  exact quiet_unlimited

theorem loseTime_quiet (s : State) : Quiet s (loseTime s) := by
  refine Quiet.trans (.trans (.trans (.trans ?_ (forceExpiry_quiet ..)) (refuseWaiting_quiet ..)) quiet_unlimited)
    (raiseLevel_quiet ..)
  exact quiet_clock fun h => { h with driftRun := Nat.zero_le _ }

theorem reachDriftLimit_quiet (s : State) : Quiet s (reachDriftLimit s) := by
  have hclear : Quiet s (clearLevel Src.clockDrift { s with clock := { s.clock with driftRun := 0 } }) := by
    refine Quiet.trans ?_ (clearLevel_quiet ..)
    exact quiet_clock fun h => { h with driftRun := Nat.zero_le _ }
  unfold reachDriftLimit
  dsimp only
  split
  · exact hclear.trans (loseTime_quiet _)
  · exact hclear

/-- The drift run count returns to 0 where it would reach 16 (03 R40). -/
theorem measure_quiet (deviation : Nat) (s : State) : Quiet s (measure deviation s) := by
  rcases measure_cases deviation s with ⟨_, _, he⟩ | ⟨_, hlow, he⟩ | ⟨_, _, he⟩ <;> rw [he]
  · refine Quiet.trans ?_ (clearLevel_quiet ..)
    exact quiet_clock fun h => { h with driftRun := Nat.zero_le _ }
  · refine Quiet.trans ?_ (raiseLevel_quiet ..)
    exact quiet_clock fun h => { h with driftRun := by dsimp only; omega }
  · exact (openWindow_quiet s).trans (reachDriftLimit_quiet _)

theorem examineTestInterval_quiet (s : State) : Quiet s (examineTestInterval s) := by
  unfold examineTestInterval
  dsimp only
  split
  · exact quiet_arbiter id
  · split
    · exact quiet_arbiter id
    · exact .refl s

end Sys2Proof.Machine
end

section
/-! PROOFS. The settings' ranges and the limits of the station table, as the writes of the Station Table meet them. -/

namespace Sys2Proof.Machine

/-! ## Settings -/

/-- Every setting lies in its range; HOLD_LOW may still stand at or above HOLD_HIGH. -/
def SettingsRanged (t : Settings) : Prop := ∀ n, 1 ≤ n → n ≤ 11 → settingFits n (t.get n)

theorem Settings.get_put (t : Settings) {n m : Nat} (v : Nat) (hn : 1 ≤ n ∧ n ≤ 11) (hm : 1 ≤ m ∧ m ≤ 11) :
    (t.put n v).get m = if m = n then v else t.get m := by
  obtain ⟨_, _⟩ := hn
  obtain ⟨_, _⟩ := hm
  interval_cases n <;> interval_cases m <;> rfl

theorem clampSetting_fits {n : Nat} (v : Nat) (hn : 1 ≤ n ∧ n ≤ 11) : settingFits n (clampSetting n v) := by
  have hrange : (settingRange n).1 ≤ (settingRange n).2 := by
    obtain ⟨_, _⟩ := hn
    interval_cases n <;> decide
  unfold settingFits clampSetting
  split <;> omega

theorem SettingsRanged.put {t : Settings} (h : SettingsRanged t) {n v : Nat} (hn : 1 ≤ n ∧ n ≤ 11)
    (hv : settingFits n v) : SettingsRanged (t.put n v) := by
  intro m h1 h2
  rw [Settings.get_put t v hn ⟨h1, h2⟩]
  split
  · rename_i heq
    subst heq; exact hv
  · exact h m h1 h2

/-- Keeping HOLD_LOW below HOLD_HIGH leaves it in its range (08 R145). -/
theorem SettingsRanged.ordered {t : Settings} (h : SettingsRanged t) : settingsFit t.ordered := by
  have hhigh : 4 ≤ t.holdHigh ∧ t.holdHigh ≤ 11 := by
    simpa [settingFits, settingRange, Settings.get] using h 7 (by decide) (by decide)
  unfold Settings.ordered
  split
  · exact ⟨h.put (n := 8) (by decide) (.inl (by simp only [settingRange]; omega)), by dsimp only; omega⟩
  · exact ⟨h, by omega⟩

theorem writeSetting_fits {t : Settings} {n : Nat} (v : Nat) (hn : 1 ≤ n ∧ n ≤ 11) (h : settingsFit t) :
    settingsFit (writeSetting t n v) :=
  (SettingsRanged.put h.1 hn (clampSetting_fits v hn)).ordered

theorem hardDefaults_ranged : SettingsRanged hardDefaults := by
  intro n _ _
  unfold settingFits
  interval_cases n <;> decide

theorem defaultOf_fits (w : FuseWords) {n : Nat} (hn : 1 ≤ n ∧ n ≤ 11) : settingFits n (defaultOf w n) := by
  unfold defaultOf
  split
  · exact clampSetting_fits _ hn
  · exact hardDefaults_ranged n hn.1 hn.2

/-- The default settings are settings, whatever the fuse words hold (08 R145). -/
theorem fuseDefaults_fit (w : FuseWords) : settingsFit (fuseDefaults w) := by
  refine SettingsRanged.ordered fun n h1 h2 => ?_
  have hfit := defaultOf_fits w ⟨h1, h2⟩
  interval_cases n <;> exact hfit

theorem settingsFit.openBurst_le {t : Settings} (h : settingsFit t) : t.openBurst ≤ 15 := by
  have := h.1 5 (by decide) (by decide)
  simp only [settingFits, settingRange, Settings.get] at this
  omega

/-! ## The limits of the station table (08 R130) -/

/-- What two entries in use differ in. -/
structure Apart (e f : Station) : Prop where
  blocks : BlocksApart e f
  ranks : e.role = .screen → f.role = .screen → e.rank ≠ f.rank
  fingerprints : e.fingerprint ≠ f.fingerprint
  auditoriums : e.role = .screen → f.role = .screen → e.auditorium ≠ f.auditorium

theorem Apart.symm {e f : Station} (h : Apart e f) : Apart f e :=
  ⟨h.blocks.symm, fun hf he => (h.ranks he hf).symm, h.fingerprints.symm, fun hf he => (h.auditoriums he hf).symm⟩

/-- What an entry in use satisfies by itself, for the part's own address. -/
structure WellPlaced (own : Option Addr) (e : Station) : Prop where
  own : ∀ a, own = some a → e.covers a = false
  aligned : e.base.toNat % e.size = 0
  ranked : e.role = .screen → e.rank ≠ 0

theorem stationsDistinct_iff {s : State} : StationsDistinct s ↔
    s.fuses.held.ownAddr = s.fuses.words.ownAddr.used ∧
    (∀ i j e f, i ≠ j → s.station i = some e → s.station j = some f → Apart e f) ∧
    (∀ i e, s.station i = some e → WellPlaced s.fuses.held.ownAddr e) ∧ ∀ r, roleCount s r ≤ roleLimit r := by
  constructor
  · intro h
    exact ⟨h.held, fun i j e f hij he hf => ⟨h.blocks i j e f hij he hf, h.ranks i j e f hij he hf,
      h.fingerprints i j e f hij he hf, h.auditoriums i j e f hij he hf⟩,
      fun i e he => ⟨fun a => h.own i e a he, h.aligned i e he, h.ranked i e he⟩, h.roles⟩
  · rintro ⟨held, apart, placed, roles⟩
    exact ⟨held, fun i j e f hij he hf => (apart i j e f hij he hf).blocks, fun i e a he => (placed i e he).own a,
      fun i e he => (placed i e he).aligned, fun i e he => (placed i e he).ranked,
      fun i j e f hij he hf => (apart i j e f hij he hf).ranks,
      fun i j e f hij he hf => (apart i j e f hij he hf).fingerprints,
      fun i j e f hij he hf => (apart i j e f hij he hf).auditoriums, roles⟩

/-- The fields of an entry that the limits read, without its state, key and runtime record. -/
def plate (e : Station) : Role × Addr × Nat × Bytes16 × Nat × Nat :=
  (e.role, e.base, e.size, e.fingerprint, e.auditorium, e.rank)

theorem Apart.of_plate {e f e' f' : Station} (he : plate e' = plate e) (hf : plate f' = plate f) (h : Apart e f) :
    Apart e' f' := by
  simp only [plate, Prod.mk.injEq] at he hf
  obtain ⟨hrole, hbase, hsize, hfp, haud, hrank⟩ := he
  obtain ⟨hrole', hbase', hsize', hfp', haud', hrank'⟩ := hf
  obtain ⟨blocks, ranks, fps, auds⟩ := h
  constructor <;> simpa only [BlocksApart, *]

theorem WellPlaced.of_plate {own : Option Addr} {e e' : Station} (he : plate e' = plate e) (h : WellPlaced own e) :
    WellPlaced own e' := by
  simp only [plate, Prod.mk.injEq] at he
  obtain ⟨hrole, hbase, hsize, -, -, hrank⟩ := he
  obtain ⟨own, aligned, ranked⟩ := h
  refine ⟨fun a ha => ?_, by rwa [hbase, hsize], by rwa [hrole, hrank]⟩
  simpa only [Station.covers, hbase, hsize] using own a ha

/-- A table whose entries are told apart by the same fields meets the same limits. -/
theorem StationsDistinct.of_plates {s t : State} (hf : t.fuses = s.fuses)
    (he : t.stations.entries.map (fun o => o.map plate) = s.stations.entries.map (fun o => o.map plate))
    (h : StationsDistinct s) : StationsDistinct t := by
  obtain ⟨held, apart, placed, roles⟩ := stationsDistinct_iff.mp h
  have hplate : ∀ i e', t.station i = some e' → ∃ e, s.station i = some e ∧ plate e' = plate e := by
    intro i e' hi
    have hget : (t.station i).map plate = (s.station i).map plate := by
      unfold State.station; rw [← slotGet_map, ← slotGet_map, he]
    rw [hi, Option.map_some] at hget
    obtain ⟨e, hs, hp⟩ := Option.map_eq_some_iff.mp hget.symm
    exact ⟨e, hs, hp.symm⟩
  refine stationsDistinct_iff.mpr ⟨by rw [hf]; exact held, fun i j e f hij hi hj => ?_, fun i e hi => ?_, fun r => ?_⟩
  · obtain ⟨e₀, hi₀, hpe⟩ := hplate i e hi
    obtain ⟨f₀, hj₀, hpf⟩ := hplate j f hj
    exact (apart i j e₀ f₀ hij hi₀ hj₀).of_plate hpe hpf
  · obtain ⟨e₀, hi₀, hpe⟩ := hplate i e hi
    rw [hf]; exact (placed i e₀ hi₀).of_plate hpe
  · have hcount : ∀ l : List (Option Station), countWhere (fun e => e.role == r) l =
        (l.map fun o => o.map plate).countP (Option.any fun p => p.1 == r) := by
      intro l
      rw [List.countP_map]; unfold countWhere; congr 1; funext o; cases o <;> rfl
    rw [roleCount_eq, hcount, he, ← hcount, ← roleCount_eq]
    exact roles r

/-- A write of one slot keeps the limits when what is written meets them beside the others. -/
theorem StationsDistinct.write {s : State} {i : Nat} {o : Option Station} (h : StationsDistinct s)
    (hplaced : ∀ e, o = some e → WellPlaced s.fuses.held.ownAddr e)
    (hapart : ∀ e, o = some e → ∀ j f, j ≠ i → s.station j = some f → Apart e f)
    (hroles : ∀ r, roleCount (s.setStation i o) r ≤ roleLimit r) : StationsDistinct (s.setStation i o) := by
  obtain ⟨held, apart, placed, -⟩ := stationsDistinct_iff.mp h
  have hread : ∀ j e, (s.setStation i o).station j = some e →
      (j = i ∧ o = some e) ∨ (j ≠ i ∧ s.station j = some e) := by
    intro j e he
    rw [State.station_setStation] at he
    by_cases hij : i = j
    · subst hij
      split at he
      · exact .inl ⟨rfl, he⟩
      · rename_i hlt
        exact absurd ⟨rfl, slotGet_lt he⟩ hlt
    · exact .inr ⟨Ne.symm hij, by simpa [hij] using he⟩
  refine stationsDistinct_iff.mpr ⟨held, fun j k e f hjk he hf => ?_, fun j e he => ?_, hroles⟩
  · rcases hread j e he with ⟨rfl, hoe⟩ | ⟨hj, hse⟩ <;> rcases hread k f hf with ⟨rfl, hof⟩ | ⟨hk, hsf⟩
    · exact absurd rfl hjk
    · exact hapart e hoe k f hk hsf
    · exact (hapart f hof j e hj hse).symm
    · exact apart j k e f hjk hse hsf
  · rcases hread j e he with ⟨-, hoe⟩ | ⟨-, hse⟩
    · exact hplaced e hoe
    · exact placed j e hse

/-! ## Entries of the station table -/

theorem setStation_quiet {s : State} {i : Nat} {o : Option Station}
    (hd : StationsDistinct s → StationsDistinct (s.setStation i o))
    (ht : ValuesInRange s → ∀ e, o = some e → e.tokens ≤ 15) : Quiet s (s.setStation i o) := by
  refine quiet_entries (by simp) hd fun h j e he => ?_
  rw [slotGet_set] at he
  split at he
  · exact ht h e he
  · exact h.tokens j e he

/-- An entry written with the fields that tell it apart unchanged. -/
theorem setStation_quiet_of_plate {s : State} {i : Nat} {e e' : Station} (h : s.station i = some e)
    (hp : plate e' = plate e) (ht : ValuesInRange s → e'.tokens ≤ 15) : Quiet s (s.setStation i (some e')) := by
  refine setStation_quiet (StationsDistinct.of_plates rfl ?_) fun hv q hq => by cases hq; exact ht hv
  have hself : (s.stations.entries.map fun o => o.map plate)[i]? = some (some (plate e)) := by
    rw [List.getElem?_map, slotGet_eq_some.mp h]; rfl
  obtain ⟨hlt, hget⟩ := List.getElem?_eq_some_iff.mp hself
  rw [State.setStation_stations_entries, List.map_set, Option.map_some, hp, ← hget, List.set_getElem_self]

theorem matchSource_station {s : State} {a : Addr} {slot : Nat} {e : Station}
    (h : matchSource s a = some (.station slot e)) : s.station slot = some e := by
  unfold matchSource at h
  split at h
  · rename_i p hp
    simp only [Option.some.injEq, Sender.station.injEq] at h
    obtain ⟨rfl, rfl⟩ := h
    exact mem_listUsed.mp (List.mem_of_find?_eq_some hp)
  · split at h <;> simp at h

theorem refreshTokens_le {tokens u burst refill : Nat} {mark : Option Nat} (hb : burst ≤ 15) :
    (refreshTokens tokens mark u burst refill).1 ≤ 15 := by
  unfold refreshTokens
  split
  · exact (Nat.min_le_right ..).trans hb
  · dsimp only
    split
    · exact hb
    · dsimp only; omega

theorem putTokens_quiet {s : State} {slot : Nat} {e : Station} {k : Nat × Option Nat} (h : s.station slot = some e)
    (hk : ValuesInRange s → k.1 ≤ 15) : Quiet s (putTokens slot e k s) :=
  setStation_quiet_of_plate h rfl hk

end Sys2Proof.Machine
end

section
/-! PROOFS. Every request keeps the conditions of O6 and O7. -/

namespace Sys2Proof.Machine

/-! ## Requests -/

/-- An owner keeps the conditions when the decoder passes it a matched request. -/
def OwnerKeeps (owner : Owner) : Prop :=
  ∀ who f s, MayPost s → matchSource s f.src = some who → Keeps s (owner who f s)

/-- A checked request answers the first refusal, or acts with every check passed. -/
theorem checked_passed (f : Frame) (cs : List (Bool × Reply)) (act : State → State) (s : State) :
    (∃ r, checked f cs act s = reply f r s) ∨ ((∀ c ∈ cs, c.1 = false) ∧ checked f cs act s = act s) := by
  induction cs with
  | nil => exact .inr ⟨nofun, rfl⟩
  | cons c cs ih =>
    obtain ⟨b, r⟩ := c
    cases b
    · simpa using ih
    · exact .inl ⟨r, by simp⟩

theorem checked_keeps {f : Frame} {cs : List (Bool × Reply)} {act : State → State} {s : State} (hr : MayPost s)
    (hact : (∀ c ∈ cs, c.1 = false) → Keeps s (act s)) : Keeps s (checked f cs act s) := by
  rcases checked_passed f cs act s with ⟨r, he⟩ | ⟨hpass, he⟩ <;> rw [he]
  · exact (Quiet.refl s).reply hr f r
  · exact hact hpass

theorem settle_keeps {owner : Owner} (h : OwnerKeeps owner) (f : Frame) {s : State} (hr : MayPost s) :
    Keeps s (settle owner f s) := by
  unfold settle
  split
  · exact (discardStranger_quiet s).toKeeps
  · exact h _ f s hr (by assumption)

theorem takeRequest_keeps (k : Kind) (src : Addr) (tag : Byte) (body : List Byte) {owner : Owner}
    (h : OwnerKeeps owner) (s : State) : Keeps s (takeRequest k src tag body owner s) := by
  unfold takeRequest
  split
  · rename_i hr
    exact settle_keeps h _ (canTake_eq_true.mp hr)
  · exact .refl s

/-! ### Parcels -/

theorem ownParcelLoad_keeps : OwnerKeeps ownParcelLoad := fun who f s hr _ =>
  checked_keeps hr fun hpass => by
    have hroom : ¬2 ≤ s.store.staging.length := by
      simpa using hpass (decide (2 ≤ s.store.staging.length), refuse .ingestBusy) (by simp [loadChecks])
    refine (quiet_staging fun _ => ?_).toKeeps
    rw [List.length_append, List.length_singleton]; omega

theorem withdrawStaged_keeps (i : Nat) (p : StagingPlace) (f : Frame) {s : State} (hr : MayPost s) :
    Keeps s (withdrawStaged i p f s) := by
  have hset : ∀ q, Quiet s { s with store := { s.store with staging := s.store.staging.set i q } } :=
    fun q => quiet_staging (by simp)
  unfold withdrawStaged
  split
  · dsimp only
    split
    · exact ((hset _).trans (setPassOver_quiet (Nat.zero_le _) _)).reply hr f _
    · exact (hset _).reply hr f _
  · exact (hset _).reply hr f _
  · exact .refl s

theorem withdrawEntry_quiet (i : Nat) (e : ParcelEntry) (s : State) : Quiet s (withdrawEntry i e s) :=
  ((setEntry_quiet ..).trans (eraseEntry_quiet ..)).trans (dropParcelDeadlines_quiet ..)

theorem withdrawCommitted_keeps (i : Nat) (e : ParcelEntry) (force : Bool) (f : Frame) {s : State} (hr : MayPost s) :
    Keeps s (withdrawCommitted i e force f s) := by
  unfold withdrawCommitted
  split
  · exact (freeEntry_quiet i s).reply hr f _
  · exact ((withdrawEntry_quiet i e s).trans (forceExpiry_quiet ..)).reply hr f _

theorem ownParcelWithdraw_keeps : OwnerKeeps ownParcelWithdraw := fun who f s hr _ =>
  checked_keeps hr fun _ => by
    unfold withdraw
    dsimp only
    split
    · split
      · exact withdrawStaged_keeps _ _ f hr
      · exact .refl s
    · split
      · exact withdrawCommitted_keeps _ _ _ f hr
      · exact (Quiet.refl s).reply hr f _

/-! ### Opens and grants -/

/-- An OPEN past its checks: its tokens brought up to date, then refused or queued (05 R68, R69). -/
theorem admitOpen_keeps {slot : Nat} {e : Station} (f : Frame) {s : State} (hr : MayPost s)
    (hs : s.station slot = some e) (hl : stationLoad slot s < 2) : Keeps s (admitOpen slot e f s) := by
  unfold admitOpen
  dsimp only
  generalize hf : refreshTokens e.tokens e.mark s.clock.uptime s.stations.settings.openBurst
    s.stations.settings.openRefill = fresh
  have hle : ValuesInRange s → fresh.1 ≤ 15 := fun h => by rw [← hf]; exact refreshTokens_le h.settings.openBurst_le
  split
  · exact ((putTokens_quiet hs hle).trans (raisePulse_quiet ..)).reply hr f _
  · split
    · exact (putTokens_quiet hs hle).reply hr f _
    · rename_i hroom
      have hspent : ValuesInRange s → (spendToken fresh.1 fresh.2 s.clock.uptime).1 ≤ 15 :=
        fun h => (Nat.sub_le ..).trans (hle h)
      refine ((putTokens_quiet hs hspent).trans ?_).toKeeps
      exact queueOpen_quiet (Nat.lt_of_not_le hroom) hl

theorem ownOpen_keeps : OwnerKeeps ownOpen := fun who f s hr hm =>
  checked_keeps hr fun hpass => by
    have hload : ¬2 ≤ stationLoad (who.slot.getD 0) s := by
      simpa using hpass (decide (2 ≤ stationLoad (who.slot.getD 0) s), refuse .screenLimit) (by simp [openChecks])
    cases who with
    | station slot e => exact admitOpen_keeps f hr (matchSource_station hm) (Nat.lt_of_not_le hload)
    | boot => exact .refl s

theorem ownClose_keeps : OwnerKeeps ownClose := fun who f s hr _ =>
  checked_keeps hr fun _ => by
    unfold closeGrant
    dsimp only
    split
    · exact .refl s
    · exact (freeGrant_quiet ..).reply hr f _

theorem namedGrant_some {who : Sender} {h : Handle} {s : State} {r : Grant} (hn : namedGrant who h s = some r) :
    s.grant h.slot = some r := by
  unfold namedGrant at hn
  split at hn
  · simp at hn
  · split at hn
    · simp at hn
    · split at hn
      · rename_i hs _ _ _
        rw [hs]; exact hn
      · simp at hn

/-- The extension used stays within its limit of 7,200 (04 R61). -/
theorem extendTo_used {r : Grant} {requested : Nat} {s : State} (h : r.used ≤ 7200) :
    r.used + (extendTo r requested s - r.x) ≤ 7200 := by
  have hle : extendTo r requested s ≤ r.x + (7200 - r.used) := by
    unfold extendTo
    split
    · unfold extendedEnd allowedAddition satAdd; omega
    · omega
  omega

theorem moveSpanEnd_quiet {g : Nat} {r : Grant} {x : Nat} {s : State} (h : s.grant g = some r)
    (hu : r.used ≤ 7200 → r.used + (x - r.x) ≤ 7200) : Quiet s (moveSpanEnd g r x s) :=
  ((setGrant_quiet (q := { r with x := x, used := r.used + (x - r.x) }) h rfl hu).trans
    (dropSpanEnd_quiet ..)).trans (addDeadline_quiet ..)

theorem ownExtend_keeps : OwnerKeeps ownExtend := fun who f s hr _ =>
  checked_keeps hr fun _ => by
    unfold extendGrant
    dsimp only
    split
    · exact .refl s
    · rename_i r hn
      split
      · exact (moveSpanEnd_quiet (namedGrant_some hn) extendTo_used).reply hr f _
      · exact (Quiet.refl s).reply hr f _

/-! ### Booth time -/

theorem ownTimeTrim_keeps : OwnerKeeps ownTimeTrim := fun _ f s hr _ =>
  checked_keeps hr fun _ => (applyTrim_quiet _ s).reply hr f _

theorem ownTimeSet_keeps : OwnerKeeps ownTimeSet := fun _ f s hr _ =>
  checked_keeps hr fun _ => (establishTime_quiet (num_four_le ..) s).reply hr f _

/-! ### Stations -/

/-- The new entry's block shares no address with another when the two do not meet (08 R130). -/
theorem blocksApart_of_not_meet {e f : Station} (h : blocksMeet e.base e.size f.base f.size = false) :
    BlocksApart e f := by
  simp only [blocksMeet, Bool.and_eq_false_iff, decide_eq_false_iff_not, Nat.not_lt] at h
  exact h.symm

theorem slotsWhere_eq_nil {s : State} {hit : Station → Bool} (h : slotsWhere s hit = []) {j : Nat} {f : Station}
    (hf : s.station j = some f) : hit f = false := by
  simp only [slotsWhere, List.map_eq_nil_iff, List.filter_eq_nil_iff] at h
  simpa using h (j, f) (mem_listUsed.mpr hf)

theorem conflictCheck_passed {b : Byte} {cs : List Nat} (h : (conflictCheck b cs).1 = false) : cs = [] := by
  simpa [conflictCheck] using h

/-- What the checks of 08 R135 leave of a STATION_ENROL. -/
structure Enrollable (e : Enrolment) (r : Role) (s : State) : Prop where
  room : roleCount s r < roleLimit r
  valid : enrolmentValid e = true
  aligned : e.base.toNat % e.size = 0
  addresses : addressCollisions e s = []
  ranks : r = .screen → slotsWhere s (fun t => t.role == .screen && t.rank == e.rank) = []
  fingerprints : slotsWhere s (fun t => t.fingerprint == e.fingerprint) = []
  auditoriums : r = .screen → slotsWhere s (fun t => t.role == .screen && t.auditorium == e.auditorium) = []

theorem enrollable_of_checks {who : Sender} {f : Frame} {s : State} {r : Role}
    (hpass : ∀ c ∈ enrolChecks who f s, c.1 = false) (hrole : (enrolmentOf f.body).role = some r) :
    Enrollable (enrolmentOf f.body) r s := by
  simp only [enrolChecks, List.forall_mem_cons] at hpass
  obtain ⟨-, -, -, -, -, -, hlimit, hvalid, haligned, haddr, hrank, hfp, haud, -⟩ := hpass
  refine ⟨?_, ?_, by simpa using haligned, conflictCheck_passed haddr, fun hs => ?_, conflictCheck_passed hfp,
    fun hs => ?_⟩
  · simpa [roleIsFull, hrole] using hlimit
  · by_contra hno
    simp [hno] at hvalid
  · simpa [hrole, hs] using conflictCheck_passed hrank
  · simpa [hrole, hs] using conflictCheck_passed haud

theorem Enrollable.wellPlaced {e : Enrolment} {r : Role} {s : State} (h : Enrollable e r s) (hr : e.role = some r) :
    WellPlaced s.fuses.held.ownAddr (newStation e r s) := by
  refine ⟨fun a ha => ?_, h.aligned, fun hs => ?_⟩
  · have haddr := (List.append_eq_nil_iff.mp h.addresses).2
    rw [ha] at haddr
    by_contra hno
    dsimp only at haddr
    have hcovers : (newStation e r s).covers a = true := Bool.eq_true_of_not_eq_false hno
    exact List.cons_ne_nil _ _ ((if_pos hcovers).symm.trans haddr)
  · obtain rfl : r = .screen := hs
    have hvalid := h.valid
    simp only [enrolmentValid, hr, Bool.and_eq_true, decide_eq_true_eq] at hvalid
    show e.rank ≠ 0
    omega

theorem Enrollable.apart {e : Enrolment} {r : Role} {s : State} (h : Enrollable e r s) {j : Nat} {f : Station}
    (hf : s.station j = some f) : Apart (newStation e r s) f := by
  refine ⟨blocksApart_of_not_meet (e := newStation e r s) ?_, fun hr hs => ?_, ?_, fun hr hs => ?_⟩
  · have hmeet := (List.append_eq_nil_iff.mp h.addresses).1
    simp only [List.map_eq_nil_iff, List.filter_eq_nil_iff] at hmeet
    exact Bool.eq_false_of_not_eq_true (hmeet (j, f) (mem_listUsed.mpr hf))
  · have := slotsWhere_eq_nil (h.ranks hr) hf
    simp only [hs, beq_self_eq_true, Bool.true_and, beq_eq_false_iff_ne] at this
    exact this.symm
  · have := slotsWhere_eq_nil h.fingerprints hf
    exact (beq_eq_false_iff_ne.mp this).symm
  · have := slotsWhere_eq_nil (h.auditoriums hr) hf
    simp only [hs, beq_self_eq_true, Bool.true_and, beq_eq_false_iff_ne] at this
    exact this.symm

/-- An enrolment into a free slot keeps the station table's limits (08 R130, R136). -/
theorem enrol_quiet {e : Enrolment} {r : Role} {i : Nat} {s : State} (h : Enrollable e r s) (hr : e.role = some r)
    (hfree : lowestFree s.stations.entries = some i) : Quiet s (s.setStation i (some (newStation e r s))) := by
  refine setStation_quiet (fun hd => hd.write (fun q hq => ?_) (fun q hq j f _ hf => ?_) fun q => ?_)
    fun hv q hq => ?_
  · cases hq; exact h.wellPlaced hr
  · cases hq; exact h.apart hf
  · obtain ⟨hlt, hnone, -⟩ := lowestFree_eq_some.mp hfree
    have hcount := countWhere_set (fun t => t.role == q) (some (newStation e r s)) hlt
    have hold := hd.roles q
    have hroom := h.room
    have hrole : (newStation e r s).role = r := rfl
    simp only [hnone, Option.any_none, Option.any_some, hrole, Bool.toNat_false] at hcount
    rw [roleCount_eq] at hold hroom ⊢
    rw [State.setStation_stations_entries]
    by_cases heq : r = q
    · subst heq
      rw [beq_self_eq_true, Bool.toNat_true] at hcount; omega
    · rw [beq_eq_false_iff_ne.mpr heq, Bool.toNat_false] at hcount; omega
  · cases hq; exact hv.settings.openBurst_le

theorem ownStationEnrol_keeps : OwnerKeeps ownStationEnrol := fun who f s hr _ =>
  checked_keeps hr fun hpass => by
    unfold enrol
    dsimp only
    split
    · rename_i i r hfree hrole
      exact (enrol_quiet (enrollable_of_checks hpass hrole) hrole hfree).reply hr f _
    · exact .refl s

/-- An entry that leaves takes no limit away. -/
theorem clearStation_quiet (i : Nat) (s : State) : Quiet s (s.setStation i none) := by
  refine setStation_quiet (fun hd => hd.write nofun nofun fun r => ?_) nofun
  refine le_trans ?_ (hd.roles r)
  rw [roleCount_eq, roleCount_eq, State.setStation_stations_entries]
  cases hs : slotGet s.stations.entries i with
  | some e => exact countWhere_set_le _ hs nofun
  | none =>
    by_cases hlt : i < s.stations.entries.length
    · have := countWhere_set (fun e => e.role == r) none hlt
      rw [hs] at this
      simp at this; omega
    · rw [List.set_eq_of_length_le (by omega)]

theorem ownStationRetire_keeps : OwnerKeeps ownStationRetire := fun _ f s hr _ =>
  checked_keeps hr fun _ => (clearStation_quiet _ s).reply hr f _

theorem stopScreen_quiet (slot : Nat) (s : State) : Quiet s (stopScreen slot s) :=
  (refuseWaiting_quiet ..).trans (forceExpiry_quiet ..)

theorem suspendStation_keeps {slot : Nat} {e : Station} (f : Frame) {s : State} (hr : MayPost s)
    (h : s.station slot = some e) : Keeps s (suspendStation slot e f s) := by
  have hset : Quiet s (s.setStation slot (some { e with state := .suspended })) :=
    setStation_quiet_of_plate h rfl fun hv => hv.tokens slot e h
  unfold suspendStation
  split
  · exact (Quiet.refl s).reply hr f _
  · dsimp only
    split
    · exact (hset.trans (stopScreen_quiet ..)).reply hr f _
    · exact hset.reply hr f _

theorem ownStationSuspend_keeps : OwnerKeeps ownStationSuspend := fun _ f s hr _ =>
  checked_keeps hr fun _ => by
    unfold suspend
    split
    · exact suspendStation_keeps f hr (by assumption)
    · exact .refl s

theorem ownStationResume_keeps : OwnerKeeps ownStationResume := fun _ f s hr _ =>
  checked_keeps hr fun _ => by
    unfold resume
    split
    · rename_i e h
      have hset : Quiet s (s.setStation (slotField f.body) (some { e with state := .enrolled })) :=
        setStation_quiet_of_plate h rfl fun hv => hv.tokens _ e h
      exact hset.reply hr f _
    · exact .refl s

/-- A screen's new rank is one that no other screen holds (08 R139). -/
theorem giveRank_quiet {slot rank : Nat} {e : Station} {s : State} (h : s.station slot = some e) (hrank : rank ≠ 0)
    (hfree : rankHolders slot rank s = []) : Quiet s (s.setStation slot (some { e with rank := rank })) := by
  refine setStation_quiet (fun hd => ?_) fun hv q hq => ?_
  · obtain ⟨-, apart, placed, roles⟩ := stationsDistinct_iff.mp hd
    refine hd.write (fun q hq => ?_) (fun q hq j f hj hf => ?_) fun r => le_trans ?_ (roles r)
    · cases hq
      obtain ⟨own, aligned, -⟩ := placed slot e h
      exact ⟨own, aligned, fun _ => hrank⟩
    · cases hq
      obtain ⟨blocks, -, fps, auds⟩ := apart slot j e f (Ne.symm hj) h hf
      refine ⟨blocks, fun _ hs heq => ?_, fps, auds⟩
      simp only [rankHolders, List.map_eq_nil_iff, List.filter_eq_nil_iff] at hfree
      exact hfree (j, f) (mem_listUsed.mpr hf) (by simpa [hj, hs] using heq.symm)
    · rw [roleCount_eq, roleCount_eq]
      exact countWhere_set_le _ h fun q hq => by cases hq; rfl
  · cases hq; exact hv.tokens slot e h

theorem ownStationRank_keeps : OwnerKeeps ownStationRank := fun _ f s hr _ =>
  checked_keeps hr fun hpass => by
    simp only [rankChecks, List.forall_mem_cons] at hpass
    obtain ⟨-, -, -, hform, -, -, hfree, -⟩ := hpass
    have hrank : rankField f.body ≠ 0 := by
      intro h0
      simp only [h0, formCheck, lengthThen] at hform
      split at hform <;> simp at hform
    unfold giveRank
    split
    · rename_i e h
      exact (giveRank_quiet h hrank (conflictCheck_passed hfree)).reply hr f _
    · exact .refl s

/-! ### Modes and settings -/

theorem setHolder_quiet (k : Option Bytes16) (s : State) : Quiet s (setHolder k s) := quiet_modes id (·.settings)

theorem setMismatch_quiet {n : Nat} (hn : n ≤ 4) (s : State) : Quiet s (setMismatch n s) :=
  quiet_modes (fun _ => hn) (·.settings)

theorem changeMode_quiet (m : Mode) (s : State) : Quiet s (changeMode m s) := by
  refine Quiet.trans ?_ (raisePulse_quiet ..)
  exact quiet_modes id (·.settings)

theorem enterMode_quiet (m : Mode) (s : State) : Quiet s (enterMode m s).1 := by
  unfold enterMode
  split
  · exact .refl s
  · split
    · split
      · exact .refl s
      · exact (refuseWaiting_quiet ..).trans (changeMode_quiet ..)
    · split
      · exact .refl s
      · split
        · exact .refl s
        · exact changeMode_quiet ..

/-- Mismatches are counted up to 4 (08 R143). -/
theorem evaluateModeChange_quiet (m : Mode) (s : State) : Quiet s (evaluateModeChange m s).1 := by
  unfold evaluateModeChange
  split
  · exact setHolder_quiet none s
  · split
    · exact ((setHolder_quiet none s).trans (setMismatch_quiet (Nat.zero_le _) _)).trans (enterMode_quiet ..)
    · rename_i hlow _
      exact ((setHolder_quiet none s).trans (setMismatch_quiet (Nat.lt_of_not_le hlow) _)).trans (raisePulse_quiet ..)

theorem ownModeKey_keeps : OwnerKeeps ownModeKey := fun _ f s hr _ =>
  checked_keeps hr fun _ => (setHolder_quiet _ s).reply hr f _

theorem ownModeChange_keeps : OwnerKeeps ownModeChange := fun _ f s hr _ =>
  checked_keeps hr fun _ => by
    split
    · exact (evaluateModeChange_quiet _ s).reply hr f _
    · exact .refl s

theorem ownSettingWrite_keeps : OwnerKeeps ownSettingWrite := fun who f s hr _ =>
  checked_keeps hr fun hpass => by
    simp only [settingWriteChecks, List.forall_mem_cons] at hpass
    obtain ⟨-, -, -, -, -, hknown, hwritable, -⟩ := hpass
    simp only [knownSetting, Bool.not_eq_false', Bool.and_eq_true, decide_eq_true_eq] at hknown
    rw [decide_eq_false_iff_not] at hwritable
    refine (quiet_modes id fun h => ?_).reply hr f _
    exact writeSetting_fits _ ⟨hknown.1, by omega⟩ h.settings

/-- ZEROIZE empties the tables, takes the default settings and the attention defaults, and keeps the generations
(08 R144). -/
theorem eraseAll_quiet (s : State) : Quiet s (eraseAll s) := by
  refine ⟨⟨fun h => ?_, fun _ slot => ?_, fun h => ?_, fun h => ?_⟩, le_rfl⟩
  · exact { h with
      stations := (List.length_map ..).trans h.stations
      parcels := (List.length_map ..).trans h.parcels
      keys := (List.length_map ..).trans h.keys
      grants := (List.length_map ..).trans h.grants
      sources := takeAttentionDefaults_length h.sources
      staging := Nat.zero_le _
      opens := Nat.zero_le _
      passOver := Nat.zero_le _ }
  · rw [stationLoad_eq]; simp [eraseAll]
  · have hnone : ∀ i, (eraseAll s).station i = none := fun i => slotGet_map_none ..
    refine stationsDistinct_iff.mpr ⟨h.held, by simp [hnone], by simp [hnone], fun r => ?_⟩
    rw [roleCount_eq]; simp [eraseAll]
  · exact { h with
      extensions := fun g r hg => by simp [State.grant, eraseAll] at hg
      tokens := fun i e hi => by simp [State.station, eraseAll] at hi
      threshold := takeAttentionDefaults_threshold _
      levels := takeAttentionDefaults_levels _
      settings := h.defaults }

theorem ownZeroize_keeps : OwnerKeeps ownZeroize := fun _ f s hr _ =>
  checked_keeps hr fun _ => ((Quiet.refl s).reply hr f _).trans (eraseAll_quiet _).toKeeps

/-! ### Notices, and requests that only answer -/

theorem ownNoticeRead_keeps : OwnerKeeps ownNoticeRead := fun _ f s hr _ =>
  checked_keeps hr fun _ => by
    have hreply := (Quiet.refl s).reply hr f { code := .ok, detail := noticeReadDetail s }
    unfold readNotices
    dsimp only
    split
    · exact hreply.trans (clearPulses_quiet _).toKeeps
    · exact hreply

theorem ownNoticeConfig_keeps : OwnerKeeps ownNoticeConfig := fun _ f s hr _ =>
  checked_keeps hr fun _ => (configureAttention_quiet f.body s).reply hr f _

theorem ownSelfTest_keeps : OwnerKeeps ownSelfTest := fun _ _ _ hr _ =>
  checked_keeps hr fun _ => Quiet.toKeeps (quiet_arbiter id)

theorem ownUnknownKind_keeps : OwnerKeeps ownUnknownKind := fun _ f s hr _ => (Quiet.refl s).reply hr f _

/-- A request that answers and does nothing else. -/
theorem ownAnswer_keeps {cs : Sender → Frame → State → List (Bool × Reply)} {r : Sender → Frame → State → Reply} :
    OwnerKeeps fun who f s => checked f (cs who f s) (fun t => reply f (r who f t) t) s := fun _ f s hr _ =>
  checked_keeps hr fun _ => (Quiet.refl s).reply hr f _

theorem ownerOf_keeps (k : Kind) : OwnerKeeps (ownerOf k) := by
  cases k with
  | status | parcelList | grantList | stationList | settingRead | restart => exact ownAnswer_keeps
  | parcelLoad => exact ownParcelLoad_keeps
  | parcelWithdraw => exact ownParcelWithdraw_keeps
  | openKeys => exact ownOpen_keeps
  | close => exact ownClose_keeps
  | extend => exact ownExtend_keeps
  | timeTrim => exact ownTimeTrim_keeps
  | timeSet => exact ownTimeSet_keeps
  | stationEnrol => exact ownStationEnrol_keeps
  | stationRetire => exact ownStationRetire_keeps
  | stationSuspend => exact ownStationSuspend_keeps
  | stationResume => exact ownStationResume_keeps
  | stationRank => exact ownStationRank_keeps
  | modeKey => exact ownModeKey_keeps
  | modeChange => exact ownModeChange_keeps
  | settingWrite => exact ownSettingWrite_keeps
  | zeroize => exact ownZeroize_keeps
  | noticeRead => exact ownNoticeRead_keeps
  | noticeConfig => exact ownNoticeConfig_keeps
  | selfTest => exact ownSelfTest_keeps

/-- The row of a request kind is the take of one request by that kind's owner (log 4). -/
theorem exec_requestRow (k : Kind) (src : Addr) (tag : Byte) (body : List Byte) (s : State) :
    exec (requestRow k src tag body) s = .next (takeRequest k src tag body (ownerOf k) s) := by
  cases k <;> rfl

end Sys2Proof.Machine
end

section
/-! PROOFS. The engine, the postings and the start-up keep the conditions of O6 and O7. -/

namespace Sys2Proof.Machine

/-! ## The engine -/

/-- A fold that keeps one of its two arguments at each step ends with an element of the list. -/
theorem foldl_pick_mem {β : Type} {f : β → β → β} (hf : ∀ a b, f a b = a ∨ f a b = b) (p : β) (l : List β) :
    l.foldl f p ∈ p :: l := by
  induction l generalizing p with
  | nil => simp
  | cons b l ih =>
    have := ih (f p b)
    rw [List.foldl_cons]
    rcases hf p b with he | he <;> rw [he] at this ⊢ <;> simp only [List.mem_cons] at this ⊢ <;> tauto

theorem pickWaiting_mem {s : State} {p : Nat × OpenReq} (h : pickWaiting s = some p) :
    s.openQueue.waiting[p.1]? = some p.2 := by
  unfold pickWaiting at h
  split at h
  · simp at h
  · rename_i q l hl
    have hmem := foldl_pick_mem (f := fun a b : OpenReq × Nat =>
      if rankOf s a.1.station < rankOf s b.1.station then b else a) (fun a b => by split <;> simp) q l
    rw [← hl] at hmem
    obtain rfl := Option.some.inj h
    exact List.mk_mem_zipIdx_iff_getElem?.mp hmem

/-- An open is selected from its WAITING place, and not while the head parcel has been passed over four times
(05 R77, R78). -/
theorem choose_select {s : State} {i : Nat} {w : OpenReq} (h : choose s = .select i w) :
    s.openQueue.waiting[i]? = some w ∧ ¬(headWaiting s = true ∧ s.arbiter.passOver = 4) := by
  have hready : chooseReady s = .select i w := by
    unfold choose at h
    split at h
    · simp at h
    · split at h
      · split at h <;> simp at h
      · simp at h
      · split at h
        · split at h <;> simp at h
        · exact h
  unfold chooseReady at hready
  split at hready
  · simp at hready
  · split at hready
    · simp at hready
    · rename_i hpass
      split at hready
      · rename_i p hp
        obtain ⟨rfl, rfl⟩ := Choice.select.inj hready
        exact ⟨pickWaiting_mem hp, by simpa using hpass⟩
      · split at hready
        · simp at hready
        · split at hready <;> simp at hready

theorem startKat_quiet (cause : KatCause) (s : State) : Quiet s (startKat cause s) := by
  have hjob : Quiet s { s with engine := { s.engine with job := some (.kat cause) } } := quiet_unlimited
  exact hjob.trans (quiet_arbiter id)

theorem startVerify_quiet (s : State) : Quiet s (startVerify s) := by
  have hjob : Quiet s { s with engine := { s.engine with job := some .verify } } := quiet_unlimited
  refine Quiet.trans (hjob.trans (quiet_staging fun h => ?_)) (setPassOver_quiet (Nat.zero_le _) _)
  split
  · rename_i p rest hs
    simpa [hs] using h
  · exact Nat.zero_le _

theorem countPassOver_quiet {s : State} (h : ¬(headWaiting s = true ∧ s.arbiter.passOver = 4)) :
    Quiet s (countPassOver s) := by
  unfold countPassOver
  split
  · rename_i hw
    refine quiet_arbiter fun hle => ?_
    have : s.arbiter.passOver ≠ 4 := fun heq => h ⟨hw, heq⟩
    dsimp only; omega
  · exact .refl s

theorem countPassOver_openQueue (s : State) : (countPassOver s).openQueue = s.openQueue := by
  unfold countPassOver; split <;> rfl

/-- A WAITING place becomes a record of its station: the station's load stays as it was (06 R91). -/
theorem placeToRecord_quiet {i g : Nat} {w : OpenReq} {r : Grant} {s : State}
    (hi : s.openQueue.waiting[i]? = some w) (hg : lowestFree s.grants.slots = some g) (hst : r.station = w.station)
    (hu : r.used ≤ 7200) : Quiet s ((removeWaiting i s).setGrant g (some r)) := by
  obtain ⟨hlt, hnone, -⟩ := lowestFree_eq_some.mp hg
  obtain ⟨hil, hiw⟩ := List.getElem?_eq_some_iff.mp hi
  refine ⟨⟨fun h => { h with grants := (List.length_set ..).trans h.grants, opens := ?_ }, fun h slot => ?_,
    fun h => { h with }, fun h => { h with extensions := fun k q hq => ?_ }⟩, le_rfl⟩
  · have := h.opens
    simp only [openPlaces, State.setGrant_openQueue, removeWaiting, List.length_eraseIdx] at this ⊢
    split <;> omega
  · refine le_trans (le_of_eq ?_) (h slot)
    have hset := countWhere_set (fun q => q.station == slot) (some r) hlt
    have herase := (List.getElem_cons_eraseIdx_perm hil).countP_eq (fun w => w.station == slot)
    rw [hiw, List.countP_cons] at herase
    rw [stationLoad_eq, stationLoad_eq, State.setGrant_grants_slots, State.setGrant_openQueue]
    simp only [hnone, Option.any_none, Option.any_some, Bool.toNat_false, hst] at hset
    have hcount : (w.station == slot).toNat = if (w.station == slot) = true then 1 else 0 := by
      cases w.station == slot <;> rfl
    rw [hcount] at hset
    simp only [removeWaiting]
    omega
  · rw [State.grant_setGrant] at hq
    split at hq
    · cases hq; exact hu
    · exact h.extensions k q hq

theorem startRewrap_quiet {i g : Nat} {w : OpenReq} {s : State} (p : OpenPlan)
    (hi : s.openQueue.waiting[i]? = some w) (hg : lowestFree s.grants.slots = some g) :
    Quiet s (startRewrap g w p (removeWaiting i s)) := by
  refine Quiet.trans (.trans ?_ (countUp_quiet p.parcel _)) quiet_unlimited
  exact placeToRecord_quiet hi hg rfl (Nat.zero_le _)

/-- A place refused at selection is as many in ANSWER_DUE as it was in WAITING (05 R80). -/
theorem refusePlace_quiet {i : Nat} {w : OpenReq} {s : State} (c : Code) (hi : s.openQueue.waiting[i]? = some w) :
    Quiet s (refusePlace i w c s) := by
  obtain ⟨hlt, -⟩ := List.getElem?_eq_some_iff.mp hi
  refine quiet_openQueue (List.eraseIdx_sublist ..) ?_
  simp only [openPlaces, removeWaiting, List.length_eraseIdx, List.length_append, List.length_singleton, if_pos hlt]
  omega

theorem selectOpen_quiet {i : Nat} {w : OpenReq} {s : State} (hi : s.openQueue.waiting[i]? = some w) :
    Quiet s (selectOpen i w s).1 := by
  unfold selectOpen
  split
  · exact refusePlace_quiet _ hi
  · split
    · exact startRewrap_quiet _ hi (by assumption)
    · exact .refl s

theorem arbitrate_quiet (fuel : Nat) (s : State) : Quiet s (arbitrate fuel s) := by
  induction fuel generalizing s with
  | zero => exact .refl s
  | succ fuel ih =>
    unfold arbitrate
    split
    · exact .refl s
    · exact startKat_quiet _ s
    · exact startVerify_quiet s
    · rename_i i w hc
      obtain ⟨hi, hpass⟩ := choose_select hc
      have hselect : Quiet s (selectOpen i w (countPassOver s)).1 :=
        (countPassOver_quiet hpass).trans (selectOpen_quiet (by rw [countPassOver_openQueue]; exact hi))
      dsimp only
      split
      · exact hselect
      · exact hselect.trans (ih _)

theorem endKat_quiet (s : State) : Quiet s (endKat s) := by
  have hjob : Quiet s { s with engine := { s.engine with job := none } } := quiet_unlimited
  exact hjob.trans (quiet_arbiter id)

theorem leaveFault_quiet (s : State) : Quiet s (leaveFault s) := by
  refine Quiet.trans ?_ (clearLevel_quiet ..)
  exact quiet_unlimited

theorem holdResult_quiet (h : Held) (s : State) : Quiet s (holdResult h s) := quiet_unlimited

theorem completeKat_quiet (pass : Bool) (s : State) : Quiet s (completeKat pass s) := by
  unfold completeKat
  split
  · refine (endKat_quiet s).trans ?_
    generalize endKat s = t
    dsimp only
    split
    · cases pass
      · exact enterFault_quiet t
      · exact .refl t
    · refine Quiet.trans ?_ (raisePulse_quiet ..)
      cases pass
      · exact (enterFault_quiet t).trans (holdResult_quiet ..)
      · exact (leaveFault_quiet t).trans (holdResult_quiet ..)
    · refine Quiet.trans (.trans ?_ (openWindow_quiet _)) quiet_unlimited
      cases pass
      · exact enterFault_quiet t
      · exact .refl t
  · exact .refl s

theorem completeVerify_quiet (s : State) : Quiet s (completeVerify s) := by
  unfold completeVerify
  split
  · exact quiet_unlimited
  · exact .refl s

theorem completeRewrap_quiet (s : State) : Quiet s (completeRewrap s) := by
  unfold completeRewrap
  split
  · exact quiet_unlimited
  · exact .refl s

/-! ## Postings -/

theorem commitGrant_quiet {g : Nat} {r : Grant} {s : State} (h : s.grant g = some r) :
    Quiet s (commitGrant g r s) := by
  refine Quiet.trans (.trans ?_ (addDeadline_quiet ..)) (raisePulse_quiet ..)
  exact setGrant_quiet h rfl fun _ => Nat.zero_le _

theorem postRewrap_keeps {s : State} (hr : MayPost s) : Keeps s (postRewrap s) := by
  unfold postRewrap
  split
  · have hdone : Quiet s { s with engine := { s.engine with held := none } } := quiet_unlimited
    dsimp only
    split
    · rename_i r hg
      split
      · split
        · split
          · exact (hdone.trans (freeGrant_quiet ..)).replyLater hr ..
          · exact (hdone.trans (commitGrant_quiet hg)).replyLater hr ..
        · exact hdone.toKeeps
      · exact hdone.toKeeps
    · exact hdone.toKeeps
  · exact .refl s

theorem postSelfTest_keeps {s : State} (hr : MayPost s) : Keeps s (postSelfTest s) := by
  unfold postSelfTest
  split
  · exact Quiet.replyLater quiet_unlimited hr ..
  · exact Quiet.replyLater quiet_unlimited hr ..
  · exact .refl s

theorem answerOpenDue_keeps {s : State} (hr : MayPost s) : Keeps s (answerOpenDue s) := by
  unfold answerOpenDue
  split
  · exact .refl s
  · rename_i d rest hd
    have htail : Quiet s { s with openQueue := { s.openQueue with due := rest } } :=
      quiet_openQueue (List.Sublist.refl s.openQueue.waiting) (by simp [openPlaces, hd])
    exact htail.replyLater hr ..

theorem answerStaging_keeps {s : State} (hr : MayPost s) : Keeps s (answerStaging s) := by
  unfold answerStaging
  split
  · exact .refl s
  · rename_i i p c _
    have herase : Quiet s { s with store := { s.store with staging := s.store.staging.eraseIdx i } } :=
      quiet_staging fun h => (List.eraseIdx_sublist ..).length_le.trans h
    refine Quiet.replyLater ?_ hr ..
    split
    · exact herase.trans (setPassOver_quiet (Nat.zero_le _) _)
    · exact herase

theorem writeKeys_length (slots : List Nat) (ks : List Key) (keys : List (Option Key)) :
    (writeKeys slots ks keys).length = keys.length := by
  unfold writeKeys
  induction slots.zip ks generalizing keys with
  | nil => rfl
  | cons p l ih => rw [List.foldl_cons, ih, List.length_set]

theorem makeRoom_quiet (s : State) : Quiet s (makeRoom s) := by
  unfold makeRoom reclaim
  split
  · split
    · exact freeEntry_quiet ..
    · exact .refl s
  · exact .refl s

theorem commitParcel_quiet (i : Nat) (p : Parcel) (ks : List Key) (s : State) :
    Quiet s (commitParcel i p ks s).1 := by
  refine Quiet.trans (.trans ?_ (foldl_quiet _ (fun u d => addDeadline_quiet d u) _ _)) (raisePulse_quiet ..)
  exact (quiet_parcels (by simp) (writeKeys_length ..)).trans (quiet_ingestSeq (satAdd_le ..))

theorem storeParcel_quiet (p : Parcel) (ks : List Key) (s : State) : Quiet s (storeParcel p ks s).1 := by
  refine (makeRoom_quiet s).trans ?_
  unfold storeParcel
  generalize makeRoom s = t
  dsimp only
  split
  · exact raisePulse_quiet ..
  · split
    · exact raisePulse_quiet ..
    · exact commitParcel_quiet ..

theorem settleVerify_quiet (p : StagingPlace) (o : Option (List Key)) (s : State) :
    Quiet s (settleVerify p o s).1 := by
  unfold settleVerify
  split
  · exact raisePulse_quiet ..
  · split
    · exact .refl s
    · split
      · exact .refl s
      · split
        · exact .refl s
        · exact storeParcel_quiet ..

theorem postVerify_keeps {s : State} (hr : MayPost s) : Keeps s (postVerify s) := by
  unfold postVerify
  split
  · refine Quiet.replyLater ((Quiet.trans ?_ (settleVerify_quiet ..)).trans (vacateHead_quiet _)) hr ..
    exact quiet_unlimited
  · exact .refl s

/-! ## Power and start-up -/

/-- The volatile state at its starting values: empty tables and queues, counts at 0 (11 R172). -/
theorem clearVolatile_quiet (s : State) : Quiet s (clearVolatile s) := by
  refine ⟨⟨fun h => ?_, fun _ slot => ?_, fun h => { h with }, fun h => ?_⟩, Nat.zero_le _⟩
  · exact { h with
      grants := (List.length_map ..).trans h.grants
      gens := (List.length_map ..).trans h.gens
      sources := (List.length_map ..).trans h.sources
      answers := Nat.zero_le _
      receive := Nat.zero_le _
      staging := Nat.zero_le _
      opens := Nat.zero_le _
      passOver := Nat.zero_le _ }
  · rw [stationLoad_eq]; simp [clearVolatile]
  · exact { h with
      uptime := Nat.zero_le _
      counters := ⟨Nat.zero_le _, Nat.zero_le _, Nat.zero_le _, Nat.zero_le _⟩
      generations := fun n hn => by
        obtain ⟨_, _, rfl⟩ := List.mem_map.mp hn
        exact Nat.zero_le _
      extensions := fun g r hg => by simp [State.grant, clearVolatile] at hg
      levels := LevelsFit.map (fun _ => rfl) h.levels }

theorem haltPart_quiet (s : State) : Quiet s (haltPart s) := (clearVolatile_quiet s).trans quiet_unlimited

theorem beginStartUp_quiet (cause : StartCause) (s : State) : Quiet s (beginStartUp cause s) := by
  have hcontrol : Quiet s { clearVolatile s with
      control := { (clearVolatile s).control with phase := .begin, beganBy := cause } } :=
    (clearVolatile_quiet s).trans quiet_unlimited
  refine hcontrol.trans (quiet_modes (fun h => ?_) (·.settings))
  split
  · exact h
  · exact Nat.zero_le _

/-- The held words are those of the fuses; the default settings and the factory floor lie in their ranges (11 R169). -/
theorem loadFuses_quiet (s : State) : Quiet s { s with fuses := { s.fuses with held := loadFuses s.fuses.words } } := by
  refine ⟨⟨fun h => { h with }, id, fun h => ?_, fun h => ?_⟩, le_rfl⟩
  · exact { h with held := rfl, own := fun i e a hi ha => h.own i e a hi (h.held.trans ha) }
  · refine { h with factoryFloor := ?_, defaults := fuseDefaults_fit _ }
    show (s.fuses.words.factoryFloor.used.map fun v => v.toNat).getD 0 ≤ maxCount
    cases s.fuses.words.factoryFloor.used with
    | none => exact Nat.zero_le _
    | some v => exact Nat.le_of_lt_succ v.isLt

theorem readFuses_quiet (s : State) : Quiet s (readFuses s) := by
  have hcontrol : Quiet s { s with
      control := { s.control with sealing := s.control.sealing || fusesSeal (loadFuses s.fuses.words) } } :=
    quiet_unlimited
  have hread : Quiet s { s with
      fuses := { s.fuses with held := loadFuses s.fuses.words }
      clock := { s.clock with driftRun := 0 }
      control := { s.control with sealing := s.control.sealing || fusesSeal (loadFuses s.fuses.words) } } :=
    (hcontrol.trans (loadFuses_quiet _)).trans (quiet_clock fun h => { h with driftRun := Nat.zero_le _ })
  unfold readFuses
  dsimp only
  split <;> split
  · exact hread
  · exact hread.trans (raisePulse_quiet ..)
  · exact hread.trans (raiseLevel_quiet ..)
  · exact (hread.trans (raisePulse_quiet ..)).trans (raiseLevel_quiet ..)

/-- Every entry's tokens stand at OPEN_BURST, its mark idle (04 R63). -/
theorem refillTokens_quiet (s : State) : Quiet s { s with stations := { s.stations with
    entries := s.stations.entries.map fun o => o.map fun e =>
      { e with tokens := s.stations.settings.openBurst, mark := none } } } := by
  refine quiet_entries (List.length_map ..) (StationsDistinct.of_plates rfl ?_) fun h i e he => ?_
  · dsimp only
    rw [List.map_map]
    exact List.map_congr_left fun o _ => by cases o <;> rfl
  · rw [slotGet_map, Option.map_eq_some_iff] at he
    obtain ⟨e, -, rfl⟩ := he
    exact h.settings.openBurst_le

theorem correctStore_quiet (s : State) : Quiet s (correctStore s) := by
  refine Quiet.trans (foldl_quiet _ (fun u p => ?_) _ s) (refillTokens_quiet _)
  exact (setEntry_quiet ..).trans (freeAtZero_quiet ..)

/-- A lost store's values: empty tables, default settings, booth time at the factory floor (11 R171). -/
theorem loseStore_quiet (s : State) : Quiet s (loseStore s) := by
  refine Quiet.trans ?_ (raiseLevel_quiet ..)
  refine ⟨⟨fun h => ?_, fun h => h, fun h => ?_, fun h => ?_⟩, le_rfl⟩
  · exact { h with
      stations := (List.length_map ..).trans h.stations
      parcels := (List.length_map ..).trans h.parcels
      keys := (List.length_map ..).trans h.keys
      sources := takeAttentionDefaults_length h.sources
      mismatch := Nat.zero_le _ }
  · refine stationsDistinct_iff.mpr ⟨h.held, fun i j e f _ he => ?_, fun i e he => ?_, fun r => ?_⟩
    · simp [State.station] at he
    · simp [State.station] at he
    · rw [roleCount_eq]; simp
  · exact { h with
      boothTime := h.factoryFloor
      floor := h.factoryFloor
      trimBudget := le_refl 360
      trimYear := Nat.zero_le _
      ingestSeq := Nat.zero_le _
      tokens := fun i e hi => by simp [State.station] at hi
      threshold := takeAttentionDefaults_threshold _
      levels := takeAttentionDefaults_levels _
      settings := h.defaults }

theorem endNotices_quiet (s : State) : Quiet s (endNotices s) := by
  have hlevel : ∀ (n : Nat) (b : Bool) (t : State), Quiet s t → Quiet s (evaluateLevel n b t) :=
    fun n b t h => h.trans (evaluateLevel_quiet n b t)
  refine Quiet.trans (.trans ?_ (modSource_quiet Src.fault ?_ _)) (flagRaised_quiet _)
  · exact hlevel _ _ _ (hlevel _ _ _ (hlevel _ _ _ (hlevel _ _ _ (hlevel _ _ _ (hlevel _ _ _ (.refl s))))))
  · exact fun _ => rfl

/-- What a finished start-up leaves, before the due deadlines are taken once (11 R172). -/
theorem finishedStartUp_quiet (s : State) : Quiet s (endNotices { s with
    control := { s.control with
      service := if s.control.sealing then .sealedOff else .operating, phase := .none, cause := s.control.beganBy }
    clock := { s.clock with uptime := 0, ticked := false }
    arbiter := { s.arbiter with lastKat := 0 } }) := by
  have hclock : Quiet s { s with clock := { s.clock with uptime := 0, ticked := false } } :=
    quiet_clock fun h => { h with uptime := Nat.zero_le _ }
  have harbiter : Quiet s { s with
      clock := { s.clock with uptime := 0, ticked := false }
      arbiter := { s.arbiter with lastKat := 0 } } := hclock.trans (quiet_arbiter id)
  exact (harbiter.trans quiet_unlimited).trans (endNotices_quiet _)

theorem endStartUp_quiet (s : State) : Quiet s (endStartUp s) := by
  have hdue : ∀ t, Quiet s t → Quiet s (if rebuildRuns t then runDeadlines t.now t else t) := by
    intro t ht
    split
    · exact ht.trans (runDeadlines_quiet ..)
    · exact ht
  exact hdue _ (finishedStartUp_quiet s)

end Sys2Proof.Machine
end

section
/-! PROOFS. Every command and every step: O6 and O7. -/

namespace Sys2Proof.Machine

/-! ## Every command -/

/-- A command whose condition does not hold changes nothing (log 5). -/
theorem Keeps.ite {s t : State} {c : Prop} [Decidable c] (h : c → Keeps s t) : Keeps s (if c then t else s) := by
  split
  · exact h (by assumption)
  · exact .refl s

theorem Quiet.ite {s t : State} {c : Prop} [Decidable c] (h : c → Quiet s t) : Keeps s (if c then t else s) :=
  .ite fun hc => (h hc).toKeeps

theorem setPhase_quiet {s t : State} (p : StartPhase) (h : Quiet s t) : Quiet s (setPhase p t) :=
  h.trans quiet_unlimited

/-- FRAME_TAKE frees a slot and places at most one answer, in a place that was free before it (09 R152). -/
theorem takeFrame_keeps (f : Frame) (rest : List Frame) {s : State} (hs : s.link.stored = f :: rest) (hr : MayPost s) :
    Keeps s (takeFrame f s) := by
  have htaken : Quiet s { s with link := { s.link with stored := s.link.stored.drop 1 } } :=
    quiet_link le_rfl (by simp only [occupancy, hs, List.length_cons, List.drop_one, List.tail_cons]; omega) id
  have hfell := htaken.trans (occupancyFell_quiet _)
  have howner : OwnerKeeps (ownerOfFrame f) := by
    unfold ownerOfFrame
    split
    · exact ownerOf_keeps _
    · exact ownUnknownKind_keeps
  refine hfell.toKeeps.trans (settle_keeps howner f ⟨?_, hfell.answers.trans_lt hr.2⟩)
  rw [occupancyFell_frame]
  exact hr.1

theorem execFrameEnd_keeps (rest : List Byte) (s : State) : ∃ t, execFrameEnd rest s = .next t ∧ Keeps s t := by
  refine ⟨_, rfl, ?_⟩
  split
  · rename_i h ha
    exact Quiet.ite fun _ => endFrame_quiet rest ha
  · exact .refl s

theorem execFrameTake_keeps (s : State) : ∃ t, execFrameTake s = .next t ∧ Keeps s t := by
  refine ⟨_, rfl, ?_⟩
  split
  · rename_i f rest hs
    exact .ite fun hr => takeFrame_keeps f rest hs (canTake_eq_true.mp hr)
  · exact .refl s

theorem execFrameHeader_keeps (dst src : Addr) (s : State) : ∃ t, execFrameHeader dst src s = .next t ∧ Keeps s t :=
  ⟨_, rfl, Quiet.ite fun h => judgeHeader_quiet dst src (by
    rw [Bool.and_eq_true, Option.isNone_iff_eq_none] at h; exact h.2)⟩

theorem execHoldRepeatTimer_keeps (s : State) : ∃ t, execHoldRepeatTimer s = .next t ∧ Keeps s t := by
  refine ⟨_, rfl, Quiet.ite fun _ => ?_⟩
  split
  · exact armHold_quiet s
  · exact releaseHold_quiet s

theorem execSendHold_keeps (s : State) : ∃ t, execSendHold s = .next t ∧ Keeps s t := by
  refine ⟨_, rfl, ?_⟩
  split
  · exact Quiet.ite fun _ => sendHoldValue_quiet ..
  · exact .refl s

theorem execSendExpire_keeps (s : State) : ∃ t, execSendExpire s = .next t ∧ Keeps s t := by
  refine ⟨_, rfl, ?_⟩
  split
  · exact Quiet.ite fun _ => sendExpireFor_quiet ..
  · exact .refl s

theorem execSendAnswer_keeps (s : State) : ∃ t, execSendAnswer s = .next t ∧ Keeps s t := by
  refine ⟨_, rfl, ?_⟩
  split
  · rename_i a rest ha
    have htaken : Quiet s { s with link := { s.link with answers := rest } } := quiet_link (by simp [ha]) id id
    exact Quiet.ite fun _ => htaken.trans (startSending_quiet ..)
  · exact .refl s

theorem execSendNotice_keeps (s : State) : ∃ t, execSendNotice s = .next t ∧ Keeps s t := by
  refine ⟨_, rfl, ?_⟩
  split
  · exact Quiet.ite fun _ => (modSource_quiet _ (by intro; rfl) s).trans (startSending_quiet ..)
  · exact .refl s

theorem execTransmitFrameEnd_keeps (s : State) : ∃ t, execTransmitFrameEnd s = .next t ∧ Keeps s t := by
  refine ⟨_, rfl, ?_⟩
  split
  · rename_i f _
    have hsent : Quiet s { s with link := { s.link with sending := none } } := quiet_link le_rfl id id
    refine Quiet.ite fun _ => ?_
    unfold finishSending
    dsimp only
    split
    · exact hsent.trans (beginStartUp_quiet ..)
    · exact hsent
  · exact .refl s

theorem execCrystalSecond_keeps (s : State) : ∃ t, execCrystalSecond s = .next t ∧ Keeps s t := by
  refine ⟨_, rfl, ?_⟩
  split
  · exact (((noteTick_quiet s).trans (countTrimYear_quiet _)).trans (tickBooth_quiet _)).toKeeps
  · exact (noteTick_quiet s).toKeeps

theorem execMainClockSecond_keeps (deviation : Nat) (s : State) :
    ∃ t, execMainClockSecond deviation s = .next t ∧ Keeps s t :=
  ⟨_, rfl, Quiet.ite fun _ => (((countUptime_quiet s).trans (timeOutOpens_quiet _)).trans
    (examineTestInterval_quiet _)).trans (measure_quiet ..)⟩

theorem execPowerOn_keeps (s : State) : ∃ t, execPowerOn s = .next t ∧ Keeps s t := by
  have hon : Quiet s { s with control := { s.control with power := true } } := quiet_unlimited
  refine ⟨_, rfl, ?_⟩
  split
  · exact .refl s
  · dsimp only
    split
    · exact (hon.trans (haltPart_quiet _)).toKeeps
    · exact (hon.trans (beginStartUp_quiet ..)).toKeeps

theorem execResetLineAssert_keeps (s : State) : ∃ t, execResetLineAssert s = .next t ∧ Keeps s t := by
  have hlow : Quiet s { s with control := { s.control with resetLow := true } } := quiet_unlimited
  refine ⟨_, rfl, ?_⟩
  split
  · exact .refl s
  · dsimp only
    split
    · exact (hlow.trans (haltPart_quiet _)).toKeeps
    · exact hlow.toKeeps

theorem execResetLineRelease_keeps (s : State) : ∃ t, execResetLineRelease s = .next t ∧ Keeps s t := by
  have hhigh : Quiet s { s with control := { s.control with resetLow := false } } := quiet_unlimited
  refine ⟨_, rfl, Quiet.ite fun _ => ?_⟩
  dsimp only
  split
  · exact hhigh.trans (beginStartUp_quiet ..)
  · exact hhigh

theorem execRetainedCheck_keeps (damaged : Bool) (s : State) :
    ∃ t, execRetainedCheck damaged s = .next t ∧ Keeps s t := by
  refine ⟨_, rfl, Quiet.ite fun _ => setPhase_quiet _ ?_⟩
  split
  · exact correctStore_quiet s
  · exact loseStore_quiet s

theorem execClockCheck_keeps (deviation : Nat) (s : State) :
    ∃ t, execClockCheck deviation s = .next t ∧ Keeps s t := by
  refine ⟨_, rfl, Quiet.ite fun _ => setPhase_quiet _ (Quiet.trans ?_ (followLevel_quiet ..))⟩
  exact quiet_clock fun h => { h with driftRun := by dsimp only; split <;> omega }

theorem execUnknownKind_keeps (src : Addr) (tag kind : Byte) (body : List Byte) (s : State) :
    ∃ t, execUnknownKind src tag kind body s = .next t ∧ Keeps s t := by
  refine ⟨_, rfl, .ite fun h => settle_keeps ownUnknownKind_keeps _ (canTake_eq_true.mp ?_)⟩
  exact (Bool.and_eq_true_iff.mp h).1

theorem requestRow_keeps (k : Kind) (src : Addr) (tag : Byte) (body : List Byte) (s : State) :
    ∃ t, exec (requestRow k src tag body) s = .next t ∧ Keeps s t :=
  ⟨_, exec_requestRow k src tag body s, takeRequest_keeps k src tag body (ownerOf_keeps k) s⟩

/-- Every command keeps the four conditions, each on its own. -/
theorem exec_keeps (c : Instr) (s : State) : ∃ t, exec c s = .next t ∧ Keeps s t := by
  cases c with
  | frameHeader dst src => exact execFrameHeader_keeps dst src s
  | frameEnd rest => exact execFrameEnd_keeps rest s
  | holdRepeatTimer => exact execHoldRepeatTimer_keeps s
  | frameTake => exact execFrameTake_keeps s
  | unknownKind src tag kind body => exact execUnknownKind_keeps src tag kind body s
  | status src tag body => exact requestRow_keeps .status src tag body s
  | parcelLoad src tag body => exact requestRow_keeps .parcelLoad src tag body s
  | parcelWithdraw src tag body => exact requestRow_keeps .parcelWithdraw src tag body s
  | parcelList src tag body => exact requestRow_keeps .parcelList src tag body s
  | openKeys src tag body => exact requestRow_keeps .openKeys src tag body s
  | close src tag body => exact requestRow_keeps .close src tag body s
  | extend src tag body => exact requestRow_keeps .extend src tag body s
  | grantList src tag body => exact requestRow_keeps .grantList src tag body s
  | timeTrim src tag body => exact requestRow_keeps .timeTrim src tag body s
  | timeSet src tag body => exact requestRow_keeps .timeSet src tag body s
  | stationEnrol src tag body => exact requestRow_keeps .stationEnrol src tag body s
  | stationRetire src tag body => exact requestRow_keeps .stationRetire src tag body s
  | stationSuspend src tag body => exact requestRow_keeps .stationSuspend src tag body s
  | stationResume src tag body => exact requestRow_keeps .stationResume src tag body s
  | stationRank src tag body => exact requestRow_keeps .stationRank src tag body s
  | stationList src tag body => exact requestRow_keeps .stationList src tag body s
  | modeKey src tag body => exact requestRow_keeps .modeKey src tag body s
  | modeChange src tag body => exact requestRow_keeps .modeChange src tag body s
  | settingWrite src tag body => exact requestRow_keeps .settingWrite src tag body s
  | settingRead src tag body => exact requestRow_keeps .settingRead src tag body s
  | zeroize src tag body => exact requestRow_keeps .zeroize src tag body s
  | noticeRead src tag body => exact requestRow_keeps .noticeRead src tag body s
  | noticeConfig src tag body => exact requestRow_keeps .noticeConfig src tag body s
  | selfTest src tag body => exact requestRow_keeps .selfTest src tag body s
  | restart src tag body => exact requestRow_keeps .restart src tag body s
  | crystalSecond => exact execCrystalSecond_keeps s
  | trimYearWrap => exact ⟨_, rfl, Quiet.ite fun _ => wrapTrimYear_quiet s⟩
  | mainClockSecond deviation => exact execMainClockSecond_keeps deviation s
  | driftRunLimit => exact ⟨_, rfl, Quiet.ite fun _ => (openWindow_quiet s).trans (reachDriftLimit_quiet _)⟩
  | openWaitTimeout => exact ⟨_, rfl, Quiet.ite fun _ => timeOutOpens_quiet s⟩
  | periodicTestDue => exact ⟨_, rfl, Quiet.ite fun _ => examineTestInterval_quiet s⟩
  | engineArbiterChoice => exact ⟨_, rfl, (arbitrate_quiet _ s).toKeeps⟩
  | katComplete pass => exact ⟨_, rfl, (completeKat_quiet pass s).toKeeps⟩
  | verifyComplete done => exact ⟨_, rfl, (completeVerify_quiet s).toKeeps⟩
  | rewrapComplete => exact ⟨_, rfl, (completeRewrap_quiet s).toKeeps⟩
  | verifyPosting => exact ⟨_, rfl, .ite fun hr => postVerify_keeps (canTake_eq_true.mp hr)⟩
  | rewrapPosting => exact ⟨_, rfl, .ite fun hr => postRewrap_keeps (canTake_eq_true.mp hr)⟩
  | selfTestPosting => exact ⟨_, rfl, .ite fun hr => postSelfTest_keeps (canTake_eq_true.mp hr)⟩
  | openAnswerDue => exact ⟨_, rfl, .ite fun hr => answerOpenDue_keeps (canTake_eq_true.mp hr)⟩
  | stagingAnswerDue => exact ⟨_, rfl, .ite fun hr => answerStaging_keeps (canTake_eq_true.mp hr)⟩
  | sendHold => exact execSendHold_keeps s
  | sendExpire => exact execSendExpire_keeps s
  | sendAnswer => exact execSendAnswer_keeps s
  | sendNotice => exact execSendNotice_keeps s
  | linkDown => exact ⟨_, rfl, Quiet.toKeeps (quiet_link le_rfl id id)⟩
  | linkUp => exact ⟨_, rfl, Quiet.toKeeps (quiet_link le_rfl id id)⟩
  | powerOn => exact execPowerOn_keeps s
  | powerLoss => exact ⟨_, rfl, Quiet.ite fun _ => Quiet.trans quiet_unlimited (haltPart_quiet _)⟩
  | resetLineAssert => exact execResetLineAssert_keeps s
  | resetLineRelease => exact execResetLineRelease_keeps s
  | startUpBegin => exact ⟨_, rfl, Quiet.ite fun _ => setPhase_quiet _ (beginStartUp_quiet _ s)⟩
  | fuseLoad => exact ⟨_, rfl, Quiet.ite fun _ => setPhase_quiet _ (readFuses_quiet s)⟩
  | retainedCheck damaged => exact execRetainedCheck_keeps damaged s
  | clockCheck deviation => exact execClockCheck_keeps deviation s
  | rebuild => exact ⟨_, rfl, Quiet.ite fun _ => setPhase_quiet _ (rebuildList_quiet _ s)⟩
  | startUpEnd => exact ⟨_, rfl, Quiet.ite fun _ => endStartUp_quiet s⟩
  | transmitFrameEnd => exact execTransmitFrameEnd_keeps s
  | retainedLoss =>
    refine ⟨_, rfl, ?_⟩
    split
    · exact .refl s
    · exact Quiet.toKeeps quiet_unlimited

/-- A step takes the front command from the queue and runs it; with none waiting it changes nothing. -/
theorem step_keeps {s t : State} (h : step s = .next t) : Keeps s t := by
  unfold step at h
  split at h
  · cases h; exact .refl s
  · rename_i c rest _
    obtain ⟨u, hu, hk⟩ := exec_keeps c { s with pending := rest }
    rw [hu] at h
    cases h
    exact (quiet_unlimited (s := s)).toKeeps.trans hk

/-- Settles O6: each of the three conditions is kept by every command on its own. -/
theorem capacitiesKept : Obligations.CapacitiesKept :=
  ⟨fun _ _ h hs => (step_keeps hs).capacities h, fun _ _ h hs => (step_keeps hs).screens h,
    fun _ _ h hs => (step_keeps hs).stations h⟩

/-- Settles O7: every command keeps the counts and settings in their ranges. -/
theorem valuesKeptInRange : Obligations.ValuesKeptInRange := fun _ _ h hs => (step_keeps hs).values h

end Sys2Proof.Machine
end

section
/-! PROOFS. PARCEL_LOAD at arrival (O28). -/

namespace Sys2Proof.Machine

@[simp] theorem parcelOf_winEnd (body : List Byte) : (parcelOf body).winEnd = num body 28 4 := rfl

@[simp] theorem parcelOf_id (body : List Byte) : (parcelOf body).id = str 64 body 0 := rfl

/-- Settles O28: the checks of 01 Table 1.2 in their order, then the staging. -/
theorem parcelLoadArrival : Obligations.ParcelLoadArrival := by
  intro src tag body s who h
  have hexec : exec (.parcelLoad src tag body) s =
      .next (ownParcelLoad who { src := src, kind := Kind.parcelLoad.value, tag := tag, body := body } s) :=
    congrArg _ (takeRequest_matched h.mayPost h.source)
  have hnow : s.now = s.clock.boothTime := rfl
  rw [hexec]
  congr 1
  unfold ownParcelLoad
  cases hform : parcelForm body with
  | some b =>
    simp [loadChecks, sealedCheck, roleCheck, suspendedCheck, h.service, hform, reply_eq_answered, refuse, malformed]
  | none =>
    simp [loadChecks, sealedCheck, roleCheck, suspendedCheck, h.service, hform, reply_eq_answered, refuse, hnow,
      stageParcel]

end Sys2Proof.Machine
end

section
/-! PROOFS. VERIFY_POSTING: the posting, its refusals, room for an entry (O55). -/

namespace Sys2Proof.Machine

/-! ## The posting and its refusals -/

/-- The state in which a result is posted: the engine holds it no more (01 R11). -/
def withoutResult (s : State) : State := { s with engine := { s.engine with held := none } }

/-- The posted head: settled, vacated, and answered (01 R11). -/
theorem exec_verifyPosting {s t : State} {p : StagingPlace} {rest : List StagingPlace} {o : Option (List Key)}
    {r : Reply} (hm : MayPost s) (hs : s.store.staging = p :: rest) (ho : heldVerify s.engine = some o)
    (ht : settleVerify p o (withoutResult s) = (t, r)) :
    exec .verifyPosting s = .next (answered (vacateHead t) p.answerTo p.tag .parcelLoad r.code r.detail) := by
  show Host.Outcome.next (if canTake s then postVerify s else s) = _
  rw [if_pos (canTake_of_mayPost hm)]
  unfold withoutResult at ht
  simp only [postVerify, ho, hs, ht, replyLater_eq_answered]

theorem vacateHead_eq (p : StagingPlace) (rest : List StagingPlace) {s : State} (hs : s.store.staging = p :: rest) :
    vacateHead s = { s with
      store := { s.store with staging := rest }
      arbiter := { s.arbiter with passOver := 0 } } := by
  simp only [vacateHead, hs, List.drop_one, List.tail_cons, setPassOver]

/-- Checks 2 to 4 of 01 Table 1.6 on a PASS. -/
theorem settleVerify_refused {p : StagingPlace} {s : State} (ks : List Key)
    (h : p.phase = .verifying true ∨ s.clock.timeState = .lost ∨ p.parcel.winEnd * 60 ≤ s.clock.boothTime) :
    settleVerify p (some ks) s = (s, refuse (if p.phase = .verifying true then .withdrawn
      else if s.clock.timeState = .lost then .noTime else .ended)) := by
  unfold settleVerify
  dsimp only
  split
  · rfl
  · rename_i hmark
    split
    · rfl
    · rename_i hlost
      exact if_pos (h.resolve_left hmark |>.resolve_left hlost)

/-- A held PASS of the head that checks 2 to 4 of 01 Table 1.6 let through, with a free answer place. -/
structure Storable (s : State) (p : StagingPlace) (rest : List StagingPlace) (ks : List Key) : Prop where
  room : MayPost s
  head : s.store.staging = p :: rest
  held : s.engine.held = some (.verifyPass ks)
  unmarked : p.phase ≠ .verifying true
  running : s.clock.timeState = .running
  ahead : s.clock.boothTime < p.parcel.winEnd * 60

theorem Storable.posts {s t : State} {p : StagingPlace} {rest : List StagingPlace} {ks : List Key} {r : Reply}
    (h : Storable s p rest ks) (ht : storeParcel p.parcel ks (withoutResult s) = (t, r)) :
    exec .verifyPosting s = .next (answered (vacateHead t) p.answerTo p.tag .parcelLoad r.code r.detail) := by
  have ho : heldVerify s.engine = some (some ks) := by simp [heldVerify, h.held]
  refine exec_verifyPosting h.room h.head ho (.trans ?_ ht)
  have hrun : (withoutResult s).clock.timeState ≠ .lost := fun hl => nomatch h.running.symm.trans hl
  have hnow : ¬p.parcel.winEnd * 60 ≤ (withoutResult s).now := Nat.not_le.mpr h.ahead
  simp only [settleVerify, if_neg h.unmarked, if_neg hrun, if_neg hnow]

/-! ## Room for an entry -/

theorem countUsed_of_full {α : Type} {t : List (Option α)} (h : lowestFree t = none) : countUsed t = t.length := by
  rw [countUsed, List.countP_eq_length]
  intro o ho
  have := List.findIdx?_eq_none_iff.mp h o ho
  cases o <;> simp_all

theorem makeRoom_of_free {s : State} {i : Nat} (h : lowestFree s.store.table = some i) : makeRoom s = s := by
  simp [makeRoom, h]

/-- An entry that reclaim may free: LAPSED with grant count 0 (01 R13). -/
def reclaimable (e : ParcelEntry) : Bool := e.state == .lapsed && e.grantCount == 0

theorem mem_reclaimable {s : State} {q : Nat × ParcelEntry} :
    q ∈ (listUsed s.store.table).filter (fun q => reclaimable q.2) ↔
      s.entry q.1 = some q.2 ∧ q.2.state = .lapsed ∧ q.2.grantCount = 0 := by
  rw [List.mem_filter, mem_listUsed]
  simp [reclaimable, State.entry]

theorem makeRoom_of_full {s : State} (h : lowestFree s.store.table = none) : makeRoom s =
    match bestOf reclaimBefore ((listUsed s.store.table).filter fun q => reclaimable q.2) with
    | some p => freeEntry p.1 s
    | none => s := by
  simp only [makeRoom, h, Option.isNone_none, if_true]; rfl

theorem makeRoom_of_unreclaimable {s : State} (hfull : lowestFree s.store.table = none)
    (h : ∀ i e, s.entry i = some e → e.state = .lapsed → e.grantCount ≠ 0) : makeRoom s = s := by
  have hnil : (listUsed s.store.table).filter (fun q => reclaimable q.2) = [] := by
    refine List.eq_nil_iff_forall_not_mem.mpr fun q hq => ?_
    obtain ⟨he, hl, hg⟩ := mem_reclaimable.mp hq
    exact h q.1 q.2 he hl hg
  rw [makeRoom_of_full hfull, hnil]; rfl

/-- The fold of `bestOf` ends with the element that comes before every other, in a list in ascending order of place:
before those behind it or level with them, and strictly before those ahead of it. -/
theorem foldl_best {before : ParcelEntry → ParcelEntry → Bool} {p a : Nat × ParcelEntry} {l : List (Nat × ParcelEntry)}
    (hmem : p ∈ a :: l) (hsort : (a :: l).Pairwise fun x y => x.1 < y.1)
    (hbest : ∀ q ∈ a :: l, q.1 ≠ p.1 → before q.2 p.2 = false ∧ (q.1 < p.1 → before p.2 q.2 = true)) :
    l.foldl (fun a b => if before b.2 a.2 then b else a) a = p := by
  induction l generalizing a with
  | nil => exact (List.mem_singleton.mp hmem).symm
  | cons b l ih =>
    obtain ⟨ha, hl⟩ := List.pairwise_cons.mp hsort
    obtain ⟨hb, hl'⟩ := List.pairwise_cons.mp hl
    have hab : a.1 < b.1 := ha b List.mem_cons_self
    have hkeepA : (a :: l).Pairwise fun x y => x.1 < y.1 :=
      .cons (fun x hx => ha x (List.mem_cons_of_mem _ hx)) hl'
    rw [List.foldl_cons]
    rcases List.mem_cons.mp hmem with rfl | hmem'
    · have hlose : before b.2 p.2 = false := (hbest b (by simp) (by omega)).1
      rw [hlose, if_neg Bool.false_ne_true]
      exact ih List.mem_cons_self hkeepA fun q hq => hbest q (by simp at hq ⊢; tauto)
    · rcases List.mem_cons.mp hmem' with rfl | hpl
      · have hwin : before p.2 a.2 = true := (hbest a List.mem_cons_self (by omega)).2 hab
        rw [if_pos hwin]
        exact ih List.mem_cons_self hl fun q hq => hbest q (List.mem_cons_of_mem _ hq)
      · split
        · exact ih (List.mem_cons_of_mem _ hpl) hl fun q hq => hbest q (List.mem_cons_of_mem _ hq)
        · exact ih (List.mem_cons_of_mem _ hpl) hkeepA fun q hq => hbest q (by simp at hq ⊢; tauto)

/-- Reclaim picks the entry that 01 R13 names. -/
theorem bestOf_reclaimed {s : State} {i : Nat} {e : ParcelEntry} (h : Reclaimed s i e) :
    bestOf reclaimBefore ((listUsed s.store.table).filter fun q => reclaimable q.2) = some (i, e) := by
  obtain ⟨he, hl, hg, hfirst⟩ := h
  have hmem : (i, e) ∈ (listUsed s.store.table).filter fun q => reclaimable q.2 := mem_reclaimable.mpr ⟨he, hl, hg⟩
  have hsort := (listUsed_ascending s.store.table).filter fun q => reclaimable q.2
  have hbest : ∀ q ∈ (listUsed s.store.table).filter (fun q => reclaimable q.2), q.1 ≠ i →
      reclaimBefore q.2 e = false ∧ (q.1 < i → reclaimBefore e q.2 = true) := by
    intro q hq hqi
    obtain ⟨hqe, hql, hqg⟩ := mem_reclaimable.mp hq
    have := hfirst q.1 q.2 hqe hql hqg hqi
    simp only [reclaimBefore, Bool.or_eq_false_iff, Bool.and_eq_false_iff, Bool.or_eq_true, Bool.and_eq_true,
      decide_eq_true_eq, decide_eq_false_iff_not, beq_iff_eq, beq_eq_false_iff_ne]
    omega
  generalize (listUsed s.store.table).filter (fun q => reclaimable q.2) = l at hmem hsort hbest
  cases l with
  | nil => simp at hmem
  | cons a l => exact congrArg some (foldl_best hmem hsort hbest)

/-- The state in which an entry is freed (02 R26). -/
theorem freeEntry_eq {s : State} {i : Nat} {e : ParcelEntry} (h : s.entry i = some e) : freeEntry i s = { s with
    store := { s.store with table := s.store.table.set i none, keys := eraseKeys e.refs s.store.keys }
    deadlines := s.deadlines.filter fun d => !(d.kind != .spanEnd && d.ref == i) } := by
  simp [freeEntry, eraseEntry, h, State.setEntry, dropParcelDeadlines]

/-- A parcel is stored as in the state in which the reclaimed entry is freed (01 R13). -/
theorem storeParcel_reclaims {s : State} {i : Nat} {e : ParcelEntry} (p : Parcel) (ks : List Key)
    (hfull : lowestFree s.store.table = none) (h : Reclaimed s i e) :
    storeParcel p ks s = storeParcel p ks (freeEntry i s) := by
  have hroom : makeRoom s = freeEntry i s := by rw [makeRoom_of_full hfull, bestOf_reclaimed h]
  have hdone : makeRoom (freeEntry i s) = freeEntry i s := by
    cases hfree : lowestFree (freeEntry i s).store.table with
    | some j => exact makeRoom_of_free hfree
    | none =>
      have hused := lowestFree_eq_none.mp hfree i (by rw [freeEntry_eq h.1]; simpa using State.entry_lt h.1)
      rw [freeEntry_eq h.1] at hused
      simp at hused
  simp only [storeParcel, hroom, hdone]

end Sys2Proof.Machine
end

section
/-! PROOFS. VERIFY_POSTING: key slots, the commit, and O55. -/

namespace Sys2Proof.Machine

/-! ## Key slots -/

theorem freePlaces_length {α : Type} (t : List (Option α)) : (freePlaces t).length = t.countP Option.isNone := by
  rw [freePlaces, List.length_filterMap_eq_countP]
  conv_rhs => rw [← List.zipIdx_map_fst 0 t, List.countP_map]
  congr 1
  funext ⟨o, i⟩
  cases o <;> rfl

/-- A write into a free place leaves one place fewer free. -/
theorem freePlaces_length_set {α : Type} {t : List (Option α)} {i : Nat} (a : α) (h : i ∈ freePlaces t) :
    (freePlaces (t.set i (some a))).length + 1 = (freePlaces t).length := by
  have hpos := List.length_pos_of_mem h
  obtain ⟨hlt, hnone⟩ := mem_freePlaces.mp h
  have hget : t[i] = none := by
    simpa [slotGet, List.getElem?_eq_getElem hlt] using hnone
  rw [freePlaces_length] at hpos ⊢
  rw [freePlaces_length, List.countP_set hlt, hget]
  simp; omega

theorem writeKeys_cons (k : Nat) (slots : List Nat) (a : Key) (ks : List Key) (keys : List (Option Key)) :
    writeKeys (k :: slots) (a :: ks) keys = writeKeys slots ks (keys.set k (some a)) := rfl

/-- Slots that are not written stay as they were. -/
theorem slotGet_writeKeys_of_not_mem {slots : List Nat} {k : Nat} (h : k ∉ slots) (ks : List Key)
    (keys : List (Option Key)) : slotGet (writeKeys slots ks keys) k = slotGet keys k := by
  induction slots generalizing ks keys with
  | nil => rfl
  | cons j slots ih =>
    obtain ⟨hne, hnot⟩ := not_or.mp (mt List.mem_cons.mpr h)
    cases ks with
    | nil => rfl
    | cons a ks => rw [writeKeys_cons, ih hnot, slotGet_set_ne (Ne.symm hne)]

/-- Keys written one for one are read back one for one (01 R15). -/
theorem map_slotGet_writeKeys {slots : List Nat} {ks : List Key} {keys : List (Option Key)} (hn : slots.Nodup)
    (hlt : ∀ k ∈ slots, k < keys.length) (hlen : slots.length = ks.length) :
    slots.map (slotGet (writeKeys slots ks keys)) = ks.map some := by
  induction slots generalizing ks keys with
  | nil => cases ks <;> simp at hlen ⊢
  | cons k slots ih =>
    cases ks with
    | nil => simp at hlen
    | cons a ks =>
      obtain ⟨hk, hn'⟩ := List.nodup_cons.mp hn
      rw [List.map_cons, List.map_cons, writeKeys_cons, slotGet_writeKeys_of_not_mem hk,
        slotGet_set_self (hlt k List.mem_cons_self)]
      congr 1
      exact ih hn' (fun j hj => by simpa using hlt j (List.mem_cons_of_mem _ hj)) (by simpa using hlen)

/-- Each key written into a free slot takes one free slot. -/
theorem freePlaces_writeKeys {slots : List Nat} {ks : List Key} {keys : List (Option Key)} (hn : slots.Nodup)
    (hfree : ∀ k ∈ slots, k ∈ freePlaces keys) (hlen : slots.length = ks.length) :
    (freePlaces (writeKeys slots ks keys)).length + slots.length = (freePlaces keys).length := by
  induction slots generalizing ks keys with
  | nil => rfl
  | cons k slots ih =>
    cases ks with
    | nil => simp at hlen
    | cons a ks =>
      obtain ⟨hk, hn'⟩ := List.nodup_cons.mp hn
      have hset := freePlaces_length_set a (hfree k List.mem_cons_self)
      have hrest : ∀ j ∈ slots, j ∈ freePlaces (keys.set k (some a)) := by
        intro j hj
        have hne : k ≠ j := fun heq => hk (heq ▸ hj)
        obtain ⟨hlt, hnone⟩ := mem_freePlaces.mp (hfree j (List.mem_cons_of_mem _ hj))
        exact mem_freePlaces.mpr ⟨by simpa using hlt, by rw [slotGet_set_ne hne]; exact hnone⟩
      have := ih hn' hrest (by simpa using hlen)
      rw [writeKeys_cons, List.length_cons]; omega

/-! ## The commit -/

/-- Inserting several deadlines changes the Deadline List alone. -/
theorem foldl_addDeadline (l : List Deadline) (s : State) : l.foldl (fun u d => addDeadline d u) s =
    { s with deadlines := l.foldl (fun ds d => insertDeadline d ds) s.deadlines } := by
  induction l generalizing s with
  | nil => rfl
  | cons d l ih => rw [List.foldl_cons, ih]; rfl

theorem mem_foldl_insertDeadline {x : Deadline} {l ds : List Deadline} :
    x ∈ l.foldl (fun ds d => insertDeadline d ds) ds ↔ x ∈ l ∨ x ∈ ds := by
  induction l generalizing ds with
  | nil => simp
  | cons d l ih => rw [List.foldl_cons, ih, mem_insertDeadline, List.mem_cons]; tauto

/-- The lowest free key slots, as many as the parcel has records (01 R15). -/
def keySlots (p : Parcel) (s : State) : List Nat := (freePlaces s.store.keys).take p.records.length

theorem keySlots_free {p : Parcel} {s : State} {k : Nat} (h : k ∈ keySlots p s) : k ∈ freePlaces s.store.keys :=
  List.mem_of_mem_take h

theorem keySlots_nodup (p : Parcel) (s : State) : (keySlots p s).Nodup :=
  ((freePlaces_ascending _).imp Nat.ne_of_lt).sublist (List.take_sublist ..)

theorem keySlots_length {p : Parcel} {s : State} (h : p.records.length ≤ s.freeKeySlots) :
    (keySlots p s).length = p.records.length := List.length_take_of_le h

/-- The state in which a parcel is committed at index `i`, its PARCEL_ACCEPTED not yet raised (01 R15 to R17). -/
def committed (i : Nat) (p : Parcel) (ks : List Key) (s : State) : State :=
  { s with
    store := { s.store with
      table := s.store.table.set i (some (newEntry p (keySlots p s) s))
      keys := writeKeys (keySlots p s) ks s.store.keys
      ingestSeq := nextSeq s }
    deadlines := (entryDeadlines s i (newEntry p (keySlots p s) s)).foldl (fun ds d => insertDeadline d ds)
      s.deadlines }

theorem commitParcel_eq (i : Nat) (p : Parcel) (ks : List Key) (s : State) : commitParcel i p ks s =
    (raisePulse Src.parcelAccepted (committed i p ks s),
      { code := .accepted, detail := [byte1 i, (newEntry p (keySlots p s) s).state.value] ++
        beBytes 2 (committed i p ks s).freeKeySlots }) := by
  unfold commitParcel insertEntryDeadlines
  simp only [foldl_addDeadline]
  rfl

theorem storeParcel_of_free {s : State} {i : Nat} (p : Parcel) (ks : List Key)
    (h : lowestFree s.store.table = some i) : storeParcel p ks s =
      if s.freeKeySlots < p.records.length then (raisePulse Src.storeFull s, storeFullReply 2 s)
      else commitParcel i p ks s := by
  simp only [storeParcel, makeRoom_of_free h, h]

theorem storeParcel_of_unreclaimable {s : State} (p : Parcel) (ks : List Key) (hfull : lowestFree s.store.table = none)
    (h : ∀ i e, s.entry i = some e → e.state = .lapsed → e.grantCount ≠ 0) :
    storeParcel p ks s = (raisePulse Src.storeFull s, storeFullReply 1 s) := by
  simp only [storeParcel, makeRoom_of_unreclaimable hfull h, hfull]

theorem committed_freeKeySlots {i : Nat} {p : Parcel} {ks : List Key} {s : State}
    (hroom : p.records.length ≤ s.freeKeySlots) (hlen : ks.length = p.records.length) :
    (committed i p ks s).freeKeySlots = s.freeKeySlots - p.records.length := by
  have := freePlaces_writeKeys (keySlots_nodup p s) (fun _ => keySlots_free)
    ((keySlots_length hroom).trans hlen.symm)
  rw [keySlots_length hroom] at this
  exact Nat.eq_sub_of_add_eq this

/-- The references of a new entry: its records' tracks and kinds with the slots given, one for one (01 R15). -/
theorem newEntry_refs {p : Parcel} {slots : List Nat} (s : State) (h : slots.length = p.records.length) :
    (newEntry p slots s).refs.map (fun r => (r.track, r.kind)) = p.records.map (fun r => (r.track, r.kind)) ∧
    (newEntry p slots s).refs.map (fun r => r.slot) = slots := by
  simp only [newEntry]
  generalize p.records = rs at h
  induction rs generalizing slots with
  | nil => simpa using h
  | cons r rs ih =>
    cases slots with
    | nil => simp at h
    | cons k slots =>
      obtain ⟨htracks, hslots⟩ := ih (by simpa using h)
      exact ⟨by simp [htracks], by simp [hslots]⟩

/-- The keys that a committed entry refers to are the parcel's, in record order (01 R15). -/
theorem committed_keys {i : Nat} {p : Parcel} {ks : List Key} {s : State}
    (hroom : p.records.length ≤ s.freeKeySlots) (hlen : ks.length = p.records.length) :
    (newEntry p (keySlots p s) s).refs.map (fun r => slotGet (committed i p ks s).store.keys r.slot) = ks.map some := by
  have hread := map_slotGet_writeKeys (keys := s.store.keys) (keySlots_nodup p s)
    (fun _ hk => (mem_freePlaces.mp (keySlots_free hk)).1) ((keySlots_length hroom).trans hlen.symm)
  have hslots := (newEntry_refs s (keySlots_length hroom)).2
  calc (newEntry p (keySlots p s) s).refs.map (fun r => slotGet (committed i p ks s).store.keys r.slot)
      = ((newEntry p (keySlots p s) s).refs.map fun r => r.slot).map
          (slotGet (writeKeys (keySlots p s) ks s.store.keys)) := by rw [List.map_map]; rfl
    _ = ks.map some := by rw [hslots, hread]

theorem newEntry_holdsKeys (p : Parcel) (slots : List Nat) (s : State) (i : Nat) :
    { due := p.winEnd * 60, kind := .windowEnd, ref := i } ∈ entryDeadlines s i (newEntry p slots s) := by
  by_cases h : p.winStart * 60 ≤ s.now <;> simp [entryDeadlines, newEntry, ParcelEntry.es, h]

theorem newEntry_latent {p : Parcel} (slots : List Nat) {s : State} (i : Nat) (h : s.now < p.winStart * 60) :
    { due := p.winStart * 60, kind := .windowStart, ref := i } ∈ entryDeadlines s i (newEntry p slots s) := by
  simp [entryDeadlines, newEntry, ParcelEntry.ss, Nat.not_le.mpr h]

theorem committed_entry {i : Nat} (p : Parcel) (ks : List Key) {s : State} (h : lowestFree s.store.table = some i) :
    (committed i p ks s).entry i = some (newEntry p (keySlots p s) s) :=
  slotGet_set_self (lowestFree_eq_some.mp h).1

/-! ## The posting's outcomes -/

/-- No free index and nothing to reclaim: STORE_FULL, cause NO_ENTRY (01 R13, R14). -/
theorem Storable.noEntry {s : State} {p : StagingPlace} {rest : List StagingPlace} {ks : List Key}
    (h : Storable s p rest ks) (hfull : lowestFree s.store.table = none)
    (hnone : ∀ i e, s.entry i = some e → e.state = .lapsed → e.grantCount ≠ 0) :
    exec .verifyPosting s = .next (answered (raisePulse Src.storeFull { withoutResult s with
      store := { s.store with staging := rest }
      arbiter := { s.arbiter with passOver := 0 } }) p.answerTo p.tag .parcelLoad .storeFull
      ([1] ++ beBytes 2 s.freeKeySlots ++ [0])) := by
  have hdetail : (storeFullReply 1 s).detail = [1] ++ beBytes 2 s.freeKeySlots ++ [0] := by
    rw [storeFullReply, State.parcelsInUse, countUsed_of_full hfull, Nat.sub_self]; rfl
  rw [h.posts (storeParcel_of_unreclaimable (s := withoutResult s) p.parcel ks hfull hnone),
    vacateHead_eq p rest, ← hdetail]
  · rfl
  · exact h.head

/-- No free index, and an entry to reclaim: the parcel is settled as where that entry is freed (01 R13). -/
theorem Storable.reclaims {s : State} {p : StagingPlace} {rest : List StagingPlace} {ks : List Key} {i : Nat}
    {e : ParcelEntry} (h : Storable s p rest ks) (hfull : lowestFree s.store.table = none) (hr : Reclaimed s i e) :
    exec .verifyPosting s = exec .verifyPosting (freeEntry i s) := by
  have hstore := storeParcel_reclaims (s := withoutResult s) p.parcel ks hfull hr
  have hcomm : freeEntry i (withoutResult s) = withoutResult (freeEntry i s) := by
    rw [freeEntry_eq hr.1, freeEntry_eq (s := withoutResult s) hr.1]; rfl
  have hfreed : Storable (freeEntry i s) p rest ks := by
    rw [freeEntry_eq hr.1]; exact { h with }
  rw [hcomm] at hstore
  rw [h.posts (hstore.trans Prod.mk.eta.symm), hfreed.posts Prod.mk.eta.symm]

/-- A free index and too few free key slots: STORE_FULL, cause NO_KEYS (01 R14). -/
theorem Storable.noKeys {s : State} {p : StagingPlace} {rest : List StagingPlace} {ks : List Key} {i : Nat}
    (h : Storable s p rest ks) (hfree : lowestFree s.store.table = some i)
    (hshort : s.freeKeySlots < p.parcel.records.length) :
    exec .verifyPosting s = .next (answered (raisePulse Src.storeFull { withoutResult s with
      store := { s.store with staging := rest }
      arbiter := { s.arbiter with passOver := 0 } }) p.answerTo p.tag .parcelLoad .storeFull
      ([2] ++ beBytes 2 s.freeKeySlots ++ [byte1 (s.store.table.length - s.parcelsInUse)])) := by
  rw [h.posts ((storeParcel_of_free (s := withoutResult s) p.parcel ks hfree).trans (if_pos hshort)),
    vacateHead_eq p rest]
  · rfl
  · exact h.head

/-- A free index and room for the keys: the parcel is committed there (01 R15 to R17). -/
theorem Storable.commits {s : State} {p : StagingPlace} {rest : List StagingPlace} {ks : List Key} {i : Nat}
    (h : Storable s p rest ks) (hfree : lowestFree s.store.table = some i)
    (hroom : p.parcel.records.length ≤ s.freeKeySlots) (hlen : ks.length = p.parcel.records.length) :
    exec .verifyPosting s = .next (answered (raisePulse Src.parcelAccepted
      { committed i p.parcel ks (withoutResult s) with
        store := { (committed i p.parcel ks s).store with staging := rest }
        arbiter := { s.arbiter with passOver := 0 } }) p.answerTo p.tag .parcelLoad .accepted
      ([byte1 i, (newEntry p.parcel (keySlots p.parcel s) s).state.value] ++
        beBytes 2 (s.freeKeySlots - p.parcel.records.length))) := by
  rw [h.posts ((storeParcel_of_free (s := withoutResult s) p.parcel ks hfree).trans
    ((if_neg (Nat.not_lt.mpr hroom)).trans (commitParcel_eq ..))), vacateHead_eq p rest,
    ← committed_freeKeySlots (i := i) (s := s) hroom hlen]
  · rfl
  · exact h.head

/-- Settles O55, by the checks of 01 Table 1.6 in their order. -/
theorem verifyPostingSettles : Obligations.VerifyPostingSettles := by
  intro s p rest hm hs
  refine ⟨fun hfail => ?_, fun ks hpass => ⟨fun hrefused => ?_, fun hmark hrun hend hfull => ?_,
    fun hmark hrun hend i hfree => ?_⟩⟩
  · rw [exec_verifyPosting (o := none) hm hs (by simp [heldVerify, hfail]) rfl, vacateHead_eq p rest]
    · rfl
    · exact hs
  · rw [exec_verifyPosting hm hs (by simp [heldVerify, hpass])
        (settleVerify_refused (s := withoutResult s) ks hrefused),
      vacateHead_eq p rest]
    · rfl
    · exact hs
  · have h : Storable s p rest ks := ⟨hm, hs, hpass, hmark, hrun, hend⟩
    refine ⟨h.noEntry hfull, fun i e hrec => ?_⟩
    rw [h.reclaims hfull hrec, freeEntry_eq hrec.1]
  · have h : Storable s p rest ks := ⟨hm, hs, hpass, hmark, hrun, hend⟩
    refine ⟨h.noKeys hfree, fun hroom hlen => ?_⟩
    have hrefs := newEntry_refs s (keySlots_length (s := s) hroom)
    refine ⟨_, _, h.commits hfree hroom hlen, ⟨_, committed_entry p.parcel ks hfree, rfl, rfl, rfl, rfl, rfl, rfl,
        hrefs.1, hrefs.2, committed_keys (i := i) hroom hlen, rfl, rfl, rfl, rfl, rfl⟩,
      fun j hj => slotGet_set_ne (Ne.symm hj), fun k hk => slotGet_writeKeys_of_not_mem hk .., rfl, rfl, rfl, rfl,
      mem_foldl_insertDeadline.mpr (.inl (newEntry_holdsKeys ..)),
      fun hlatent => mem_foldl_insertDeadline.mpr (.inl (newEntry_latent _ _ hlatent)),
      fun q hq => mem_foldl_insertDeadline.mpr (.inr hq), fun hsrc => raisePulse_source_self ?_,
      rfl, rfl, rfl, rfl, rfl, rfl, rfl⟩
    show Src.parcelAccepted < s.attention.sources.length
    rw [hsrc]; decide

end Sys2Proof.Machine
end

section
/-! PROOFS. What every command keeps of the parcel table, the key store and the grant table (O10, O11, O12): the relation
`Orderly`, with the rules for a state whose records stand and for a write of one parcel entry. -/

namespace Sys2Proof.Machine

/-- A fold of steps that each keep a relation that chains keeps it. -/
theorem foldl_chain {β : Type} {R : State → State → Prop} (hrefl : ∀ s, R s s)
    (htrans : ∀ {s t u}, R s t → R t u → R s u) {f : State → β → State} (hf : ∀ s b, R s (f s b)) (l : List β)
    (s : State) : R s (l.foldl f s) := by
  induction l generalizing s with
  | nil => exact hrefl s
  | cons b l ih => exact htrans (hf s b) (ih (f s b))

/-! ## Entries and held keys -/

/-- Work that puts no entry where none was, lets no entry hold keys that held none (02 R20), and leaves every held key
slot referenced (02 R21). -/
structure KeysKept (s t : State) : Prop where
  entries : ∀ i e', t.entry i = some e' → ∃ e, s.entry i = some e ∧ (e'.holdsKeys = true → e.holdsKeys = true)
  keys : KeysReferenced s → KeysReferenced t

theorem KeysKept.trans {s t u : State} (h : KeysKept s t) (k : KeysKept t u) : KeysKept s u := by
  refine ⟨fun i e'' he => ?_, k.keys ∘ h.keys⟩
  obtain ⟨e', he', hk⟩ := k.entries i e'' he
  obtain ⟨e, he, hh⟩ := h.entries i e' he'
  exact ⟨e, he, hh ∘ hk⟩

theorem KeysKept.of_store {s t : State} (ht : t.store.table = s.store.table) (hk : t.store.keys = s.store.keys) :
    KeysKept s t := by
  have hentry : ∀ i, t.entry i = s.entry i := fun i => by unfold State.entry; rw [ht]
  refine ⟨fun i e' he => ⟨e', (hentry i).symm.trans he, id⟩, fun h k v hv => ?_⟩
  obtain ⟨i, e, he, hrest⟩ := h k v (hk ▸ hv)
  exact ⟨i, e, (hentry i).trans he, hrest⟩

/-- With no entry left and no key held there is nothing to keep (02 R32). -/
theorem KeysKept.of_empty {s t : State} (ht : ∀ i, t.entry i = none) (hk : ∀ k, slotGet t.store.keys k = none) :
    KeysKept s t :=
  ⟨fun i _ he => (nomatch (ht i).symm.trans he), fun _ k _ hv => (nomatch (hk k).symm.trans hv)⟩

/-- An entry in use is written, or freed, and the slots it refers to stay held only by an entry that still holds keys. -/
theorem keysKept_write {s : State} {i : Nat} {e : ParcelEntry} {o : Option ParcelEntry} {keys : List (Option Key)}
    (h : s.entry i = some e) (ho : ∀ e', o = some e' → e'.holdsKeys = true → e.holdsKeys = true)
    (hk : ∀ k v, slotGet keys k = some v → slotGet s.store.keys k = some v ∧
      (k ∈ e.refs.map (fun r => r.slot) → ∃ e', o = some e' ∧ e'.holdsKeys = e.holdsKeys ∧ e'.refs = e.refs)) :
    KeysKept s { s with store := { s.store with table := s.store.table.set i o, keys := keys } } := by
  have hread : ∀ j, State.entry { s with store := { s.store with table := s.store.table.set i o, keys := keys } } j =
      if i = j then o else s.entry j := by
    intro j
    refine (State.entry_setEntry s i j o).trans ?_
    simp only [State.entry_lt h, and_true]
  refine ⟨fun j e' he => ?_, fun href k v hv => ?_⟩
  · rw [hread] at he
    split at he
    · rename_i hij
      exact ⟨e, hij ▸ h, ho e' he⟩
    · exact ⟨e', he, id⟩
  · obtain ⟨hheld, hstay⟩ := hk k v hv
    obtain ⟨j, f, hf, hholds, r, hr, hrk⟩ := href k v hheld
    by_cases hij : i = j
    · subst hij
      obtain rfl : e = f := Option.some.inj (h.symm.trans hf)
      obtain ⟨e', rfl, hsame, hrefs⟩ := hstay (List.mem_map.mpr ⟨r, hr, hrk⟩)
      exact ⟨i, e', by rw [hread, if_pos rfl], hsame.trans hholds, r, hrefs ▸ hr, hrk⟩
    · exact ⟨j, f, by rw [hread, if_neg hij]; exact hf, hholds, r, hr, hrk⟩

/-- An entry is written with the references it has and no change in whether it holds keys. -/
theorem rewriteEntry_keysKept {s : State} {i : Nat} {e e' : ParcelEntry} (h : s.entry i = some e)
    (hholds : e'.holdsKeys = e.holdsKeys) (hrefs : e'.refs = e.refs) : KeysKept s (s.setEntry i (some e')) :=
  keysKept_write (keys := s.store.keys) h (fun f hf => by cases hf; exact fun hk => hholds ▸ hk)
    fun _ _ hv => ⟨hv, fun _ => ⟨e', rfl, hholds, hrefs⟩⟩

/-- The key slots of an entry are erased, and it is written or freed (02 R22). -/
theorem eraseWrite_keysKept {s : State} {i : Nat} {e : ParcelEntry} {o : Option ParcelEntry} (h : s.entry i = some e)
    (ho : ∀ e', o = some e' → e'.holdsKeys = true → e.holdsKeys = true) : KeysKept s { s with
      store := { s.store with table := s.store.table.set i o, keys := eraseKeys e.refs s.store.keys } } := by
  refine keysKept_write h ho fun k v hv => ?_
  rw [slotGet_eraseKeys] at hv
  split at hv
  · simp at hv
  · rename_i hnot
    exact ⟨hv, fun hmem => absurd hmem hnot⟩

/-! ## Records and grant counts -/

/-- No grant record names parcel entry `i`. -/
def Unnamed (s : State) (i : Nat) : Prop := ∀ g r, s.grant g = some r → r.parcel ≠ i

/-- The grant table is empty. -/
def NoGrants (s : State) : Prop := ∀ g, s.grant g = none

theorem NoGrants.unnamed {s : State} (h : NoGrants s) (i : Nat) : Unnamed s i :=
  fun g _ hr => (nomatch (h g).symm.trans hr)

theorem recordsNaming_eq (s : State) (i : Nat) :
    recordsNaming s i = countWhere (fun r => r.parcel == i) s.grants.slots := by
  unfold recordsNaming
  rw [List.countP_eq_length_filter, listUsed_filter_length fun r : Grant => r.parcel == i]

theorem recordsNaming_eq_zero {s : State} {i : Nat} : recordsNaming s i = 0 ↔ Unnamed s i := by
  unfold recordsNaming Unnamed
  rw [List.countP_eq_zero]
  simp only [Prod.forall, mem_listUsed, beq_iff_eq]
  exact Iff.rfl

/-- The clauses of `GrantsCounted` but for the counts: the records name the entries they named, no WAITING open is
added, and what guards the grant table stands as it did. -/
structure SameRecords (s t : State) : Prop where
  parcels : t.grants.slots.map (Option.map Grant.parcel) = s.grants.slots.map (Option.map Grant.parcel)
  waiting : s.openQueue.waiting = [] → t.openQueue.waiting = []
  phase : t.control.phase = s.control.phase
  service : t.control.service = s.control.service
  mode : t.stations.mode = s.stations.mode
  job : t.engine.job = some (.kat .startUp) → s.engine.job = some (.kat .startUp)

/-- What of the state `SameRecords` reads. -/
def recordView (s : State) : List (Option Nat) × List OpenReq × StartPhase × Service × Mode × Option Job :=
  (s.grants.slots.map (Option.map Grant.parcel), s.openQueue.waiting, s.control.phase, s.control.service,
    s.stations.mode, s.engine.job)

theorem SameRecords.of_view {s t : State} (h : recordView t = recordView s) : SameRecords s t := by
  simp only [recordView, Prod.mk.injEq] at h
  obtain ⟨hparcels, hwaiting, hphase, hservice, hmode, hjob⟩ := h
  exact ⟨hparcels, fun hw => hwaiting.trans hw, hphase, hservice, hmode, fun hj => hjob.symm.trans hj⟩

theorem SameRecords.trans {s t u : State} (h : SameRecords s t) (k : SameRecords t u) : SameRecords s u :=
  ⟨k.parcels.trans h.parcels, k.waiting ∘ h.waiting, k.phase.trans h.phase, k.service.trans h.service,
    k.mode.trans h.mode, h.job ∘ k.job⟩

theorem SameRecords.parcel {s t : State} (h : SameRecords s t) (g : Nat) :
    (t.grant g).map Grant.parcel = (s.grant g).map Grant.parcel := by
  unfold State.grant
  rw [← slotGet_map, ← slotGet_map]
  exact congrArg (slotGet · g) h.parcels

theorem SameRecords.recordsNaming {s t : State} (h : SameRecords s t) (i : Nat) :
    recordsNaming t i = recordsNaming s i := by
  have hcount : ∀ l : List (Option Grant), countWhere (fun r => r.parcel == i) l =
      (l.map (Option.map Grant.parcel)).countP (Option.any fun p => p == i) := by
    intro l
    rw [List.countP_map]; unfold countWhere; congr 1; funext o; cases o <;> rfl
  rw [recordsNaming_eq, recordsNaming_eq, hcount, hcount, h.parcels]

theorem SameRecords.noGrants {s t : State} (h : SameRecords s t) (hs : NoGrants s) : NoGrants t := by
  intro g
  have := h.parcel g
  rw [hs g] at this
  exact Option.map_eq_none_iff.mp this

/-- In STARTING and in SERVICE there is no record and no WAITING open. -/
theorem GrantsCounted.empty {s : State} (h : GrantsCounted s)
    (hs : s.control.service = .starting ∨ s.stations.mode = .service) : NoGrants s ∧ s.openQueue.waiting = [] :=
  h.none hs

/-- Before RETAINED_CHECK there is no record; after it an entry's count says whether one names it. -/
theorem GrantsCounted.unnamed {s : State} (h : GrantsCounted s) {i : Nat} {e : ParcelEntry} (he : s.entry i = some e)
    (h0 : e.grantCount = 0) : Unnamed s i := by
  cases hp : beforeCheck s.control.phase with
  | false => exact recordsNaming_eq_zero.mp ((h.counts hp i e he).symm.trans h0)
  | true =>
    have hphase : s.control.phase ≠ .none := fun heq => by rw [heq] at hp; exact absurd hp (by decide)
    exact (h.empty (.inl (h.phase hphase))).1.unnamed i

/-- With no record, entries past RETAINED_CHECK have grant count 0. -/
theorem GrantsCounted.zero {s : State} (h : GrantsCounted s) (hn : NoGrants s)
    (hp : beforeCheck s.control.phase = false) {i : Nat} {e : ParcelEntry} (he : s.entry i = some e) :
    e.grantCount = 0 := (h.counts hp i e he).trans (recordsNaming_eq_zero.mpr (hn.unnamed i))

/-- What a state without records and WAITING opens needs for its grants to be counted. -/
theorem grantsCounted_of_empty {t : State} (hn : NoGrants t) (hw : t.openQueue.waiting = [])
    (hc : beforeCheck t.control.phase = false → ∀ i e, t.entry i = some e → e.grantCount = 0)
    (hp : t.control.phase ≠ .none → t.control.service = .starting)
    (hj : t.engine.job = some (.kat .startUp) → t.control.phase = .engineTest) : GrantsCounted t where
  counts hb i e he := (hc hb i e he).trans (recordsNaming_eq_zero.mpr (hn.unnamed i)).symm
  named g _ hr := nomatch (hn g).symm.trans hr
  none _ := ⟨hn, hw⟩
  phase := hp
  startUpKat := hj

/-- With the records as they were, grants stay counted when each entry keeps its count, and those that leave are named
by no record. -/
theorem GrantsCounted.of_sameRecords {s t : State} (h : GrantsCounted s) (hr : SameRecords s t)
    (he : ∀ i, (t.entry i).map ParcelEntry.grantCount = (s.entry i).map ParcelEntry.grantCount ∨
      (t.entry i = Option.none ∧ Unnamed s i)) : GrantsCounted t where
  counts hb i e' hi := by
    rw [hr.phase] at hb
    rw [hr.recordsNaming]
    rcases he i with hsame | ⟨hnone, -⟩
    · rw [hi] at hsame
      obtain ⟨e, hs, hcount⟩ := Option.map_eq_some_iff.mp hsame.symm
      exact hcount.symm.trans (h.counts hb i e hs)
    · exact nomatch hi.symm.trans hnone
  named g r' hg := by
    have hparcel := hr.parcel g
    rw [hg] at hparcel
    obtain ⟨r, hs, hp⟩ := Option.map_eq_some_iff.mp hparcel.symm
    have hused := h.named g r hs
    rw [hp] at hused
    rcases he r'.parcel with hsame | ⟨-, hun⟩
    · rw [← Option.isSome_map, hsame, Option.isSome_map]; exact hused
    · exact absurd hp (hun g r hs)
  none hs := by
    rw [hr.service, hr.mode] at hs
    obtain ⟨hn, hw⟩ := h.empty hs
    exact ⟨hr.noGrants hn, hr.waiting hw⟩
  phase := by rw [hr.phase, hr.service]; exact h.phase
  startUpKat hj := by rw [hr.phase]; exact h.startUpKat (hr.job hj)

/-! ## What a command keeps -/

/-- What every command but VERIFY_POSTING keeps of the parcel table, the key store and the grant table. -/
structure Orderly (s t : State) : Prop extends KeysKept s t where
  counts : GrantsCounted s → GrantsCounted t

theorem Orderly.trans {s t u : State} (h : Orderly s t) (k : Orderly t u) : Orderly s u :=
  ⟨h.toKeysKept.trans k.toKeysKept, k.counts ∘ h.counts⟩

/-- Work that touches neither the parcel table nor the key store, and leaves the records as they were. -/
structure Unmoved (s t : State) : Prop extends SameRecords s t where
  table : t.store.table = s.store.table
  keys : t.store.keys = s.store.keys

theorem Unmoved.of_view {s t : State}
    (h : (recordView t, t.store.table, t.store.keys) = (recordView s, s.store.table, s.store.keys)) : Unmoved s t := by
  simp only [Prod.mk.injEq] at h
  obtain ⟨hrecords, htable, hkeys⟩ := h
  exact ⟨.of_view hrecords, htable, hkeys⟩

theorem Unmoved.trans {s t u : State} (h : Unmoved s t) (k : Unmoved t u) : Unmoved s u :=
  ⟨h.toSameRecords.trans k.toSameRecords, k.table.trans h.table, k.keys.trans h.keys⟩

theorem Unmoved.orderly {s t : State} (h : Unmoved s t) : Orderly s t :=
  ⟨.of_store h.table h.keys, fun k => k.of_sameRecords h.toSameRecords fun i => .inl (by
    unfold State.entry; rw [h.table])⟩

theorem Orderly.refl (s : State) : Orderly s s := Unmoved.orderly (.of_view rfl)

/-- A record written with the entry it names. -/
theorem setGrant_unmoved {s : State} {g : Nat} {r q : Grant} (h : s.grant g = some r) (hp : q.parcel = r.parcel) :
    Unmoved s (s.setGrant g (some q)) := by
  have hself : (s.grants.slots.map (Option.map Grant.parcel))[g]? = some (some r.parcel) := by
    rw [List.getElem?_map, slotGet_eq_some.mp h]; rfl
  obtain ⟨hlt, hget⟩ := List.getElem?_eq_some_iff.mp hself
  refine ⟨⟨?_, id, rfl, rfl, rfl, id⟩, rfl, rfl⟩
  rw [State.setGrant_grants_slots, List.map_set, Option.map_some, hp, ← hget, List.set_getElem_self]

/-- WAITING opens leave the queue, or none was there. -/
theorem setOpenQueue_unmoved {s : State} {q : OpenQueue} (h : s.openQueue.waiting = [] → q.waiting = []) :
    Unmoved s { s with openQueue := q } := ⟨⟨rfl, h, rfl, rfl, rfl, id⟩, rfl, rfl⟩

/-- The engine's job ends, or is another than the start-up KAT. -/
theorem setEngine_unmoved {s : State} {e : Engine} (h : e.job ≠ some (.kat .startUp)) :
    Unmoved s { s with engine := e } := ⟨⟨rfl, id, rfl, rfl, rfl, fun hj => absurd hj h⟩, rfl, rfl⟩

/-- The work of erasure, lapse and freeing leaves the records as they were. -/
theorem OnlyParcels.sameRecords {s t : State} (h : OnlyParcels s t) : SameRecords s t := by
  unfold OnlyParcels at h
  rw [h]
  exact .of_view rfl

end Sys2Proof.Machine
end

section
/-! PROOFS. Parcel entries, firing, a backward trim and a rebuild keep the tables in order (O10, O11, O12). -/

namespace Sys2Proof.Machine

/-! ## Parcel entries -/

/-- An entry is written with its references, its grant count, and no change in whether it holds keys. -/
theorem rewriteEntry_orderly {s : State} {i : Nat} {e e' : ParcelEntry} (h : s.entry i = some e)
    (hholds : e'.holdsKeys = e.holdsKeys) (hrefs : e'.refs = e.refs) (hcount : e'.grantCount = e.grantCount) :
    Orderly s (s.setEntry i (some e')) := by
  refine ⟨rewriteEntry_keysKept h hholds hrefs, fun k => k.of_sameRecords (.of_view rfl) fun j => .inl ?_⟩
  rw [State.entry_setEntry]
  split
  · rename_i hij
    rw [← hij.1, h, Option.map_some, Option.map_some, hcount]
  · rfl

/-- The key slots of an entry are erased, and it is written with its grant count. -/
theorem eraseWrite_orderly {s : State} {i : Nat} {e : ParcelEntry} (e' : ParcelEntry) (h : s.entry i = some e)
    (hholds : e'.holdsKeys = true → e.holdsKeys = true) (hcount : e'.grantCount = e.grantCount) : Orderly s { s with
      store := { s.store with table := s.store.table.set i (some e'), keys := eraseKeys e.refs s.store.keys } } := by
  refine ⟨eraseWrite_keysKept h fun f hf => by cases hf; exact hholds,
    fun k => k.of_sameRecords (.of_view rfl) fun j => .inl ?_⟩
  refine (congrArg _ (State.entry_setEntry s i j (some e'))).trans ?_
  split
  · rename_i hij
    rw [← hij.1, h, Option.map_some, Option.map_some, hcount]
  · rfl

theorem setEntryState_eq {s : State} {i : Nat} {e : ParcelEntry} (st : ParcelState) (h : s.entry i = some e) :
    setEntryState i st s = s.setEntry i (some { e with state := st }) := by simp only [setEntryState, h]

/-- A state is given to its own entry alone. -/
theorem setEntryState_entry_ne {i j : Nat} (st : ParcelState) (s : State) (h : i ≠ j) :
    (setEntryState i st s).entry j = s.entry j := by
  cases he : s.entry i with
  | none => simp only [setEntryState, he]
  | some e => rw [setEntryState_eq st he, State.entry_setEntry]; simp [h]

/-- An entry that holds keys passes between LATENT and LIVE. -/
theorem setEntryState_orderly {s : State} {i : Nat} {e : ParcelEntry} {st : ParcelState} (h : s.entry i = some e)
    (hholds : e.holdsKeys = true) (hst : st = .latent ∨ st = .live) : Orderly s (setEntryState i st s) := by
  rw [setEntryState_eq st h]
  refine rewriteEntry_orderly h (.trans ?_ hholds.symm) rfl rfl
  rcases hst with rfl | rfl <;> rfl

/-- The state in which an entry has lapsed (07 R117). -/
theorem lapseEntry_eq {s : State} {i : Nat} {e : ParcelEntry} (h : s.entry i = some e) :
    lapseEntry i s = raisePulse Src.parcelLapsed { s with
      store := { s.store with
        table := s.store.table.set i (some { e with state := .lapsed, refs := [] })
        keys := eraseKeys e.refs s.store.keys } } := by
  have hself : (s.setEntry i (some { e with state := .lapsed })).entry i = some { e with state := .lapsed } := by
    rw [State.entry_setEntry, if_pos ⟨rfl, State.entry_lt h⟩]
  simp only [lapseEntry, setEntryState_eq _ h, eraseEntry, hself]
  simp [State.setEntry]

theorem lapseEntry_orderly (i : Nat) (s : State) : Orderly s (lapseEntry i s) := by
  cases h : s.entry i with
  | none =>
    have hraised : Unmoved s (raisePulse Src.parcelLapsed s) := .of_view rfl
    simpa only [lapseEntry, setEntryState, eraseEntry, h] using hraised.orderly
  | some e =>
    rw [lapseEntry_eq h]
    have herased := eraseWrite_orderly { e with state := .lapsed, refs := [] } h (by simp [ParcelEntry.holdsKeys]) rfl
    exact herased.trans (Unmoved.orderly (.of_view rfl))

theorem freeEntry_keysKept {s : State} {i : Nat} {e : ParcelEntry} (h : s.entry i = some e) :
    KeysKept s (freeEntry i s) := by
  rw [freeEntry_eq h]
  exact (eraseWrite_keysKept (o := none) h fun _ hf => nomatch hf).trans (.of_store rfl rfl)

/-- An entry is freed that no record names (02 R26). -/
theorem freeEntry_counts {s : State} {i : Nat} (h : GrantsCounted s) (hun : Unnamed s i) :
    GrantsCounted (freeEntry i s) := by
  refine h.of_sameRecords (freeEntry_only i s).sameRecords fun j => ?_
  rw [freeEntry_entry]
  by_cases hij : i = j
  · exact .inr ⟨if_pos hij, hij ▸ hun⟩
  · rw [if_neg hij]; exact .inl rfl

/-- An entry with grant count 0 is freed (02 R26). -/
theorem freeEntry_orderly {s : State} {i : Nat} {e : ParcelEntry} (h : s.entry i = some e) (h0 : e.grantCount = 0) :
    Orderly s (freeEntry i s) :=
  ⟨freeEntry_keysKept h, fun k => freeEntry_counts k (k.unnamed h h0)⟩

theorem freeAtZero_keysKept (i : Nat) (s : State) : KeysKept s (freeAtZero i s) := by
  unfold freeAtZero
  split
  · exact .of_store rfl rfl
  · split
    · exact freeEntry_keysKept (by assumption)
    · exact .of_store rfl rfl

theorem countDown_keysKept (i : Nat) (s : State) : KeysKept s (countDown i s) := by
  unfold countDown
  split
  · exact .of_store rfl rfl
  · rename_i h
    refine KeysKept.trans ?_ (freeAtZero_keysKept ..)
    exact rewriteEntry_keysKept h rfl rfl

theorem countUp_keysKept (i : Nat) (s : State) : KeysKept s (countUp i s) := by
  unfold countUp
  split
  · exact .of_store rfl rfl
  · rename_i h
    exact rewriteEntry_keysKept h rfl rfl

/-! ## Grants that expire -/

theorem expireGrant_unmoved (g : Nat) (why : Reason) (s : State) : Unmoved s (expireGrant g why s) := by
  unfold expireGrant
  split
  · exact .of_view rfl
  · rename_i r h
    exact (setGrant_unmoved (q := { r with state := .expiring why }) h rfl).trans (.of_view rfl)

theorem forceExpiry_unmoved (pick : Grant → Bool) (why : Reason) (s : State) :
    Unmoved s (forceExpiry pick why s) := by
  unfold forceExpiry
  split
  · exact .of_view rfl
  · refine Unmoved.trans (foldl_chain (R := Unmoved) (fun _ => .of_view rfl) .trans ?_ _ s) (.of_view rfl)
    exact fun t g => expireGrant_unmoved g why t

/-! ## Firing -/

theorem fireWindowStart_orderly (i : Nat) (s : State) : Orderly s (fireWindowStart i s) := by
  unfold fireWindowStart
  split
  · rename_i e h
    split
    · rename_i hlatent
      exact setEntryState_orderly h (by simp [ParcelEntry.holdsKeys, hlatent]) (.inr rfl)
    · exact .refl s
  · exact .refl s

theorem fireWindowEnd_orderly (i : Nat) (s : State) : Orderly s (fireWindowEnd i s) := by
  unfold fireWindowEnd
  split
  · split
    · exact (lapseEntry_orderly i s).trans (Unmoved.orderly (.of_view rfl))
    · exact .refl s
  · exact .refl s

theorem firePurge_orderly (i : Nat) (s : State) : Orderly s (firePurge i s) := by
  unfold firePurge
  split
  · rename_i e h
    split
    · split
      · exact freeEntry_orderly h (by assumption)
      · exact rewriteEntry_orderly h rfl rfl rfl
    · exact .refl s
  · exact .refl s

theorem fireSpanEnd_unmoved (g : Nat) (s : State) : Unmoved s (fireSpanEnd g s) := by
  unfold fireSpanEnd
  split
  · split
    · exact (expireGrant_unmoved ..).trans (.of_view rfl)
    · exact .of_view rfl
  · exact .of_view rfl

theorem fireOne_orderly (d : Deadline) (s : State) : Orderly s (fireOne d s) := by
  unfold fireOne
  split
  · exact fireWindowStart_orderly ..
  · exact fireWindowEnd_orderly ..
  · exact firePurge_orderly ..
  · exact (fireSpanEnd_unmoved ..).orderly

theorem fireDue_orderly (fuel n : Nat) (s : State) : Orderly s (fireDue fuel n s) := by
  induction fuel generalizing s with
  | zero => exact .refl s
  | succ fuel ih =>
    unfold fireDue
    split
    · exact .refl s
    · rename_i d rest _
      split
      · have htail : Unmoved s { s with deadlines := rest } := .of_view rfl
        exact (htail.orderly.trans (fireOne_orderly d _)).trans (ih _)
      · exact .refl s

theorem runDeadlines_orderly (n : Nat) (s : State) : Orderly s (runDeadlines n s) := fireDue_orderly ..

/-! ## Work on each entry in use, in ascending index order -/

section
variable {f : State → Nat × ParcelEntry → State} (hother : ∀ t p j, p.1 ≠ j → (f t p).entry j = t.entry j)
include hother

theorem foldl_entry_of_ne {l : List (Nat × ParcelEntry)} {j : Nat} (hl : ∀ p ∈ l, p.1 ≠ j) (s : State) :
    (l.foldl f s).entry j = s.entry j := by
  induction l generalizing s with
  | nil => rfl
  | cons p l ih =>
    rw [List.foldl_cons, ih fun q hq => hl q (List.mem_cons_of_mem _ hq)]
    exact hother s p j (hl p List.mem_cons_self)

/-- The work on one entry finds it as it was, and leaves it as it will be. -/
theorem foldl_entry_turn {l : List (Nat × ParcelEntry)} (hsort : l.Pairwise fun p q => p.1 < q.1)
    {p : Nat × ParcelEntry} (hp : p ∈ l) (s : State) :
    ∃ t, t.entry p.1 = s.entry p.1 ∧ (l.foldl f s).entry p.1 = (f t p).entry p.1 := by
  induction l generalizing s with
  | nil => simp at hp
  | cons q l ih =>
    obtain ⟨hq, hl⟩ := List.pairwise_cons.mp hsort
    rcases List.mem_cons.mp hp with rfl | hmem
    · exact ⟨s, rfl, foldl_entry_of_ne hother (fun r hr => Nat.ne_of_gt (hq r hr)) _⟩
    · obtain ⟨t, ht, hfold⟩ := ih hl hmem (f s q)
      exact ⟨t, ht.trans (hother s q p.1 (Nat.ne_of_lt (hq p hmem))), hfold⟩

/-- A relation that chains is kept over the entries in use when it is kept by the work on each entry as it stood. -/
theorem foldl_listUsed_chain {R : State → State → Prop} (hrefl : ∀ s, R s s)
    (htrans : ∀ {s t u}, R s t → R t u → R s u) (hf : ∀ t p, t.entry p.1 = some p.2 → R t (f t p)) (s : State) :
    R s ((listUsed s.store.table).foldl f s) := by
  suffices h : ∀ (l : List (Nat × ParcelEntry)) (t : State), l.Pairwise (fun p q => p.1 < q.1) →
      (∀ p ∈ l, t.entry p.1 = some p.2) → R t (l.foldl f t) from
    h _ s (listUsed_ascending _) fun p hp => mem_listUsed.mp hp
  intro l
  induction l with
  | nil => exact fun t _ _ => hrefl t
  | cons p l ih =>
    intro t hsort hl
    obtain ⟨hp, hsort'⟩ := List.pairwise_cons.mp hsort
    refine htrans (hf t p (hl p List.mem_cons_self)) (ih _ hsort' fun q hq => ?_)
    rw [hother t p q.1 (Nat.ne_of_lt (hp q hq))]
    exact hl q (List.mem_cons_of_mem _ hq)

end

/-- A backward trim returns LIVE entries to LATENT (07 R119). -/
theorem returnLatent_orderly (n : Nat) (s : State) : Orderly s (returnLatent n s) := by
  refine foldl_listUsed_chain (fun t p j hj => ?_) .refl .trans (fun t p hp => ?_) s
  · split
    · exact setEntryState_entry_ne _ t hj
    · rfl
  · split
    · rename_i hlive
      exact (setEntryState_orderly hp (by simp [ParcelEntry.holdsKeys, hlive.1]) (.inl rfl)).trans (Unmoved.orderly (.of_view rfl))
    · exact .refl t

/-! ## A rebuild, where no grant exists -/

/-- Orderly work that counts on the grant table being empty, and leaves it so. -/
structure OrderlyIdle (s t : State) : Prop extends SameRecords s t, KeysKept s t where
  counts : NoGrants s → GrantsCounted s → GrantsCounted t

theorem OrderlyIdle.trans {s t u : State} (h : OrderlyIdle s t) (k : OrderlyIdle t u) : OrderlyIdle s u :=
  ⟨h.toSameRecords.trans k.toSameRecords, h.toKeysKept.trans k.toKeysKept,
    fun hn hs => k.counts (h.noGrants hn) (h.counts hn hs)⟩

theorem Orderly.idle {s t : State} (h : Orderly s t) (hr : SameRecords s t) : OrderlyIdle s t :=
  ⟨hr, h.toKeysKept, fun _ => h.counts⟩

theorem Unmoved.idle {s t : State} (h : Unmoved s t) : OrderlyIdle s t := h.orderly.idle h.toSameRecords

theorem rebuildLapse_idle (n : Nat) (s : State) : OrderlyIdle s (rebuildLapse n s) := by
  unfold rebuildLapse
  refine foldl_chain (R := OrderlyIdle) (fun _ => Unmoved.idle (.of_view rfl)) .trans (fun t p => ?_) _ s
  exact (lapseEntry_orderly p.1 t).idle (lapseEntry_only p.1 t).sameRecords

theorem rebuildClassify_idle (n : Nat) (s : State) : OrderlyIdle s (rebuildClassify n s) := by
  refine foldl_listUsed_chain (fun t p j hj => ?_) (fun _ => Unmoved.idle (.of_view rfl)) .trans (fun t p hp => ?_) s
  · split
    · exact setEntryState_entry_ne _ t hj
    · rfl
  · split
    · refine (setEntryState_orderly hp (by assumption) ?_).idle (setEntryState_only ..).sameRecords
      split
      · exact .inr rfl
      · exact .inl rfl
    · exact Unmoved.idle (.of_view rfl)

/-- A rebuild frees purge-due entries whatever their grant count (07 R122). -/
theorem rebuildPurge_idle (n : Nat) (s : State) : OrderlyIdle s (rebuildPurge n s) := by
  refine foldl_listUsed_chain (fun t p j hj => ?_) (fun _ => Unmoved.idle (.of_view rfl)) .trans (fun t p hp => ?_) s
  · split
    · rw [freeEntry_entry, if_neg hj]
    · rfl
  · split
    · exact ⟨(freeEntry_only ..).sameRecords, freeEntry_keysKept hp, fun hn hs => freeEntry_counts hs (hn.unnamed _)⟩
    · exact Unmoved.idle (.of_view rfl)

theorem rebuildInsert_unmoved (s : State) : Unmoved s (rebuildInsert s) :=
  foldl_chain (R := Unmoved) (fun _ => .of_view rfl) .trans (fun t _ => by
    rw [foldl_addDeadline]; exact .of_view rfl) _ s

theorem rebuildList_idle (n : Nat) (s : State) : OrderlyIdle s (rebuildList n s) := by
  have hempty : Unmoved s { s with deadlines := [] } := .of_view rfl
  exact hempty.idle.trans ((rebuildLapse_idle n _).trans ((rebuildClassify_idle n _).trans
    ((rebuildPurge_idle n _).trans (rebuildInsert_unmoved _).idle)))

end Sys2Proof.Machine
end

section
/-! PROOFS. Records that are freed and made keep the grants counted; every request keeps the tables in order (O10, O11,
O12). -/

namespace Sys2Proof.Machine

/-! ## Records freed and made -/

/-- Out of STARTING and in SHOW, with no start-up under way. -/
structure Serving (s : State) : Prop where
  service : s.control.service ≠ .starting
  mode : s.stations.mode ≠ .service
  phase : s.control.phase = .none
  job : s.engine.job ≠ some (.kat .startUp)

/-- A record or a WAITING open is found only where grants are served (06 R110, 08 R141). -/
theorem GrantsCounted.serving {s : State} (h : GrantsCounted s) (hb : ¬(NoGrants s ∧ s.openQueue.waiting = [])) :
    Serving s := by
  have hservice : s.control.service ≠ .starting := fun hs => hb (h.empty (.inl hs))
  have hphase : s.control.phase = .none := by
    by_contra hp
    exact hservice (h.phase hp)
  exact ⟨hservice, fun hs => hb (h.empty (.inr hs)), hphase, fun hj => (nomatch hphase.symm.trans (h.startUpKat hj))⟩

theorem GrantsCounted.serving_of_grant {s : State} (h : GrantsCounted s) {g : Nat} {r : Grant}
    (hr : s.grant g = some r) : Serving s := h.serving fun hb => nomatch (hb.1 g).symm.trans hr

/-- What a state in which grants are served needs for them to be counted. -/
theorem Serving.grantsCounted {t : State} (ht : Serving t)
    (hcounts : ∀ i e, t.entry i = some e → e.grantCount = recordsNaming t i)
    (hnamed : ∀ g r, t.grant g = some r → (t.entry r.parcel).isSome = true) : GrantsCounted t where
  counts _ := hcounts
  named := hnamed
  none hs := (hs.elim ht.service ht.mode).elim
  phase hp := absurd ht.phase hp
  startUpKat hj := absurd hj ht.job

/-- A slot that is written trades the entry its record named for the one that its record names now. -/
theorem recordsNaming_set {s t : State} {g : Nat} {o : Option Grant} (hg : g < s.grants.slots.length)
    (ht : t.grants.slots = s.grants.slots.set g o) (i : Nat) :
    recordsNaming t i + ((s.grant g).any fun r => r.parcel == i).toNat =
      recordsNaming s i + (o.any fun r => r.parcel == i).toNat := by
  rw [recordsNaming_eq, recordsNaming_eq, ht]
  exact countWhere_set (fun r : Grant => r.parcel == i) o hg

theorem recordsNaming_pos {s : State} {g : Nat} {r : Grant} (h : s.grant g = some r) :
    0 < recordsNaming s r.parcel := by
  rw [Nat.pos_iff_ne_zero, Ne, recordsNaming_eq_zero]
  exact fun hun => hun g r h rfl

theorem freeGrant_slots {g : Nat} {r : Grant} {s : State} (h : s.grant g = some r) :
    (freeGrant g s).grants.slots = s.grants.slots.set g none := by
  rw [freeGrant_eq h, countDown_only]; rfl

/-- A freed record leaves its entry's count one lower, and an entry that leaves with it is named by no other record
(02 R24, R26). -/
theorem freeGrant_counts {g : Nat} {r : Grant} {s : State} (h : GrantsCounted s) (hr : s.grant g = some r) :
    GrantsCounted (freeGrant g s) := by
  have freed := freeGrant_recordFreed hr
  have hserving := h.serving_of_grant hr
  have hcounts : ∀ i e, s.entry i = some e → e.grantCount = recordsNaming s i :=
    h.counts (by rw [hserving.phase]; decide)
  obtain ⟨e, he⟩ := Option.isSome_iff_exists.mp (h.named g r hr)
  have hentry := freed.entry e he
  have hcount := hcounts r.parcel e he
  have hset : ∀ i, recordsNaming (freeGrant g s) i + (r.parcel == i).toNat = recordsNaming s i := fun i => by
    simpa [hr] using recordsNaming_set (State.grant_lt hr) (freeGrant_slots hr) i
  have hown : recordsNaming (freeGrant g s) r.parcel + 1 = recordsNaming s r.parcel := by
    simpa using hset r.parcel
  refine Serving.grantsCounted (by rw [freeGrant_only g s]; exact { hserving with }) (fun i e' hi => ?_)
    fun k q hq => ?_
  · by_cases hir : i = r.parcel
    · subst hir
      rw [hentry] at hi
      split at hi
      · simp at hi
      · obtain rfl := Option.some.inj hi
        dsimp only; omega
    · rw [freed.entries i hir] at hi
      have := hset i
      rw [beq_eq_false_iff_ne.mpr (Ne.symm hir), Bool.toNat_false] at this
      rw [hcounts i e' hi]; omega
  · have hk : k ≠ g := fun hkg => by rw [hkg, freed.slot] at hq; simp at hq
    by_cases hqr : q.parcel = r.parcel
    · have hpos := recordsNaming_pos hq
      rw [hqr] at hpos ⊢
      rw [hentry, if_neg (by omega)]; rfl
    · rw [freed.entries q.parcel hqr]
      exact h.named k q (by rw [← freed.others k hk]; exact hq)

theorem freeGrant_orderly (g : Nat) (s : State) : Orderly s (freeGrant g s) := by
  cases hr : s.grant g with
  | none => simp only [freeGrant, hr]; exact .refl s
  | some r =>
    refine ⟨?_, fun h => freeGrant_counts h hr⟩
    have hout : KeysKept s (withoutGrant g s) := .of_store rfl rfl
    rw [freeGrant_eq hr]
    exact hout.trans (countDown_keysKept ..)

theorem countUp_entry (i j : Nat) (s : State) : (countUp i s).entry j =
    if i = j then (s.entry j).map (fun e => { e with grantCount := e.grantCount + 1 }) else s.entry j := by
  cases h : s.entry i with
  | none =>
    simp only [countUp, h]
    split
    · rename_i hij
      rw [← hij, h]; rfl
    · rfl
  | some e =>
    simp only [countUp, h, State.entry_setEntry, State.entry_lt h, and_true]
    split
    · rename_i hij
      rw [← hij, h]; rfl
    · rfl

/-- The selected open's record is made, for an entry in use, and counted (05 R80, 02 R24). -/
theorem startRewrap_orderly {i g : Nat} {w : OpenReq} {p : OpenPlan} {s : State} {e : ParcelEntry}
    (hi : s.openQueue.waiting[i]? = some w) (hg : lowestFree s.grants.slots = some g)
    (he : s.entry p.parcel = some e) : Orderly s (startRewrap g w p (removeWaiting i s)) := by
  obtain ⟨hlt, hfree, -⟩ := lowestFree_eq_some.mp hg
  have hkeys : KeysKept s (startRewrap g w p (removeWaiting i s)) := by
    refine KeysKept.trans (KeysKept.trans ?_ (countUp_keysKept p.parcel _)) (.of_store rfl rfl)
    exact .of_store rfl rfl
  refine ⟨hkeys, fun h => ?_⟩
  have hserving : Serving s := h.serving fun hb => by rw [hb.2] at hi; simp at hi
  have hcounts := h.counts (by rw [hserving.phase]; decide)
  generalize ht : startRewrap g w p (removeWaiting i s) = t
  have hentry : ∀ j, t.entry j =
      if p.parcel = j then (s.entry j).map (fun e => { e with grantCount := e.grantCount + 1 }) else s.entry j := by
    intro j; subst ht; exact countUp_entry ..
  have hslots : ∃ r : Grant, r.parcel = p.parcel ∧ t.grants.slots = s.grants.slots.set g (some r) := by
    subst ht
    refine ⟨_, ?_, (congrArg (fun u : State => u.grants.slots) (countUp_only ..)).trans rfl⟩
    rfl
  obtain ⟨r, hparcel, hslots⟩ := hslots
  have hset : ∀ j, recordsNaming t j = recordsNaming s j + (p.parcel == j).toNat := fun j => by
    have hnone : s.grant g = none := hfree
    simpa [hnone, hparcel] using recordsNaming_set hlt hslots j
  refine Serving.grantsCounted ?_ (fun j e' hj => ?_) fun k q hq => ?_
  · subst ht
    unfold startRewrap
    dsimp only
    rw [countUp_only]
    exact { hserving with job := nofun }
  · rw [hentry] at hj
    rw [hset]
    split at hj
    · rename_i hpj
      obtain ⟨e₀, he₀, rfl⟩ := Option.map_eq_some_iff.mp hj
      rw [← hcounts j e₀ he₀, beq_iff_eq.mpr hpj]; rfl
    · rename_i hpj
      rw [← hcounts j e' hj, beq_eq_false_iff_ne.mpr hpj]; rfl
  · have hused : ∀ j, (s.entry j).isSome = true → (t.entry j).isSome = true := fun j hj => by
      rw [hentry]; split <;> simpa using hj
    unfold State.grant at hq
    rw [hslots, slotGet_set] at hq
    split at hq
    · obtain rfl := Option.some.inj hq
      exact hused _ (by rw [hparcel, he]; rfl)
    · exact hused _ (h.named k q hq)

/-! ## Requests -/

/-- An owner keeps the tables in order. -/
def OwnerOrderly (owner : Owner) : Prop := ∀ who f s, MayPost s → Orderly s (owner who f s)

theorem Orderly.reply {s t : State} (h : Orderly s t) {f : Frame} {r : Reply} : Orderly s (reply f r t) :=
  h.trans (Unmoved.orderly (.of_view rfl))

theorem Orderly.replyLater {s t : State} (h : Orderly s t) {who : Requester} {k : Kind} {r : Reply} :
    Orderly s (replyLater who k r t) := h.trans (Unmoved.orderly (.of_view rfl))

theorem Unmoved.reply {s t : State} (h : Unmoved s t) {f : Frame} {r : Reply} : Orderly s (reply f r t) :=
  h.orderly.reply

theorem checked_orderly {f : Frame} {cs : List (Bool × Reply)} {act : State → State} {s : State}
    (hact : (∀ c ∈ cs, c.1 = false) → Orderly s (act s)) : Orderly s (checked f cs act s) := by
  rcases checked_passed f cs act s with ⟨r, he⟩ | ⟨hpass, he⟩ <;> rw [he]
  · exact (Orderly.refl s).reply
  · exact hact hpass

theorem settle_orderly {owner : Owner} (h : OwnerOrderly owner) (f : Frame) {s : State} (hr : MayPost s) :
    Orderly s (settle owner f s) := by
  unfold settle
  split
  · exact Unmoved.orderly (.of_view rfl)
  · exact h _ f s hr

theorem takeRequest_orderly (k : Kind) (src : Addr) (tag : Byte) (body : List Byte) {owner : Owner}
    (h : OwnerOrderly owner) (s : State) : Orderly s (takeRequest k src tag body owner s) := by
  unfold takeRequest
  split
  · rename_i hr
    exact settle_orderly h _ (canTake_eq_true.mp hr)
  · exact .refl s

/-! ### Parcels -/

theorem withdrawStaged_orderly (i : Nat) (p : StagingPlace) (f : Frame) (s : State) :
    Orderly s (withdrawStaged i p f s) := by
  unfold withdrawStaged
  split
  · refine Unmoved.reply ?_
    split <;> exact .of_view rfl
  · refine Unmoved.reply ?_
    exact .of_view rfl
  · exact .refl s

theorem withdrawEntry_eq {s : State} {i : Nat} {e : ParcelEntry} (h : s.entry i = some e) :
    withdrawEntry i e s = dropParcelDeadlines i { s with store := { s.store with
      table := s.store.table.set i (some { e with state := .withdrawn, refs := [], purgeDue := false })
      keys := eraseKeys e.refs s.store.keys } } := by
  have hself : (s.setEntry i (some { e with state := .withdrawn, purgeDue := false })).entry i =
      some { e with state := .withdrawn, purgeDue := false } := by
    rw [State.entry_setEntry, if_pos ⟨rfl, State.entry_lt h⟩]
  simp only [withdrawEntry, eraseEntry, hself]
  simp [State.setEntry]

theorem withdrawEntry_orderly {s : State} {i : Nat} {e : ParcelEntry} (h : s.entry i = some e) :
    Orderly s (withdrawEntry i e s) := by
  have herased := eraseWrite_orderly { e with state := .withdrawn, refs := [], purgeDue := false } h
    (by simp [ParcelEntry.holdsKeys]) rfl
  rw [withdrawEntry_eq h]
  exact herased.trans (Unmoved.orderly (.of_view rfl))

theorem withdrawCommitted_orderly {i : Nat} {e : ParcelEntry} (force : Bool) (f : Frame) {s : State}
    (h : s.entry i = some e) : Orderly s (withdrawCommitted i e force f s) := by
  unfold withdrawCommitted
  split
  · exact (freeEntry_orderly h (by assumption)).reply
  · exact ((withdrawEntry_orderly h).trans (forceExpiry_unmoved ..).orderly).reply

theorem ownParcelWithdraw_orderly : OwnerOrderly ownParcelWithdraw := fun _ f s _ =>
  checked_orderly fun _ => by
    unfold withdraw
    dsimp only
    split
    · split
      · exact withdrawStaged_orderly ..
      · exact .refl s
    · split
      · rename_i p hp
        exact withdrawCommitted_orderly _ f (mem_listUsed.mp (List.mem_of_find?_eq_some hp))
      · exact (Orderly.refl s).reply

/-! ### Opens and grants -/

/-- WAITING opens are added only where grants are served. -/
theorem queueOpens_orderly {s : State} (hservice : s.control.service ≠ .starting) (hmode : s.stations.mode ≠ .service)
    (q : OpenQueue) : Orderly s { s with openQueue := q } :=
  ⟨.of_store rfl rfl, fun h => { h with none := fun hs => (hs.elim hservice hmode).elim }⟩

theorem admitOpen_orderly (slot : Nat) (e : Station) (f : Frame) {s : State} (hr : MayPost s)
    (hmode : s.stations.mode ≠ .service) : Orderly s (admitOpen slot e f s) := by
  have htokens : ∀ k, Unmoved s (putTokens slot e k s) := fun _ => .of_view rfl
  unfold admitOpen
  dsimp only
  split
  · refine Unmoved.reply ?_
    exact .of_view rfl
  · split
    · exact (htokens _).reply
    · exact (htokens _).orderly.trans (queueOpens_orderly (s := putTokens slot e _ s) hr.1.2 hmode _)

theorem ownOpen_orderly : OwnerOrderly ownOpen := fun who f s hr =>
  checked_orderly fun hpass => by
    have hmode : s.stations.mode ≠ .service := by
      simpa using hpass (s.stations.mode == .service, refuse .mode) (by simp [openChecks])
    cases who with
    | station slot e => exact admitOpen_orderly slot e f hr hmode
    | boot => exact .refl s

theorem ownClose_orderly : OwnerOrderly ownClose := fun _ f s _ =>
  checked_orderly fun _ => by
    unfold closeGrant
    dsimp only
    split
    · exact .refl s
    · exact (freeGrant_orderly ..).reply

theorem moveSpanEnd_unmoved {g : Nat} {r : Grant} {s : State} (h : s.grant g = some r) (x : Nat) :
    Unmoved s (moveSpanEnd g r x s) :=
  (setGrant_unmoved (q := { r with x := x, used := r.used + (x - r.x) }) h rfl).trans (.of_view rfl)

theorem ownExtend_orderly : OwnerOrderly ownExtend := fun _ f s _ =>
  checked_orderly fun _ => by
    unfold extendGrant
    dsimp only
    split
    · exact .refl s
    · rename_i r hn
      split
      · refine Unmoved.reply ?_
        exact moveSpanEnd_unmoved (namedGrant_some hn) _
      · exact (Orderly.refl s).reply

/-! ### Booth time -/

theorem moveBooth_unmoved (a : Int) (s : State) : Unmoved s (moveBooth a s) := by
  unfold moveBooth
  dsimp only
  split <;> exact .of_view rfl

theorem handTrim_orderly (a : Int) (s : State) : Orderly s (handTrim a s) := by
  unfold handTrim
  split
  · exact runDeadlines_orderly ..
  · split
    · exact returnLatent_orderly ..
    · exact .refl s

theorem applyTrim_orderly (d : Int) (s : State) : Orderly s (applyTrim d s) := by
  have htrim := (moveBooth_unmoved (appliedTrim d s.clock.trimBudget s.now) s).orderly.trans
    (handTrim_orderly (appliedTrim d s.clock.trimBudget s.now) _)
  unfold applyTrim
  dsimp only
  split
  · exact htrim
  · exact htrim.trans (Unmoved.orderly (.of_view rfl))

theorem ownTimeTrim_orderly : OwnerOrderly ownTimeTrim := fun _ _ s _ =>
  checked_orderly fun _ => (applyTrim_orderly _ s).reply

/-- Time is set in SERVICE, where a rebuild finds no grants (03 R48). -/
theorem establishTime_orderly (v : Nat) {s : State} (hmode : s.stations.mode = .service) :
    Orderly s (establishTime v s) := by
  have hset : Unmoved s (clearLevel Src.timeLost
      { s with clock := { s.clock with boothTime := max v s.clock.floor, timeState := .running } }) := .of_view rfl
  have hidle := hset.idle.trans (rebuildList_idle (max v s.clock.floor) _)
  exact ⟨hidle.toKeysKept, fun h => hidle.counts (h.empty (.inr hmode)).1 h⟩

theorem ownTimeSet_orderly : OwnerOrderly ownTimeSet := fun who f s _ =>
  checked_orderly fun hpass => by
    have hmode : s.stations.mode = .service := by
      have := hpass (serviceOnly s) (by simp [setTimeChecks])
      cases hm : s.stations.mode with
      | service => rfl
      | showing => simp [serviceOnly, hm] at this
    exact (establishTime_orderly _ hmode).reply

/-! ### Stations -/

/-- No WAITING place is added by a refusal. -/
theorem refuseWaiting_unmoved (pick : OpenReq → Bool) (c : Code) (s : State) : Unmoved s (refuseWaiting pick c s) :=
  setOpenQueue_unmoved fun hw => by simp [hw]

theorem ownStationEnrol_orderly : OwnerOrderly ownStationEnrol := fun _ f s _ =>
  checked_orderly fun _ => by
    unfold enrol
    dsimp only
    split
    · refine Unmoved.reply ?_
      exact .of_view rfl
    · exact .refl s

theorem suspendStation_orderly (slot : Nat) (e : Station) (f : Frame) (s : State) :
    Orderly s (suspendStation slot e f s) := by
  have hset : Unmoved s (s.setStation slot (some { e with state := .suspended })) := .of_view rfl
  unfold suspendStation
  split
  · exact (Orderly.refl s).reply
  · dsimp only
    split
    · exact (hset.trans ((refuseWaiting_unmoved ..).trans (forceExpiry_unmoved ..))).reply
    · exact hset.reply

theorem ownStationSuspend_orderly : OwnerOrderly ownStationSuspend := fun _ f s _ =>
  checked_orderly fun _ => by
    unfold suspend
    split
    · exact suspendStation_orderly ..
    · exact .refl s

theorem ownStationResume_orderly : OwnerOrderly ownStationResume := fun _ f s _ =>
  checked_orderly fun _ => by
    unfold resume
    split
    · refine Unmoved.reply ?_
      exact .of_view rfl
    · exact .refl s

theorem ownStationRank_orderly : OwnerOrderly ownStationRank := fun _ f s _ =>
  checked_orderly fun _ => by
    unfold giveRank
    split
    · refine Unmoved.reply ?_
      exact .of_view rfl
    · exact .refl s

/-! ### Modes -/

theorem noGrants_of_grantCount {s : State} (h : s.grantCount = 0) : NoGrants s := by
  intro g
  cases hg : s.grant g with
  | none => rfl
  | some r =>
    have hmem : (g, r) ∈ listUsed s.grants.slots := mem_listUsed.mpr hg
    rw [State.grantCount, ← listUsed_length, List.length_eq_zero_iff] at h
    rw [h] at hmem; simp at hmem

/-- SERVICE is entered without records, and every WAITING open is refused (08 R143). -/
theorem enterMode_orderly (m : Mode) (s : State) : Orderly s (enterMode m s).1 := by
  unfold enterMode
  split
  · exact .refl s
  · split
    · split
      · exact .refl s
      · rename_i hnone
        refine ⟨.of_store rfl rfl, fun h => { h with none := fun _ => ⟨?_, ?_⟩ }⟩
        · exact noGrants_of_grantCount (not_not.mp hnone)
        · show s.openQueue.waiting.filter _ = []
          simp
    · have hshow : Orderly s (changeMode .showing s) :=
        ⟨.of_store rfl rfl, fun h => { h with none := fun hs => h.none (hs.imp_right nofun) }⟩
      split
      · exact .refl s
      · split
        · exact .refl s
        · exact hshow

theorem evaluateModeChange_orderly (m : Mode) (s : State) : Orderly s (evaluateModeChange m s).1 := by
  have hempty : Unmoved s (setMismatch 0 (setHolder none s)) := .of_view rfl
  unfold evaluateModeChange
  split
  · exact Unmoved.orderly (.of_view rfl)
  · split
    · exact hempty.orderly.trans (enterMode_orderly ..)
    · exact Unmoved.orderly (.of_view rfl)

theorem ownModeChange_orderly : OwnerOrderly ownModeChange := fun _ f s _ =>
  checked_orderly fun _ => by
    split
    · exact (evaluateModeChange_orderly _ s).reply
    · exact .refl s

/-- ZEROIZE leaves no entry, no key and no record (08 R144). -/
theorem eraseAll_orderly (s : State) : Orderly s (eraseAll s) := by
  have hentry : ∀ i, (eraseAll s).entry i = none := fun i => slotGet_map_none ..
  refine ⟨.of_empty hentry fun k => slotGet_map_none .., fun h => ?_⟩
  refine grantsCounted_of_empty (fun g => slotGet_map_none ..) rfl
    (fun _ i e he => nomatch (hentry i).symm.trans he) h.phase fun hj => h.startUpKat ?_
  have hjob : (eraseAll s).engine.job = if s.engine.job = some .verify then none else s.engine.job := rfl
  rw [hjob] at hj
  split at hj
  · simp at hj
  · exact hj

theorem ownZeroize_orderly : OwnerOrderly ownZeroize := fun _ f s _ => by
  refine checked_orderly fun _ => ?_
  exact ((Orderly.refl s).reply (f := f) (r := refuse .ok)).trans (eraseAll_orderly _)

/-! ### Every request -/

/-- A request whose act leaves the tables alone. -/
theorem ownUnmoved_orderly {cs : Sender → Frame → State → List (Bool × Reply)} {act : Sender → Frame → State → State}
    (h : ∀ who f s, Unmoved s (act who f s)) : OwnerOrderly fun who f s => checked f (cs who f s) (act who f) s :=
  fun who f s _ => checked_orderly fun _ => (h who f s).orderly

theorem readNotices_unmoved (f : Frame) (s : State) : Unmoved s (readNotices f s) := by
  unfold readNotices
  dsimp only
  split <;> exact .of_view rfl

theorem ownerOf_orderly (k : Kind) : OwnerOrderly (ownerOf k) := by
  cases k with
  | status | parcelLoad | parcelList | grantList | stationRetire | stationList | modeKey | settingWrite | settingRead
  | noticeConfig | selfTest | restart => exact ownUnmoved_orderly fun _ _ _ => .of_view rfl
  | noticeRead => exact ownUnmoved_orderly fun _ => readNotices_unmoved
  | parcelWithdraw => exact ownParcelWithdraw_orderly
  | openKeys => exact ownOpen_orderly
  | close => exact ownClose_orderly
  | extend => exact ownExtend_orderly
  | timeTrim => exact ownTimeTrim_orderly
  | timeSet => exact ownTimeSet_orderly
  | stationEnrol => exact ownStationEnrol_orderly
  | stationSuspend => exact ownStationSuspend_orderly
  | stationResume => exact ownStationResume_orderly
  | stationRank => exact ownStationRank_orderly
  | modeChange => exact ownModeChange_orderly
  | zeroize => exact ownZeroize_orderly

theorem requestRow_orderly (k : Kind) (src : Addr) (tag : Byte) (body : List Byte) (s : State) :
    ∃ t, exec (requestRow k src tag body) s = .next t ∧ Orderly s t :=
  ⟨_, exec_requestRow k src tag body s, takeRequest_orderly k src tag body (ownerOf_orderly k) s⟩

end Sys2Proof.Machine
end

section
/-! PROOFS. Time, the engine, the postings and the start-up keep the tables in order (O10, O11, O12). -/

namespace Sys2Proof.Machine

/-! ## Notices, the Link Port and time -/

theorem raiseLevel_unmoved (n : Nat) (s : State) : Unmoved s (raiseLevel n s) := by
  rw [raiseLevel_frame]; exact .of_view rfl

theorem followLevel_unmoved (n : Nat) (c : Bool) (s : State) : Unmoved s (followLevel n c s) := by
  rw [followLevel_frame]; exact .of_view rfl

theorem occupancyFell_unmoved (s : State) : Unmoved s (occupancyFell s) := by
  rw [occupancyFell_frame]; exact .of_view rfl

theorem judgeHeader_unmoved (dst src : Addr) (s : State) : Unmoved s (judgeHeader dst src s) := by
  unfold judgeHeader
  split
  · exact .of_view rfl
  · split
    · exact .of_view rfl
    · split
      · exact .of_view rfl
      · rw [occupancyRose_frame]; exact .of_view rfl

theorem endFrame_unmoved (h : Header) (rest : List Byte) (s : State) : Unmoved s (endFrame h rest s) := by
  unfold endFrame
  dsimp only
  split
  · exact .of_view rfl
  · refine Unmoved.trans ?_ (occupancyFell_unmoved _)
    exact .of_view rfl

theorem sendExpireFor_orderly (g : Nat) (s : State) : Orderly s (sendExpireFor g s) := by
  unfold sendExpireFor
  split
  · refine Orderly.trans (Unmoved.orderly ?_) (freeGrant_orderly ..)
    exact .of_view rfl
  · exact .refl s

theorem loseTime_unmoved (s : State) : Unmoved s (loseTime s) := by
  have hlost : Unmoved s { s with clock := { s.clock with timeState := .lost, driftRun := 0 } } := .of_view rfl
  have hrefused := (hlost.trans (forceExpiry_unmoved (fun _ => true) .clock _)).trans
    (refuseWaiting_unmoved (fun _ => true) .noTime _)
  refine Unmoved.trans ?_ (raiseLevel_unmoved ..)
  exact hrefused.trans (.of_view rfl)

theorem reachDriftLimit_unmoved (s : State) : Unmoved s (reachDriftLimit s) := by
  have hclear : Unmoved s (clearLevel Src.clockDrift { s with clock := { s.clock with driftRun := 0 } }) := .of_view rfl
  unfold reachDriftLimit
  dsimp only
  split
  · exact hclear.trans (loseTime_unmoved _)
  · exact hclear

theorem measure_unmoved (deviation : Nat) (s : State) : Unmoved s (measure deviation s) := by
  rcases measure_cases deviation s with ⟨-, -, he⟩ | ⟨-, -, he⟩ | ⟨-, -, he⟩ <;> rw [he]
  · exact .of_view rfl
  · refine Unmoved.trans ?_ (raiseLevel_unmoved ..)
    exact .of_view rfl
  · refine Unmoved.trans ?_ (reachDriftLimit_unmoved _)
    exact .of_view rfl

theorem timeOutOpens_unmoved (s : State) : Unmoved s (timeOutOpens s) := by
  unfold timeOutOpens
  split
  · exact (refuseWaiting_unmoved ..).trans (.of_view rfl)
  · exact .of_view rfl

theorem examineTestInterval_unmoved (s : State) : Unmoved s (examineTestInterval s) := by
  unfold examineTestInterval
  dsimp only
  split
  · exact .of_view rfl
  · split <;> exact .of_view rfl

theorem countTrimYear_unmoved (s : State) : Unmoved s (countTrimYear s) := by
  unfold countTrimYear
  split <;> exact .of_view rfl

theorem advanceBooth_unmoved (s : State) : Unmoved s (advanceBooth s) := by
  unfold advanceBooth
  dsimp only
  split <;> exact .of_view rfl

theorem tickBooth_orderly (s : State) : Orderly s (tickBooth s) := by
  unfold tickBooth
  split
  · dsimp only
    split
    · exact (advanceBooth_unmoved s).orderly.trans (runDeadlines_orderly ..)
    · exact (advanceBooth_unmoved s).orderly
  · exact .refl s

/-! ## The engine -/

/-- The start-up KAT is chosen in its phase alone (05 R87). -/
theorem choose_startUpKat {s : State} (h : choose s = .kat .startUp) : s.control.phase = .engineTest := by
  unfold choose at h
  split at h
  · simp at h
  · split at h
    · split at h
      · rename_i hphase
        exact hphase.1
      · simp at h
    · simp at h
    · split at h
      · split at h <;> simp at h
      · unfold chooseReady at h
        split at h
        · simp at h
        · split at h
          · simp at h
          · split at h
            · simp at h
            · split at h
              · simp at h
              · split at h <;> simp at h

theorem startKat_orderly {cause : KatCause} {s : State} (h : cause = .startUp → s.control.phase = .engineTest) :
    Orderly s (startKat cause s) :=
  ⟨.of_store rfl rfl, fun k => { k with startUpKat := fun hj => h (by simpa [startKat] using hj) }⟩

theorem countPassOver_unmoved (s : State) : Unmoved s (countPassOver s) := by
  unfold countPassOver
  split <;> exact .of_view rfl

/-- A parcel that is selected is an entry in use (02 R28). -/
theorem selectParcel_entry {s : State} {fingerprint feature : Bytes16} {q : Nat} {tracks : List TrackId}
    {p : Nat × ParcelEntry} (h : selectParcel s.store.table fingerprint feature q tracks = .ok p) :
    s.entry p.1 = some p.2 := by
  unfold selectParcel at h
  dsimp only at h
  split at h
  · simp at h
  · split at h
    · simp at h
    · split at h
      · simp at h
      · split at h
        · simp at h
        · split at h
          · simp at h
          · rename_i hchosen
            obtain rfl := Except.ok.inj h
            unfold chooseEntry at hchosen
            split at hchosen
            · simp at hchosen
            · rename_i a l hl
              have hmem := foldl_pick_mem (f := fun a b : Nat × ParcelEntry => if selectBefore b.2 a.2 then b else a)
                (fun a b => by split <;> simp) a l
              obtain rfl := Option.some.inj hchosen
              rw [← hl] at hmem
              simp only [List.mem_filter] at hmem
              exact mem_listUsed.mp hmem.1.1.1.1.1

theorem planOpen_entry {w : OpenReq} {s : State} {p : OpenPlan} (h : planOpen w s = .ok p) :
    ∃ e, s.entry p.parcel = some e := by
  unfold planOpen at h
  split at h
  · simp at h
  · split at h
    · simp at h
    · split at h
      · simp at h
      · split at h
        · simp at h
        · split at h
          · simp at h
          · rename_i hselect
            split at h
            · simp at h
            · obtain rfl := Except.ok.inj h
              exact ⟨_, selectParcel_entry hselect⟩

theorem selectOpen_orderly {i : Nat} {w : OpenReq} {s : State} (hi : s.openQueue.waiting[i]? = some w) :
    Orderly s (selectOpen i w s).1 := by
  unfold selectOpen
  split
  · have hrefused : ∀ c, Unmoved s (refusePlace i w c s) := fun c =>
      setOpenQueue_unmoved fun hw => by rw [hw] at hi; simp at hi
    exact (hrefused _).orderly
  · rename_i p hp
    obtain ⟨e, he⟩ := planOpen_entry hp
    split
    · rename_i hg
      exact startRewrap_orderly hi hg he
    · exact .refl s

theorem arbitrate_orderly (fuel : Nat) (s : State) : Orderly s (arbitrate fuel s) := by
  induction fuel generalizing s with
  | zero => exact .refl s
  | succ fuel ih =>
    unfold arbitrate
    split
    · exact .refl s
    · rename_i cause hc
      exact startKat_orderly fun hs => choose_startUpKat (hs ▸ hc)
    · have hjob : Unmoved s { s with engine := { s.engine with job := some .verify } } := setEngine_unmoved nofun
      refine (hjob.trans ?_).orderly
      exact .of_view rfl
    · rename_i i w hc
      have hi := (choose_select hc).1
      have hselect := (countPassOver_unmoved s).orderly.trans
        (selectOpen_orderly (w := w) (by rw [countPassOver_openQueue]; exact hi))
      dsimp only
      split
      · exact hselect
      · exact hselect.trans (ih _)

theorem enterFault_unmoved (s : State) : Unmoved s (enterFault s) := by
  have hfault : Unmoved s { s with engine := { s.engine with faulted := true } } := .of_view rfl
  have hrefused := hfault.trans (refuseWaiting_unmoved (fun _ => true) .engineFault _)
  refine Unmoved.trans ?_ (raiseLevel_unmoved ..)
  exact hrefused.trans (.of_view rfl)

/-- A start-up goes on to another phase, not back before RETAINED_CHECK. -/
theorem GrantsCounted.advance {s : State} {c : Control} (h : GrantsCounted s) (hp : s.control.phase ≠ .none)
    (hs : c.service = s.control.service)
    (hb : beforeCheck c.phase = false → beforeCheck s.control.phase = false)
    (hj : s.engine.job = some (.kat .startUp) → c.phase = .engineTest) : GrantsCounted { s with control := c } :=
  { h with
    counts := fun hc => h.counts (hb hc)
    none := fun hm => h.none (hs ▸ hm)
    phase := fun _ => hs.trans (h.phase hp)
    startUpKat := hj }

theorem completeKat_orderly (pass : Bool) (s : State) : Orderly s (completeKat pass s) := by
  unfold completeKat
  split
  · rename_i cause hjob
    have hjobless : Unmoved s { s with engine := { s.engine with job := none } } := setEngine_unmoved nofun
    have hend : Unmoved s (endKat s) := hjobless.trans (.of_view rfl)
    have hdone : ∀ t, Unmoved s t → Unmoved s (if pass then t else enterFault t) := fun t ht => by
      split
      · exact ht
      · exact ht.trans (enterFault_unmoved t)
    dsimp only
    split
    · exact (hdone _ hend).orderly
    · cases pass
      · refine ((hend.trans (enterFault_unmoved _)).trans ?_).orderly
        exact .of_view rfl
      · refine (hend.trans ?_).orderly
        exact .of_view rfl
    · have hopen : Unmoved s (openWindow (if pass then endKat s else enterFault (endKat s))) :=
        (hdone _ hend).trans (.of_view rfl)
      have hnone : (openWindow (if pass then endKat s else enterFault (endKat s))).engine.job = none := by
        cases pass <;> simp [openWindow, enterFault, refuseStaging, refuseWaiting, endKat]
      generalize openWindow (if pass then endKat s else enterFault (endKat s)) = u at hopen hnone
      refine ⟨hopen.orderly.toKeysKept.trans (.of_store rfl rfl), fun h => ?_⟩
      have hphase := hopen.phase.trans (h.startUpKat hjob)
      refine (hopen.orderly.counts h).advance (by rw [hphase]; decide) rfl (fun _ => by rw [hphase]; decide) ?_
      rw [hnone]; exact nofun
  · exact .refl s

theorem completeVerify_unmoved (s : State) : Unmoved s (completeVerify s) := by
  unfold completeVerify
  split
  · exact setEngine_unmoved nofun
  · exact .of_view rfl

theorem completeRewrap_unmoved (s : State) : Unmoved s (completeRewrap s) := by
  unfold completeRewrap
  split
  · exact setEngine_unmoved nofun
  · exact .of_view rfl

/-! ## Postings -/

theorem postRewrap_orderly (s : State) : Orderly s (postRewrap s) := by
  unfold postRewrap
  split
  · have hdone : Unmoved s { s with engine := { s.engine with held := none } } := .of_view rfl
    dsimp only
    split
    · rename_i r hg
      split
      · split
        · split
          · exact (hdone.orderly.trans (freeGrant_orderly ..)).replyLater
          · refine (Unmoved.orderly ?_).replyLater
            exact (setGrant_unmoved (q := { r with state := .opened, used := 0 }) hg rfl).trans (.of_view rfl)
        · exact hdone.orderly
      · exact hdone.orderly
    · exact hdone.orderly
  · exact .refl s

theorem postSelfTest_unmoved (s : State) : Unmoved s (postSelfTest s) := by
  unfold postSelfTest
  split <;> exact .of_view rfl

theorem answerOpenDue_unmoved (s : State) : Unmoved s (answerOpenDue s) := by
  unfold answerOpenDue
  split <;> exact .of_view rfl

theorem answerStaging_unmoved (s : State) : Unmoved s (answerStaging s) := by
  unfold answerStaging
  split
  · exact .of_view rfl
  · dsimp only
    split <;> exact .of_view rfl

/-! ## Power and start-up -/

/-- No command of power and start-up that clears the volatile state touches the parcel store, and none leaves a record
(06 R110, 11 R172). -/
theorem orderly_of_cleared {s t : State} (ht : t.store.table = s.store.table) (hk : t.store.keys = s.store.keys)
    (hn : NoGrants t) (hw : t.openQueue.waiting = []) (hs : t.control.service = .starting)
    (hb : beforeCheck t.control.phase = true) (hj : t.engine.job = none) : Orderly s t :=
  ⟨.of_store ht hk, fun _ => grantsCounted_of_empty hn hw (fun hc => nomatch hc.symm.trans hb) (fun _ => hs)
    fun h => nomatch hj.symm.trans h⟩

theorem haltPart_orderly (s : State) : Orderly s (haltPart s) :=
  orderly_of_cleared rfl rfl (fun _ => slotGet_map_none ..) rfl rfl rfl rfl

theorem beginStartUp_orderly (cause : StartCause) (s : State) : Orderly s (beginStartUp cause s) :=
  orderly_of_cleared rfl rfl (fun _ => slotGet_map_none ..) rfl rfl rfl rfl

theorem startUpBegun_orderly (cause : StartCause) (s : State) :
    Orderly s (setPhase .fuseLoad (beginStartUp cause s)) :=
  orderly_of_cleared rfl rfl (fun _ => slotGet_map_none ..) rfl rfl rfl rfl

/-- A phase of a start-up other than ENGINE_TEST is followed by another, not back before RETAINED_CHECK. -/
theorem setPhase_orderly {s t : State} {p : StartPhase} (h : OrderlyIdle s t) (hp : s.control.phase ≠ .none)
    (htest : s.control.phase ≠ .engineTest) (hb : beforeCheck p = false → beforeCheck s.control.phase = false) :
    Orderly s (setPhase p t) := by
  refine ⟨h.toKeysKept.trans (.of_store rfl rfl), fun k => ?_⟩
  have hn := (k.empty (.inl (k.phase hp))).1
  refine (h.counts hn k).advance (h.phase ▸ hp) rfl (h.phase ▸ hb) fun hj => ?_
  exact absurd (k.startUpKat (h.job hj)) htest

theorem readFuses_unmoved (s : State) : Unmoved s (readFuses s) := by
  unfold readFuses
  dsimp only
  split <;> split
  · exact .of_view rfl
  · exact .of_view rfl
  · refine Unmoved.trans ?_ (raiseLevel_unmoved ..)
    exact .of_view rfl
  · refine Unmoved.trans ?_ (raiseLevel_unmoved ..)
    exact .of_view rfl

/-! ### RETAINED_CHECK -/

theorem freeAtZero_entry_ne {i j : Nat} (s : State) (h : i ≠ j) : (freeAtZero i s).entry j = s.entry j := by
  unfold freeAtZero
  split
  · rfl
  · split
    · rw [freeEntry_entry, if_neg h]
    · rfl

theorem freeAtZero_entry_self {i : Nat} {e : ParcelEntry} {s : State} (h : (freeAtZero i s).entry i = some e) :
    s.entry i = some e := by
  unfold freeAtZero at h
  split at h
  · exact h
  · split at h
    · rw [freeEntry_entry, if_pos rfl] at h; simp at h
    · exact h

/-- The correction of one entry of a sound store (11 R171). -/
def correctEntry (t : State) (p : Nat × ParcelEntry) : State :=
  freeAtZero p.1 (t.setEntry p.1 (some { p.2 with grantCount := 0 }))

/-- The correction of a sound store is that of each entry in turn, beside the stations' tokens. -/
theorem correctStore_entry (s : State) (i : Nat) :
    (correctStore s).entry i = ((listUsed s.store.table).foldl correctEntry s).entry i := rfl

theorem correctEntry_entry_ne (t : State) (p : Nat × ParcelEntry) (j : Nat) (h : p.1 ≠ j) :
    (correctEntry t p).entry j = t.entry j := by
  rw [correctEntry, freeAtZero_entry_ne _ h, State.entry_setEntry, if_neg fun hc => h hc.1]

theorem correctEntry_keysKept {t : State} {p : Nat × ParcelEntry} (h : t.entry p.1 = some p.2) :
    KeysKept t (correctEntry t p) := by
  refine KeysKept.trans ?_ (freeAtZero_keysKept ..)
  exact rewriteEntry_keysKept h rfl rfl

theorem correctStore_keysKept (s : State) : KeysKept s (correctStore s) :=
  (foldl_listUsed_chain correctEntry_entry_ne (fun _ => KeysKept.of_store rfl rfl) .trans
    (fun _ _ => correctEntry_keysKept) s).trans (.of_store rfl rfl)

theorem correctStore_sameRecords (s : State) : SameRecords s (correctStore s) :=
  (foldl_chain (R := SameRecords) (fun _ => .of_view rfl) .trans
    (fun _ _ => ((setEntry_only ..).trans (freeAtZero_only ..)).sameRecords) _ s).trans (.of_view rfl)

/-- After the correction every grant count is 0 (02 R31). -/
theorem correctStore_zero {s : State} {i : Nat} {e : ParcelEntry} (h : (correctStore s).entry i = some e) :
    e.grantCount = 0 := by
  obtain ⟨e₀, he₀, -⟩ := (correctStore_keysKept s).entries i e h
  obtain ⟨t, ht, hturn⟩ := foldl_entry_turn correctEntry_entry_ne (listUsed_ascending s.store.table)
    (p := (i, e₀)) (mem_listUsed.mpr he₀) s
  rw [correctStore_entry, hturn] at h
  have hself : (t.setEntry i (some { e₀ with grantCount := 0 })).entry i = some e := freeAtZero_entry_self h
  rw [State.entry_setEntry, if_pos ⟨rfl, State.entry_lt (ht.trans he₀)⟩] at hself
  obtain rfl := Option.some.inj hself
  rfl

/-- A store is checked before any record is made, so that each count is right when it is 0 (02 R24, R31). -/
theorem checked_counts {s t : State} (h : GrantsCounted s) (hp : s.control.phase = .retainedCheck)
    (hslots : t.grants.slots.map (Option.map Grant.parcel) = s.grants.slots.map (Option.map Grant.parcel))
    (hw : s.openQueue.waiting = [] → t.openQueue.waiting = []) (hs : t.control.service = s.control.service)
    (hzero : ∀ i e, t.entry i = some e → e.grantCount = 0) : GrantsCounted (setPhase .engineTest t) := by
  have hstarting := h.phase (by rw [hp]; decide)
  obtain ⟨hn, hwait⟩ := h.empty (.inl hstarting)
  refine grantsCounted_of_empty (fun g => ?_) (hw hwait) (fun _ => hzero) (fun _ => hs.trans hstarting) fun _ => rfl
  have hparcel := congrArg (slotGet · g) hslots
  simp only [slotGet_map] at hparcel
  have hnone : slotGet s.grants.slots g = none := hn g
  rw [hnone] at hparcel
  exact Option.map_eq_none_iff.mp hparcel

theorem correctStore_orderly {s : State} (hp : s.control.phase = .retainedCheck) :
    Orderly s (setPhase .engineTest (correctStore s)) := by
  have hr := correctStore_sameRecords s
  exact ⟨(correctStore_keysKept s).trans (.of_store rfl rfl), fun h => checked_counts h hp hr.parcels hr.waiting
    hr.service fun _ _ => correctStore_zero⟩

theorem loseStore_orderly {s : State} (hp : s.control.phase = .retainedCheck) :
    Orderly s (setPhase .engineTest (loseStore s)) := by
  have hentry : ∀ i, (loseStore s).entry i = none := fun i => by simp [loseStore, State.entry]
  have hkey : ∀ k, slotGet (loseStore s).store.keys k = none := fun k => by simp [loseStore]
  exact ⟨(KeysKept.of_empty hentry hkey).trans (.of_store rfl rfl), fun h => checked_counts h hp (by simp [loseStore])
    (by simp [loseStore]) (by simp [loseStore]) fun i e he => nomatch (hentry i).symm.trans he⟩

/-! ### The end of start-up -/

theorem modSource_unmoved (n : Nat) (f : Source → Source) (s : State) : Unmoved s (s.modSource n f) := .of_view rfl

theorem endNotices_unmoved (s : State) : Unmoved s (endNotices s) := by
  have hlevel : ∀ (n : Nat) (b : Bool) (t : State), Unmoved s t → Unmoved s (evaluateLevel n b t) :=
    fun n _ t h => h.trans (modSource_unmoved n _ t)
  have hflags : ∀ t : State, Unmoved t { t with attention := flagRaised t.attention } := fun _ => .of_view rfl
  refine Unmoved.trans (.trans ?_ (modSource_unmoved Src.fault _ _)) (hflags _)
  exact hlevel _ _ _ (hlevel _ _ _ (hlevel _ _ _ (hlevel _ _ _ (hlevel _ _ _ (hlevel _ _ _ (.of_view rfl))))))

/-- A start-up ends with no record and with grant counts of 0, in STARTING until then (06 R110). -/
theorem leaveStarting_orderly {s : State} (hp : s.control.phase = .finish) {c : Control} (hc : c.phase = .none)
    (k : BoothClock) (a : Arbiter) : Orderly s { s with control := c, clock := k, arbiter := a } := by
  refine ⟨.of_store rfl rfl, fun h => ?_⟩
  obtain ⟨hn, hw⟩ := h.empty (.inl (h.phase (by rw [hp]; decide)))
  refine grantsCounted_of_empty hn hw (fun _ i e he => ?_) (fun hne => absurd hc hne) fun hj => ?_
  · exact h.zero hn (by rw [hp]; decide) (i := i) he
  · exact nomatch hp.symm.trans (h.startUpKat hj)

theorem endStartUp_orderly {s : State} (hp : s.control.phase = .finish) : Orderly s (endStartUp s) := by
  have hdue : ∀ t, Orderly s t → Orderly s (if rebuildRuns t then runDeadlines t.now t else t) := by
    intro t ht
    split
    · exact ht.trans (runDeadlines_orderly ..)
    · exact ht
  refine hdue _ ((leaveStarting_orderly hp ?_ _ _).trans (endNotices_unmoved _).orderly)
  rfl

end Sys2Proof.Machine
end

section
/-! PROOFS. VERIFY_POSTING, every command and every step: O10, O11 and O12. -/

namespace Sys2Proof.Machine

/-! ## VERIFY_POSTING -/

/-- What VERIFY_POSTING keeps: as `Orderly`, but for an entry it commits, which carries the next ingest sequence
(01 R16). -/
structure OrderlyPosting (s t : State) : Prop where
  entries : ∀ i e', t.entry i = some e' →
    (∃ e, s.entry i = some e ∧ (e'.holdsKeys = true → e.holdsKeys = true)) ∨
      e'.ingestSeq = satAdd s.store.ingestSeq 1
  keys : KeysReferenced s → KeysReferenced t
  counts : GrantsCounted s → GrantsCounted t

theorem Orderly.posting {s t : State} (h : Orderly s t) : OrderlyPosting s t :=
  ⟨fun i e' he => .inl (h.entries i e' he), h.keys, h.counts⟩

/-- Orderly work before the posting, with the ingest sequence unchanged. -/
theorem OrderlyPosting.after {s t u : State} (h : Orderly s t) (hseq : t.store.ingestSeq = s.store.ingestSeq)
    (k : OrderlyPosting t u) : OrderlyPosting s u := by
  refine ⟨fun i e'' he => ?_, k.keys ∘ h.keys, k.counts ∘ h.counts⟩
  rcases k.entries i e'' he with ⟨e', he', hk⟩ | hnew
  · obtain ⟨e, he, hh⟩ := h.entries i e' he'
    exact .inl ⟨e, he, hh ∘ hk⟩
  · exact .inr (hseq ▸ hnew)

/-- Work after the posting that leaves the tables alone. -/
theorem OrderlyPosting.followed {s t u : State} (h : OrderlyPosting s t) (k : Unmoved t u) : OrderlyPosting s u := by
  have hentry : ∀ i, u.entry i = t.entry i := fun i => by unfold State.entry; rw [k.table]
  exact ⟨fun i e' he => h.entries i e' ((hentry i).symm.trans he), k.orderly.keys ∘ h.keys,
    k.orderly.counts ∘ h.counts⟩

/-- Reclaim frees an entry that no record names (01 R13). -/
theorem makeRoom_orderly (s : State) : Orderly s (makeRoom s) := by
  cases hfree : lowestFree s.store.table with
  | some i => rw [makeRoom_of_free hfree]; exact .refl s
  | none =>
    rw [makeRoom_of_full hfree]
    split
    · rename_i p hp
      have hmem : p ∈ (listUsed s.store.table).filter fun q => reclaimable q.2 := by
        unfold bestOf at hp
        split at hp
        · simp at hp
        · rename_i a l hl
          have hfold := foldl_pick_mem
            (f := fun a b : Nat × ParcelEntry => if reclaimBefore b.2 a.2 then b else a)
            (fun a b => by split <;> simp) a l
          rw [hl, ← Option.some.inj hp]
          exact hfold
      obtain ⟨he, -, hzero⟩ := mem_reclaimable.mp hmem
      exact freeEntry_orderly he hzero
    · exact .refl s

theorem makeRoom_ingestSeq (s : State) : (makeRoom s).store.ingestSeq = s.store.ingestSeq := by
  unfold makeRoom reclaim
  split
  · split
    · rw [freeEntry_only]
    · rfl
  · rfl

theorem newEntry_keysHeld (p : Parcel) (slots : List Nat) (s : State) : (newEntry p slots s).holdsKeys = true := by
  by_cases h : p.winStart * 60 ≤ s.now <;> simp [ParcelEntry.holdsKeys, newEntry, h]

/-- A parcel committed at a free index, with a key slot for each record (01 R15). -/
theorem committed_posting {i : Nat} {p : Parcel} (ks : List Key) {s : State} (hi : lowestFree s.store.table = some i)
    (hroom : p.records.length ≤ s.freeKeySlots) : OrderlyPosting s (committed i p ks s) := by
  have hfree : s.entry i = none := (lowestFree_eq_some.mp hi).2.1
  have hself := committed_entry p ks hi
  have hother : ∀ j, i ≠ j → (committed i p ks s).entry j = s.entry j := fun j hj => slotGet_set_ne hj
  refine ⟨fun j e' hj => ?_, fun href k v hv => ?_, fun h => { h with counts := fun hb j e' hj => ?_, named := ?_ }⟩
  · by_cases hij : i = j
    · subst hij
      obtain rfl := Option.some.inj (hself.symm.trans hj)
      exact .inr rfl
    · exact .inl ⟨e', (hother j hij).symm.trans hj, id⟩
  · by_cases hk : k ∈ keySlots p s
    · rw [← (newEntry_refs s (keySlots_length hroom)).2] at hk
      obtain ⟨r, hr, hrk⟩ := List.mem_map.mp hk
      exact ⟨i, _, hself, newEntry_keysHeld .., r, hr, hrk⟩
    · obtain ⟨j, e, he, hrest⟩ := href k v ((slotGet_writeKeys_of_not_mem hk ..).symm.trans hv)
      have hij : i ≠ j := fun hij => by subst hij; exact nomatch hfree.symm.trans he
      exact ⟨j, e, (hother j hij).trans he, hrest⟩
  · by_cases hij : i = j
    · subst hij
      obtain rfl := Option.some.inj (hself.symm.trans hj)
      refine (recordsNaming_eq_zero.mpr fun g r hr hri => ?_).symm
      have hused := h.named g r hr
      rw [hri, hfree] at hused
      exact nomatch hused
    · exact h.counts hb j e' ((hother j hij).symm.trans hj)
  · intro g r hr
    by_cases hij : i = r.parcel
    · rw [← hij, hself]; rfl
    · rw [hother _ hij]; exact h.named g r hr

theorem storeParcel_posting (p : Parcel) (ks : List Key) (s : State) : OrderlyPosting s (storeParcel p ks s).1 := by
  refine .after (makeRoom_orderly s) (makeRoom_ingestSeq s) ?_
  unfold storeParcel
  generalize makeRoom s = t
  dsimp only
  split
  · refine (Unmoved.orderly ?_).posting
    exact .of_view rfl
  · rename_i i hi
    split
    · refine (Unmoved.orderly ?_).posting
      exact .of_view rfl
    · rename_i hroom
      rw [commitParcel_eq]
      exact (committed_posting ks hi (Nat.le_of_not_lt hroom)).followed (.of_view rfl)

theorem settleVerify_posting (p : StagingPlace) (o : Option (List Key)) (s : State) :
    OrderlyPosting s (settleVerify p o s).1 := by
  unfold settleVerify
  split
  · refine (Unmoved.orderly ?_).posting
    exact .of_view rfl
  · split
    · exact (Orderly.refl s).posting
    · split
      · exact (Orderly.refl s).posting
      · split
        · exact (Orderly.refl s).posting
        · exact storeParcel_posting ..

theorem postVerify_posting (s : State) : OrderlyPosting s (postVerify s) := by
  unfold postVerify
  split
  · rename_i o p _ _ _
    have htaken : Unmoved s (withoutResult s) := .of_view rfl
    exact (OrderlyPosting.after htaken.orderly rfl (settleVerify_posting p o _)).followed (.of_view rfl)
  · exact (Orderly.refl s).posting

theorem execVerifyPosting_posting (s : State) : ∃ t, exec .verifyPosting s = .next t ∧ OrderlyPosting s t := by
  refine ⟨_, rfl, ?_⟩
  split
  · exact postVerify_posting s
  · exact (Orderly.refl s).posting

/-! ## Every command -/

/-- A command whose condition does not hold changes nothing (log 5). -/
theorem Orderly.ite {s t : State} {c : Prop} [Decidable c] (h : c → Orderly s t) :
    Orderly s (if c then t else s) := by
  split
  · exact h (by assumption)
  · exact .refl s

theorem Unmoved.ite {s t : State} {c : Prop} [Decidable c] (h : Unmoved s t) : Orderly s (if c then t else s) :=
  .ite fun _ => h.orderly

theorem execFrameEnd_orderly (rest : List Byte) (s : State) : ∃ t, execFrameEnd rest s = .next t ∧ Orderly s t := by
  refine ⟨_, rfl, ?_⟩
  split
  · exact Unmoved.ite (endFrame_unmoved ..)
  · exact .refl s

theorem execFrameTake_orderly (s : State) : ∃ t, execFrameTake s = .next t ∧ Orderly s t := by
  refine ⟨_, rfl, ?_⟩
  split
  · rename_i f rest _
    refine .ite fun hr => ?_
    have htaken : Unmoved s { s with link := { s.link with stored := s.link.stored.drop 1 } } := .of_view rfl
    have howner : OwnerOrderly (ownerOfFrame f) := by
      unfold ownerOfFrame
      split
      · exact ownerOf_orderly _
      · exact fun _ f s _ => (Orderly.refl s).reply
    refine (htaken.trans (occupancyFell_unmoved _)).orderly.trans (settle_orderly howner f ?_)
    rw [occupancyFell_frame, occupancyFell_eq]
    obtain ⟨hawake, hroom⟩ := canTake_eq_true.mp hr
    refine ⟨hawake, ?_⟩
    split <;> exact hroom
  · exact .refl s

theorem execHoldRepeatTimer_orderly (s : State) : ∃ t, execHoldRepeatTimer s = .next t ∧ Orderly s t := by
  refine ⟨_, rfl, .ite fun _ => ?_⟩
  split <;> exact Unmoved.orderly (.of_view rfl)

theorem execUnknownKind_orderly (src : Addr) (tag kind : Byte) (body : List Byte) (s : State) :
    ∃ t, execUnknownKind src tag kind body s = .next t ∧ Orderly s t := by
  refine ⟨_, rfl, .ite fun h => settle_orderly (fun _ f s _ => (Orderly.refl s).reply) _ ?_⟩
  exact canTake_eq_true.mp (Bool.and_eq_true_iff.mp h).1

theorem execSendHold_orderly (s : State) : ∃ t, execSendHold s = .next t ∧ Orderly s t := by
  refine ⟨_, rfl, ?_⟩
  split
  · exact Unmoved.ite (.of_view rfl)
  · exact .refl s

theorem execSendExpire_orderly (s : State) : ∃ t, execSendExpire s = .next t ∧ Orderly s t := by
  refine ⟨_, rfl, ?_⟩
  split
  · exact .ite fun _ => sendExpireFor_orderly ..
  · exact .refl s

theorem execSendAnswer_orderly (s : State) : ∃ t, execSendAnswer s = .next t ∧ Orderly s t := by
  refine ⟨_, rfl, ?_⟩
  split
  · exact Unmoved.ite (.of_view rfl)
  · exact .refl s

theorem execSendNotice_orderly (s : State) : ∃ t, execSendNotice s = .next t ∧ Orderly s t := by
  refine ⟨_, rfl, ?_⟩
  split
  · exact Unmoved.ite (.of_view rfl)
  · exact .refl s

theorem execTransmitFrameEnd_orderly (s : State) : ∃ t, execTransmitFrameEnd s = .next t ∧ Orderly s t := by
  refine ⟨_, rfl, ?_⟩
  split
  · have hsent : Unmoved s { s with link := { s.link with sending := none } } := .of_view rfl
    refine .ite fun _ => ?_
    unfold finishSending
    dsimp only
    split
    · exact hsent.orderly.trans (beginStartUp_orderly ..)
    · exact hsent.orderly
  · exact .refl s

theorem execCrystalSecond_orderly (s : State) : ∃ t, execCrystalSecond s = .next t ∧ Orderly s t := by
  have hnoted : Unmoved s (noteTick s) := .of_view rfl
  refine ⟨_, rfl, ?_⟩
  split
  · exact (hnoted.trans (countTrimYear_unmoved _)).orderly.trans (tickBooth_orderly _)
  · exact hnoted.orderly

theorem execMainClockSecond_orderly (deviation : Nat) (s : State) :
    ∃ t, execMainClockSecond deviation s = .next t ∧ Orderly s t := by
  have hcounted : Unmoved s (countUptime s) := .of_view rfl
  exact ⟨_, rfl, Unmoved.ite (((hcounted.trans (timeOutOpens_unmoved _)).trans
    (examineTestInterval_unmoved _)).trans (measure_unmoved ..))⟩

theorem execDriftRunLimit_orderly (s : State) : ∃ t, execDriftRunLimit s = .next t ∧ Orderly s t := by
  have hopen : Unmoved s (openWindow s) := .of_view rfl
  exact ⟨_, rfl, Unmoved.ite (hopen.trans (reachDriftLimit_unmoved _))⟩

theorem execPowerOn_orderly (s : State) : ∃ t, execPowerOn s = .next t ∧ Orderly s t := by
  have hon : Unmoved s { s with control := { s.control with power := true } } := .of_view rfl
  refine ⟨_, rfl, ?_⟩
  split
  · exact .refl s
  · dsimp only
    split
    · exact hon.orderly.trans (haltPart_orderly _)
    · exact hon.orderly.trans (beginStartUp_orderly ..)

theorem execPowerLoss_orderly (s : State) : ∃ t, execPowerLoss s = .next t ∧ Orderly s t := by
  have hoff : Unmoved s { s with control := { s.control with power := false } } := .of_view rfl
  exact ⟨_, rfl, .ite fun _ => hoff.orderly.trans (haltPart_orderly _)⟩

theorem execResetLineAssert_orderly (s : State) : ∃ t, execResetLineAssert s = .next t ∧ Orderly s t := by
  have hlow : Unmoved s { s with control := { s.control with resetLow := true } } := .of_view rfl
  refine ⟨_, rfl, ?_⟩
  split
  · exact .refl s
  · dsimp only
    split
    · exact hlow.orderly.trans (haltPart_orderly _)
    · exact hlow.orderly

theorem execResetLineRelease_orderly (s : State) : ∃ t, execResetLineRelease s = .next t ∧ Orderly s t := by
  have hhigh : Unmoved s { s with control := { s.control with resetLow := false } } := .of_view rfl
  refine ⟨_, rfl, .ite fun _ => ?_⟩
  dsimp only
  split
  · exact hhigh.orderly.trans (beginStartUp_orderly ..)
  · exact hhigh.orderly

theorem execRetainedLoss_orderly (s : State) : ∃ t, execRetainedLoss s = .next t ∧ Orderly s t := by
  refine ⟨_, rfl, ?_⟩
  split
  · exact .refl s
  · exact Unmoved.orderly (.of_view rfl)

theorem execFuseLoad_orderly (s : State) : ∃ t, execFuseLoad s = .next t ∧ Orderly s t :=
  ⟨_, rfl, .ite fun hp => setPhase_orderly (readFuses_unmoved s).idle (by rw [hp]; decide) (by rw [hp]; decide)
    fun hb => absurd hb (by decide)⟩

theorem execRetainedCheck_orderly (damaged : Bool) (s : State) :
    ∃ t, execRetainedCheck damaged s = .next t ∧ Orderly s t := by
  refine ⟨_, rfl, .ite fun hp => ?_⟩
  split
  · exact correctStore_orderly hp
  · exact loseStore_orderly hp

theorem execClockCheck_orderly (deviation : Nat) (s : State) :
    ∃ t, execClockCheck deviation s = .next t ∧ Orderly s t := by
  refine ⟨_, rfl, .ite fun hp => setPhase_orderly ?_ (by rw [hp]; decide) (by rw [hp]; decide)
    fun _ => by rw [hp]; decide⟩
  refine (Unmoved.trans ?_ (followLevel_unmoved ..)).idle
  exact .of_view rfl

theorem execRebuild_orderly (s : State) : ∃ t, execRebuild s = .next t ∧ Orderly s t :=
  ⟨_, rfl, .ite fun hp => setPhase_orderly (rebuildList_idle _ s) (by rw [hp]; decide) (by rw [hp]; decide)
    fun _ => by rw [hp]; decide⟩

/-- Every command but VERIFY_POSTING keeps the parcel table, the key store and the grant table in order. -/
theorem exec_orderly (c : Instr) (s : State) (hc : c ≠ .verifyPosting) : ∃ t, exec c s = .next t ∧ Orderly s t := by
  cases c with
  | frameHeader dst src => exact ⟨_, rfl, Unmoved.ite (judgeHeader_unmoved dst src s)⟩
  | frameEnd rest => exact execFrameEnd_orderly rest s
  | holdRepeatTimer => exact execHoldRepeatTimer_orderly s
  | frameTake => exact execFrameTake_orderly s
  | unknownKind src tag kind body => exact execUnknownKind_orderly src tag kind body s
  | status src tag body => exact requestRow_orderly .status src tag body s
  | parcelLoad src tag body => exact requestRow_orderly .parcelLoad src tag body s
  | parcelWithdraw src tag body => exact requestRow_orderly .parcelWithdraw src tag body s
  | parcelList src tag body => exact requestRow_orderly .parcelList src tag body s
  | openKeys src tag body => exact requestRow_orderly .openKeys src tag body s
  | close src tag body => exact requestRow_orderly .close src tag body s
  | extend src tag body => exact requestRow_orderly .extend src tag body s
  | grantList src tag body => exact requestRow_orderly .grantList src tag body s
  | timeTrim src tag body => exact requestRow_orderly .timeTrim src tag body s
  | timeSet src tag body => exact requestRow_orderly .timeSet src tag body s
  | stationEnrol src tag body => exact requestRow_orderly .stationEnrol src tag body s
  | stationRetire src tag body => exact requestRow_orderly .stationRetire src tag body s
  | stationSuspend src tag body => exact requestRow_orderly .stationSuspend src tag body s
  | stationResume src tag body => exact requestRow_orderly .stationResume src tag body s
  | stationRank src tag body => exact requestRow_orderly .stationRank src tag body s
  | stationList src tag body => exact requestRow_orderly .stationList src tag body s
  | modeKey src tag body => exact requestRow_orderly .modeKey src tag body s
  | modeChange src tag body => exact requestRow_orderly .modeChange src tag body s
  | settingWrite src tag body => exact requestRow_orderly .settingWrite src tag body s
  | settingRead src tag body => exact requestRow_orderly .settingRead src tag body s
  | zeroize src tag body => exact requestRow_orderly .zeroize src tag body s
  | noticeRead src tag body => exact requestRow_orderly .noticeRead src tag body s
  | noticeConfig src tag body => exact requestRow_orderly .noticeConfig src tag body s
  | selfTest src tag body => exact requestRow_orderly .selfTest src tag body s
  | restart src tag body => exact requestRow_orderly .restart src tag body s
  | crystalSecond => exact execCrystalSecond_orderly s
  | trimYearWrap => exact ⟨_, rfl, Unmoved.ite (.of_view rfl)⟩
  | mainClockSecond deviation => exact execMainClockSecond_orderly deviation s
  | driftRunLimit => exact execDriftRunLimit_orderly s
  | openWaitTimeout => exact ⟨_, rfl, Unmoved.ite (timeOutOpens_unmoved s)⟩
  | periodicTestDue => exact ⟨_, rfl, Unmoved.ite (examineTestInterval_unmoved s)⟩
  | engineArbiterChoice => exact ⟨_, rfl, arbitrate_orderly _ s⟩
  | katComplete pass => exact ⟨_, rfl, completeKat_orderly pass s⟩
  | verifyComplete done => exact ⟨_, rfl, (completeVerify_unmoved s).orderly⟩
  | rewrapComplete => exact ⟨_, rfl, (completeRewrap_unmoved s).orderly⟩
  | verifyPosting => exact absurd rfl hc
  | rewrapPosting => exact ⟨_, rfl, .ite fun _ => postRewrap_orderly s⟩
  | selfTestPosting => exact ⟨_, rfl, Unmoved.ite (postSelfTest_unmoved s)⟩
  | openAnswerDue => exact ⟨_, rfl, Unmoved.ite (answerOpenDue_unmoved s)⟩
  | stagingAnswerDue => exact ⟨_, rfl, Unmoved.ite (answerStaging_unmoved s)⟩
  | sendHold => exact execSendHold_orderly s
  | sendExpire => exact execSendExpire_orderly s
  | sendAnswer => exact execSendAnswer_orderly s
  | sendNotice => exact execSendNotice_orderly s
  | linkDown => exact ⟨_, rfl, Unmoved.orderly (.of_view rfl)⟩
  | linkUp => exact ⟨_, rfl, Unmoved.orderly (.of_view rfl)⟩
  | powerOn => exact execPowerOn_orderly s
  | powerLoss => exact execPowerLoss_orderly s
  | resetLineAssert => exact execResetLineAssert_orderly s
  | resetLineRelease => exact execResetLineRelease_orderly s
  | startUpBegin => exact ⟨_, rfl, .ite fun _ => startUpBegun_orderly _ s⟩
  | fuseLoad => exact execFuseLoad_orderly s
  | retainedCheck damaged => exact execRetainedCheck_orderly damaged s
  | clockCheck deviation => exact execClockCheck_orderly deviation s
  | rebuild => exact execRebuild_orderly s
  | startUpEnd => exact ⟨_, rfl, .ite fun hp => endStartUp_orderly hp⟩
  | transmitFrameEnd => exact execTransmitFrameEnd_orderly s
  | retainedLoss => exact execRetainedLoss_orderly s

theorem exec_posting (c : Instr) (s : State) : ∃ t, exec c s = .next t ∧ OrderlyPosting s t := by
  by_cases hc : c = .verifyPosting
  · subst hc; exact execVerifyPosting_posting s
  · obtain ⟨t, ht, hkept⟩ := exec_orderly c s hc
    exact ⟨t, ht, hkept.posting⟩

/-- A step takes the front command from the queue and runs it; with none waiting it changes nothing. -/
theorem step_posting {s t : State} (h : step s = .next t) : OrderlyPosting s t := by
  unfold step at h
  split at h
  · cases h; exact (Orderly.refl s).posting
  · rename_i c rest _
    obtain ⟨u, hu, hkept⟩ := exec_posting c { s with pending := rest }
    rw [hu] at h
    cases h
    have htaken : Unmoved s { s with pending := rest } := .of_view rfl
    exact .after htaken.orderly rfl hkept

/-- Settles O10: every write of the tables leaves each held key slot with an entry that holds keys. -/
theorem keysReferencedKept : Obligations.KeysReferencedKept := fun _ _ h hs => (step_posting hs).keys h

/-- Settles O11: every write of the tables keeps counts and records together. -/
theorem grantsCountedKept : Obligations.GrantsCountedKept := fun _ _ h hs => (step_posting hs).counts h

theorem holdsKeys_eq_false {e : ParcelEntry} :
    e.holdsKeys = false ↔ e.state = .lapsed ∨ e.state = .withdrawn := by
  cases h : e.state <;> simp [ParcelEntry.holdsKeys, h]

/-- Settles O12: an entry in use holds keys only where it held them, or is one that VERIFY_POSTING committed. -/
theorem lapseIsOneWay : Obligations.LapseIsOneWay := by
  intro c s t i e e' hexec he hlapsed he'
  have hstays : ∀ f, s.entry i = some f → (e'.holdsKeys = true → f.holdsKeys = true) →
      e'.state = .lapsed ∨ e'.state = .withdrawn := by
    intro f hf hheld
    obtain rfl := Option.some.inj (he.symm.trans hf)
    rw [← holdsKeys_eq_false] at hlapsed ⊢
    exact Bool.eq_false_of_not_eq_true fun hk => nomatch hlapsed.symm.trans (hheld hk)
  by_cases hc : c = .verifyPosting
  · subst hc
    obtain ⟨u, hu, hkept⟩ := execVerifyPosting_posting s
    obtain rfl := Host.Outcome.next.inj (hu.symm.trans hexec)
    rcases hkept.entries i e' he' with ⟨f, hf, hheld⟩ | hnew
    · exact .inl (hstays f hf hheld)
    · exact .inr ⟨rfl, hnew⟩
  · obtain ⟨u, hu, hkept⟩ := exec_orderly c s hc
    obtain rfl := Host.Outcome.next.inj (hu.symm.trans hexec)
    obtain ⟨f, hf, hheld⟩ := hkept.entries i e' he'
    exact .inl (hstays f hf hheld)

end Sys2Proof.Machine
end

section
/-! PROOFS. The listings and SETTING_READ (O27). -/

namespace Sys2Proof.Machine

/-! ## Lengths (12 Tables 12.7, 12.9) -/

@[simp] theorem beBytes_length (n v : Nat) : (beBytes n v).length = n := by
  induction n with
  | zero => rfl
  | succ n ih => rw [beBytes, List.length_cons, ih]

@[simp] theorem strBytes_length {w : Nat} (v : BitVec w) : (strBytes v).length = w / 8 := beBytes_length ..

theorem parcelSummary_length (p : Nat × ParcelEntry) : (parcelSummary p).length = 41 := by simp [parcelSummary]

theorem grantSummary_length (s : State) (p : Nat × Grant) : (grantSummary s p).length = 21 := by
  simp [grantSummary, Handle.bytes]

theorem stationSummary_length (p : Nat × Station) : (stationSummary p).length = 24 := by simp [stationSummary]

/-- Summaries of one length, one after another. -/
theorem length_flatMap_of_forall {α β : Type} {f : α → List β} {n : Nat} (h : ∀ a, (f a).length = n) (l : List α) :
    (l.flatMap f).length = n * l.length := by
  rw [List.length_flatMap, List.map_congr_left fun a _ => h a, List.map_const', List.sum_replicate, smul_eq_mul,
    Nat.mul_comm]

theorem parcelListDetail_length (first : Nat) (s : State) :
    (parcelListDetail first s).length = 9 + 41 * min 32 (parcelsFrom first s).length := by
  simp only [parcelListDetail, List.length_append, List.length_cons, List.length_nil, beBytes_length,
    length_flatMap_of_forall parcelSummary_length, List.length_take]

theorem grantListDetail_length (who : Sender) (s : State) :
    (grantListDetail who s).length = 5 + 21 * (listedGrants who s).length := by
  simp only [grantListDetail, List.length_append, List.length_cons, List.length_nil, beBytes_length,
    length_flatMap_of_forall (grantSummary_length s)]

theorem stationListDetail_length (s : State) :
    (stationListDetail s).length = 5 + 24 * countUsed s.stations.entries := by
  simp only [stationListDetail, List.length_append, List.length_cons, List.length_nil,
    length_flatMap_of_forall stationSummary_length, listUsed_length]

/-! ## The answers -/

/-- A served request runs its owner. -/
theorem exec_served {s : State} {src : Addr} {who : Sender} (h : Served s src who) (k : Kind) (tag : Byte)
    (body : List Byte) : exec (requestRow k src tag body) s =
      .next (ownerOf k who { src := src, kind := k.value, tag := tag, body := body } s) := by
  rw [exec_requestRow, takeRequest_matched h.mayPost h.source]

theorem checked_of_passed {f : Frame} {cs : List (Bool × Reply)} (h : ∀ c ∈ cs, c.1 = false) (act : State → State)
    (s : State) : checked f cs act s = act s := by
  induction cs with
  | nil => rfl
  | cons c cs ih =>
    obtain ⟨b, r⟩ := c
    obtain rfl : b = false := h _ List.mem_cons_self
    exact ih fun c hc => h c (List.mem_cons_of_mem _ hc)

/-- A request whose checks pass, and that answers and does nothing else. -/
theorem exec_answers {s : State} {src : Addr} {who : Sender} (h : Served s src who) {k : Kind} {tag : Byte}
    {body : List Byte} {cs : List (Bool × Reply)} {detail : State → List Byte} (hpass : ∀ c ∈ cs, c.1 = false)
    (howner : ownerOf k who { src := src, kind := k.value, tag := tag, body := body } s =
      checked { src := src, kind := k.value, tag := tag, body := body } cs
        (fun t => reply { src := src, kind := k.value, tag := tag, body := body }
          { code := .ok, detail := detail t } t) s) :
    exec (requestRow k src tag body) s = .next (answered s src tag k .ok (detail s)) := by
  rw [exec_served h, howner, checked_of_passed hpass]; rfl

theorem sealedCheck_passed {s : State} {src : Addr} {who : Sender} (h : Served s src who) :
    (sealedCheck s).1 = false := by rw [sealedCheck, h.service]; rfl

theorem suspendedCheck_passed {who : Sender} (h : who.isSuspended = false) : (suspendedCheck who).1 = false := h

/-- Programming stations and monitors read the listings (08 Table 8.2). -/
theorem roleCheck_reader {who : Sender} (h : who.role ≠ .screen) :
    (roleCheck who [.programming, .monitor]).1 = false := by
  cases hr : who.role with
  | screen => exact absurd hr h
  | programming | monitor => rw [roleCheck, hr]; rfl

/-- PARCEL_LIST is answered with the entries from an index on (02 R34). -/
theorem exec_parcelList {s : State} {src : Addr} {who : Sender} (h : Served s src who)
    (hs : who.isSuspended = false) (hr : who.role ≠ .screen) (tag : Byte) {body : List Byte} (hb : body.length = 1)
    (hv : num body 0 1 < 64) : exec (.parcelList src tag body) s =
      .next (answered s src tag .parcelList .ok (parcelListDetail (num body 0 1) s)) := by
  refine exec_answers (k := .parcelList) h ?_ rfl
  simp only [parcelListChecks, List.forall_mem_cons]
  exact ⟨sealedCheck_passed h, roleCheck_reader hr, suspendedCheck_passed hs, by simp [lengthThen, hb, hv], nofun⟩

/-- GRANT_LIST is answered with the records a sender may see (06 R109). -/
theorem exec_grantList {s : State} {src : Addr} {who : Sender} (h : Served s src who)
    (hs : who.isSuspended = false) (tag : Byte) : exec (.grantList src tag []) s =
      .next (answered s src tag .grantList .ok (grantListDetail who s)) := by
  refine exec_answers (k := .grantList) h ?_ rfl
  simp only [grantListChecks, List.forall_mem_cons]
  exact ⟨sealedCheck_passed h, suspendedCheck_passed hs, by simp [lengthIs], nofun⟩

/-- STATION_LIST is answered with the entries in use (08 R140). -/
theorem exec_stationList {s : State} {src : Addr} {who : Sender} (h : Served s src who)
    (hs : who.isSuspended = false) (hr : who.role ≠ .screen) (tag : Byte) : exec (.stationList src tag []) s =
      .next (answered s src tag .stationList .ok (stationListDetail s)) := by
  refine exec_answers (k := .stationList) h ?_ rfl
  simp only [stationListChecks, List.forall_mem_cons]
  exact ⟨sealedCheck_passed h, roleCheck_reader hr, suspendedCheck_passed hs, by simp [lengthIs], nofun⟩

/-- SETTING_READ is answered with the named setting (08 R147). -/
theorem exec_settingRead {s : State} {src : Addr} {who : Sender} (h : Served s src who)
    (hs : who.isSuspended = false) (hr : who.role ≠ .screen) (tag : Byte) {body : List Byte} (hb : body.length = 1)
    (hlow : 1 ≤ num body 0 1) (hhigh : num body 0 1 ≤ 13) : exec (.settingRead src tag body) s =
      .next (answered s src tag .settingRead .ok (settingReadDetail (num body 0 1) s)) := by
  refine exec_answers (k := .settingRead) h ?_ rfl
  simp only [settingReadChecks, List.forall_mem_cons]
  exact ⟨sealedCheck_passed h, roleCheck_reader hr, suspendedCheck_passed hs, by simp [lengthIs, hb],
    by simp [knownSetting, settingName, hlow, hhigh], nofun⟩

/-- Settles O27: each answer with the length of its detail, and how it begins. -/
theorem listingsAnswered : Obligations.ListingsAnswered := by
  intro src tag s who h hs
  exact ⟨fun body hr hb hv => ⟨_, exec_parcelList h hs hr tag hb hv, parcelListDetail_length .., rfl⟩,
    ⟨_, exec_grantList h hs tag, grantListDetail_length .., rfl⟩,
    fun hr => ⟨_, exec_stationList h hs hr tag, stationListDetail_length s, rfl⟩,
    fun body hr hb hlow hhigh => exec_settingRead h hs hr tag hb hlow hhigh⟩

end Sys2Proof.Machine
end

section
/-! PROOFS. An event of the Deadline List leaves no deadline due: what O34 and O50 need of firing. -/

namespace Sys2Proof.Machine

/-- The firings that a deadline can bring: its own, and for a WINDOW_END that of the PURGE it inserts (07 R117). -/
def firingsOf (d : Deadline) : Nat := if d.kind = .windowEnd then 2 else 1

/-- The firings that the deadlines of a list can bring. -/
def firingsIn (l : List Deadline) : Nat := (l.map firingsOf).sum

@[simp] theorem firingsIn_cons (d : Deadline) (l : List Deadline) :
    firingsIn (d :: l) = firingsOf d + firingsIn l := rfl

theorem firingsOf_pos (d : Deadline) : 0 < firingsOf d := by unfold firingsOf; split <;> decide

theorem firingsIn_le (l : List Deadline) : firingsIn l ≤ 2 * l.length := by
  induction l with
  | nil => exact le_rfl
  | cons d l ih =>
    have hd : firingsOf d ≤ 2 := by unfold firingsOf; split <;> decide
    rw [firingsIn_cons, List.length_cons]; omega

theorem firingsIn_insertDeadline (d : Deadline) (l : List Deadline) :
    firingsIn (insertDeadline d l) = firingsOf d + firingsIn l := by
  induction l with
  | nil => rfl
  | cons h l ih =>
    unfold insertDeadline
    split
    · rfl
    · simp only [firingsIn_cons, ih]; omega

theorem firingsIn_sublist {l m : List Deadline} (h : l.Sublist m) : firingsIn l ≤ firingsIn m :=
  (h.map firingsOf).sum_le_sum fun _ _ => Nat.zero_le _

@[simp] theorem setEntryState_deadlines (i : Nat) (st : ParcelState) (s : State) :
    (setEntryState i st s).deadlines = s.deadlines := by
  unfold setEntryState; split <;> rfl

@[simp] theorem lapseEntry_deadlines (i : Nat) (s : State) : (lapseEntry i s).deadlines = s.deadlines := by
  simp [lapseEntry]

theorem expireGrant_deadlines_sublist (g : Nat) (why : Reason) (s : State) :
    (expireGrant g why s).deadlines.Sublist s.deadlines := by
  unfold expireGrant
  split
  · exact List.Sublist.refl _
  · exact List.filter_sublist

/-- What a firing does to the rest of the list: entries may leave it, and a WINDOW_END may insert one PURGE. -/
theorem fireOne_deadlines (d : Deadline) (s : State) : (fireOne d s).deadlines.Sublist s.deadlines ∨
    (d.kind = .windowEnd ∧ ∃ q, q.kind = .purge ∧ (fireOne d s).deadlines = insertDeadline q s.deadlines) := by
  unfold fireOne
  split <;> rename_i hk
  · refine .inl ?_
    unfold fireWindowStart
    split
    · split <;> simp
    · simp
  · unfold fireWindowEnd
    split
    · split
      · exact .inr ⟨hk, _, rfl, by rw [addDeadline_deadlines, lapseEntry_deadlines]⟩
      · exact .inl (List.Sublist.refl _)
    · exact .inl (List.Sublist.refl _)
  · refine .inl ?_
    unfold firePurge
    split
    · split
      · split
        · rw [freeEntry_deadlines]; exact List.filter_sublist
        · exact List.Sublist.refl _
      · exact List.Sublist.refl _
    · exact List.Sublist.refl _
  · refine .inl ?_
    unfold fireSpanEnd
    split
    · split
      · exact expireGrant_deadlines_sublist ..
      · exact List.Sublist.refl _
    · exact List.Sublist.refl _

/-- Each firing uses up one of the firings that the list can bring. -/
theorem firingsIn_fireOne_lt (d : Deadline) (s : State) :
    firingsIn (fireOne d s).deadlines < firingsOf d + firingsIn s.deadlines := by
  rcases fireOne_deadlines d s with hsub | ⟨hk, q, hq, heq⟩
  · have := firingsIn_sublist hsub
    have := firingsOf_pos d
    omega
  · rw [heq, firingsIn_insertDeadline]
    simp [firingsOf, hk, hq]

/-- With fuel for every firing the list can bring, no deadline due is left. -/
theorem fireDue_ahead {fuel n : Nat} {s : State} (hfuel : firingsIn s.deadlines ≤ fuel) (ho : InOrder s.deadlines) :
    ∀ q ∈ (fireDue fuel n s).deadlines, n < q.due := by
  induction fuel generalizing s with
  | zero =>
    have hnil : s.deadlines = [] := by
      cases hs : s.deadlines with
      | nil => rfl
      | cons d rest =>
        have := firingsOf_pos d
        rw [hs, firingsIn_cons] at hfuel; omega
    simp [fireDue, hnil]
  | succ fuel ih =>
    unfold fireDue
    split
    · rename_i hs; simp [hs]
    · rename_i d rest hs
      rw [hs] at ho hfuel
      obtain ⟨hd, hrest⟩ := List.pairwise_cons.mp ho
      split
      · have hspent := firingsIn_fireOne_lt d { s with deadlines := rest }
        rw [firingsIn_cons] at hfuel
        exact ih (by simp only at hspent; omega) (fireOne_inOrder hrest)
      · intro q hq
        rw [hs] at hq
        rcases List.mem_cons.mp hq with rfl | hq
        · omega
        · have := hd q hq; omega

/-- An event at booth time `n` leaves no deadline due at `n` (07 R114, R115). -/
theorem runDeadlines_ahead {n : Nat} {s : State} (ho : InOrder s.deadlines) :
    ∀ q ∈ (runDeadlines n s).deadlines, n < q.due := fireDue_ahead (firingsIn_le _) ho

end Sys2Proof.Machine
end

section
/-! PROOFS. The crystal second and TRIM_YEAR_WRAP (O50). -/

namespace Sys2Proof.Machine

/-! ## The clock in a crystal second -/

/-- The Booth Clock with a crystal second noted, and counted by the trim-year counter (03 R40, R43). -/
def yearClock (c : BoothClock) : BoothClock :=
  { c with
    trimBudget := if 31535999 ≤ c.trimYear then 360 else c.trimBudget
    trimYear := if 31535999 ≤ c.trimYear then 0 else c.trimYear + 1
    ticked := true }

/-- The Booth Clock with booth time advanced, and the floor raised at a multiple of 60 (03 R35, R47). -/
def advancedClock (c : BoothClock) : BoothClock :=
  { c with
    boothTime := c.boothTime + 1
    floor := if (c.boothTime + 1) % 60 = 0 then max c.floor (c.boothTime + 1) else c.floor }

/-- Booth time counts in a crystal second: in RUNNING, and short of its end (03 R35). -/
def BoothCounts (s : State) : Prop := s.clock.timeState = .running ∧ s.clock.boothTime < maxCount

theorem countTrimYear_noteTick (s : State) :
    countTrimYear (noteTick s) = { s with clock := yearClock s.clock } := by
  have hend : (noteTick s).clock.trimYear = s.clock.trimYear := rfl
  by_cases h : 31535999 ≤ s.clock.trimYear
  · rw [countTrimYear, if_pos (hend ▸ h), yearClock, if_pos h, if_pos h]; rfl
  · rw [countTrimYear, if_neg (hend ▸ h), yearClock, if_neg h, if_neg h]; rfl

theorem advanceBooth_eq (s : State) : advanceBooth s = { s with clock := advancedClock s.clock } := by
  by_cases h : (s.clock.boothTime + 1) % 60 = 0
  · rw [advancedClock, if_pos h]; exact if_pos h
  · rw [advancedClock, if_neg h]; exact if_neg h

theorem awake_iff {s : State} : s.awake = true ↔ Awake s := by simp [State.awake, Awake]

/-- In STARTING and without main power the advance is handed to nobody (03 R35). -/
theorem tickBooth_asleep {s : State} (h : BoothCounts s) (ha : ¬Awake s) :
    tickBooth s = { s with clock := advancedClock s.clock } := by
  have hasleep : ¬({ s with clock := advancedClock s.clock } : State).awake = true := mt awake_iff.mp ha
  refine (if_pos h).trans ?_
  rw [advanceBooth_eq]
  exact if_neg hasleep

/-- While awake the advance is one event of the Deadline List (07 R114). -/
theorem tickBooth_awake {s : State} (h : BoothCounts s) (ha : Awake s) :
    tickBooth s = runDeadlines (s.clock.boothTime + 1) { s with clock := advancedClock s.clock } := by
  have hawake : ({ s with clock := advancedClock s.clock } : State).awake = true := awake_iff.mpr ha
  refine (if_pos h).trans ?_
  rw [advanceBooth_eq]
  exact if_pos hawake

/-! ## The crystal second -/

/-- The Booth Clock after a crystal second (03 R35, R40, R43, R47). -/
def crystalClock (s : State) : BoothClock :=
  { yearClock s.clock with
    boothTime := if s.clock.timeState = .running ∧ s.clock.boothTime < 4294967295
      then s.clock.boothTime + 1 else s.clock.boothTime
    floor := if s.clock.timeState = .running ∧ s.clock.boothTime < 4294967295 ∧ (s.clock.boothTime + 1) % 60 = 0
      then max s.clock.floor (s.clock.boothTime + 1) else s.clock.floor }

theorem crystalClock_counting {s : State} (h : BoothCounts s) : crystalClock s = advancedClock (yearClock s.clock) := by
  obtain ⟨hrun, hlt⟩ := h
  simp only [crystalClock, hrun, show s.clock.boothTime < 4294967295 from hlt, true_and, if_true]; rfl

theorem crystalClock_stopped {s : State} (h : ¬BoothCounts s) : crystalClock s = yearClock s.clock := by
  have hbooth : ¬(s.clock.timeState = .running ∧ s.clock.boothTime < 4294967295) := h
  have hfloor : ¬(s.clock.timeState = .running ∧ s.clock.boothTime < 4294967295 ∧
      (s.clock.boothTime + 1) % 60 = 0) := fun hf => h ⟨hf.1, hf.2.1⟩
  rw [crystalClock, if_neg hbooth, if_neg hfloor]; rfl

theorem exec_crystalSecond {s : State} (h : s.control.storeValid = true) :
    exec .crystalSecond s = .next (tickBooth { s with clock := yearClock s.clock }) := by
  rw [← countTrimYear_noteTick]
  exact congrArg _ (if_pos h)

/-- A crystal second that is no event of the Deadline List changes the clock alone. -/
theorem exec_crystalSecond_clock {s : State} (h : s.control.storeValid = true) (hq : ¬(Awake s ∧ BoothCounts s)) :
    exec .crystalSecond s = .next { s with clock := crystalClock s } := by
  rw [exec_crystalSecond h]
  by_cases hc : BoothCounts s
  · rw [crystalClock_counting hc]
    exact congrArg _ (tickBooth_asleep (s := { s with clock := yearClock s.clock }) hc fun ha => hq ⟨ha, hc⟩)
  · rw [crystalClock_stopped hc]; exact congrArg _ (if_neg hc)

/-- While awake and counting, a crystal second is one event of the Deadline List at the new booth time (07 R114). -/
theorem exec_crystalSecond_event {s : State} (h : s.control.storeValid = true) (ha : Awake s) (hc : BoothCounts s) :
    exec .crystalSecond s = .next
      (runDeadlines (crystalClock s).boothTime { s with clock := crystalClock s }) := by
  rw [exec_crystalSecond h, crystalClock_counting hc]
  exact congrArg _ (tickBooth_awake (s := { s with clock := yearClock s.clock }) hc ha)

/-- With the store lost a crystal second counts nothing (log 25). -/
theorem exec_crystalSecond_lost {s : State} (h : s.control.storeValid = false) :
    exec .crystalSecond s = .next { s with clock := { s.clock with ticked := true } } :=
  congrArg _ (if_neg (by simp [h]))

/-- The row TRIM_YEAR_WRAP at the counter's end is the wrap alone (03 R43, log 6). -/
theorem exec_trimYearWrap {s : State} (h : s.control.storeValid = true) (hend : s.clock.trimYear = 31535999) :
    exec .trimYearWrap s = .next { s with clock := { s.clock with trimYear := 0, trimBudget := 360 } } :=
  congrArg _ (if_pos (by simp [h, hend, trimYearEnd]))

/-- Settles O50, by whether the second is an event of the Deadline List. -/
theorem crystalSecondCounts : Obligations.CrystalSecondCounts := by
  refine ⟨fun s => exec_crystalSecond_lost, fun s h => ⟨?_, exec_trimYearWrap h⟩⟩
  by_cases he : Awake s ∧ BoothCounts s
  · obtain ⟨ha, hc⟩ := he
    have hwork := runDeadlines_work (crystalClock s).boothTime { s with clock := crystalClock s }
    have hevent := exec_crystalSecond_event h ha hc
    have hahead := runDeadlines_ahead (n := (crystalClock s).boothTime) (s := { s with clock := crystalClock s })
    generalize ht : runDeadlines (crystalClock s).boothTime { s with clock := crystalClock s } = t
      at hwork hevent hahead
    have hclock : t.clock = crystalClock s := hwork.clock
    refine ⟨t, hevent, ?_⟩
    rw [hclock]
    refine ⟨rfl, rfl, rfl, rfl, rfl, rfl, rfl, rfl, fun hno => ?_, fun _ _ _ => hahead, fun _ _ _ => ht.symm,
      hwork.link, hwork.stations, hwork.openQueue, hwork.arbiter, hwork.engine, hwork.fuses, hwork.control⟩
    rcases hno with hno | hlost
    · exact absurd ha hno
    · exact absurd (hc.1.symm.trans hlost) (by decide)
  · exact ⟨_, exec_crystalSecond_clock h he, rfl, rfl, rfl, rfl, rfl, rfl, rfl, rfl, fun _ => rfl,
      fun ha hr hb => absurd ⟨ha, hr, hb⟩ he, fun ha hr hb => absurd ⟨ha, hr, hb⟩ he,
      rfl, rfl, rfl, rfl, rfl, rfl, rfl⟩

end Sys2Proof.Machine
end

section
/-! PROOFS. Which notice sources an operation touches, and that of these only status and pending flag change. -/

namespace Sys2Proof.Machine

/-- The operation raises and clears sources of `l` at most: every other source stays, and the history and the
configuration of all (10 R160 to R162). -/
structure RaisesAmong (l : List Nat) (s t : State) : Prop where
  length : t.attention.sources.length = s.attention.sources.length
  threshold : t.attention.threshold = s.attention.threshold
  others : ∀ n, n ∉ l → t.source n = s.source n
  flags : ∀ n, t.source n = { s.source n with status := (t.source n).status, pending := (t.source n).pending }

variable {l : List Nat}

theorem RaisesAmong.of_attention {s t : State} (h : t.attention = s.attention) : RaisesAmong l s t := by
  have hsource : ∀ n, t.source n = s.source n := fun n => by unfold State.source; rw [h]
  exact ⟨by rw [h], by rw [h], fun n _ => hsource n, fun n => by rw [hsource n]⟩

theorem RaisesAmong.refl (s : State) : RaisesAmong l s s := .of_attention rfl

theorem RaisesAmong.trans {s t u : State} (h : RaisesAmong l s t) (k : RaisesAmong l t u) : RaisesAmong l s u :=
  ⟨k.length.trans h.length, k.threshold.trans h.threshold, fun n hn => (k.others n hn).trans (h.others n hn),
    fun n => (k.flags n).trans (by rw [h.flags n])⟩

theorem RaisesAmong.mono {m : List Nat} {s t : State} (h : RaisesAmong l s t) (hlm : ∀ n ∈ l, n ∈ m) :
    RaisesAmong m s t := ⟨h.length, h.threshold, fun n hn => h.others n fun hl => hn (hlm n hl), h.flags⟩

/-- The threshold stays with the configuration of the sources. -/
theorem RaisesAmong.attention_eq {s t : State} (h : RaisesAmong l s t) :
    { t.attention with threshold := s.attention.threshold } = t.attention := by rw [← h.threshold]

theorem modSource_raises {n : Nat} (hn : n ∈ l) {f : Source → Source}
    (hf : ∀ c, f c = { c with status := (f c).status, pending := (f c).pending }) (s : State) :
    RaisesAmong l s (s.modSource n f) := by
  refine ⟨State.modSource_sources_length .., rfl, fun m hm => ?_, fun m => ?_⟩
  · rw [State.source_modSource, if_neg fun ⟨heq, _⟩ => hm (heq ▸ hn)]
  · rw [State.source_modSource]
    split
    · exact hf _
    · rfl

theorem raiseOne_raises {n : Nat} (hn : n ∈ l) (s : State) : RaisesAmong l s (raiseOne n s) :=
  modSource_raises hn (fun _ => rfl) s

theorem raisePulse_raises {n : Nat} (hn : n ∈ l) (s : State) : RaisesAmong l s (raisePulse n s) :=
  raiseOne_raises hn s

theorem clearLevel_raises {n : Nat} (hn : n ∈ l) (s : State) : RaisesAmong l s (clearLevel n s) :=
  modSource_raises hn (fun _ => rfl) s

/-- The raise of a critical source raises FAULT too (10 R163). -/
theorem raiseLevel_raises {n : Nat} (hn : n ∈ l) (hf : isCritical n = true → Src.fault ∈ l) (s : State) :
    RaisesAmong l s (raiseLevel n s) := by
  unfold raiseLevel
  split
  · exact .refl s
  · split
    · rename_i hc
      exact (raiseOne_raises hn s).trans (raiseOne_raises (hf hc) _)
    · exact raiseOne_raises hn s

/-! ## Parcel entries, grants and firing -/

theorem setEntryState_attention (i : Nat) (st : ParcelState) (s : State) :
    (setEntryState i st s).attention = s.attention := by
  unfold setEntryState; split <;> rfl

theorem lapseEntry_raises (hl : Src.parcelLapsed ∈ l) (i : Nat) (s : State) : RaisesAmong l s (lapseEntry i s) := by
  refine RaisesAmong.trans (.of_attention ?_) (raisePulse_raises hl _)
  rw [eraseEntry_attention, setEntryState_attention]

theorem expireGrant_attention (g : Nat) (why : Reason) (s : State) :
    (expireGrant g why s).attention = s.attention := by rw [expireGrant_frame]

theorem forceExpiry_raises (hl : Src.forcedExpiry ∈ l) (pick : Grant → Bool) (why : Reason) (s : State) :
    RaisesAmong l s (forceExpiry pick why s) := by
  unfold forceExpiry
  split
  · exact .refl s
  · refine RaisesAmong.trans ?_ (raisePulse_raises hl _)
    exact foldl_chain .refl .trans (fun t g => .of_attention (expireGrant_attention g why t)) _ s

theorem fireOne_raises (hp : Src.parcelLapsed ∈ l) (hg : Src.grantExpired ∈ l) (d : Deadline) (s : State) :
    RaisesAmong l s (fireOne d s) := by
  unfold fireOne
  split
  · unfold fireWindowStart
    split
    · split
      · exact .of_attention (setEntryState_attention ..)
      · exact .refl s
    · exact .refl s
  · unfold fireWindowEnd
    split
    · split
      · exact (lapseEntry_raises hp _ s).trans (.of_attention rfl)
      · exact .refl s
    · exact .refl s
  · unfold firePurge
    split
    · split
      · split
        · exact .of_attention (freeEntry_attention ..)
        · exact .of_attention rfl
      · exact .refl s
    · exact .refl s
  · unfold fireSpanEnd
    split
    · split
      · exact RaisesAmong.trans (.of_attention (expireGrant_attention ..)) (raisePulse_raises hg _)
      · exact .refl s
    · exact .refl s

/-- An event of the Deadline List raises PARCEL_LAPSED and GRANT_EXPIRED at most (07 R117, 06 R99). -/
theorem runDeadlines_raises (hp : Src.parcelLapsed ∈ l) (hg : Src.grantExpired ∈ l) (n : Nat) (s : State) :
    RaisesAmong l s (runDeadlines n s) := by
  unfold runDeadlines
  generalize 2 * s.deadlines.length = fuel
  induction fuel generalizing s with
  | zero => exact .refl s
  | succ fuel ih =>
    unfold fireDue
    split
    · exact .refl s
    · rename_i d rest _
      split
      · have htail : RaisesAmong l s { s with deadlines := rest } := .of_attention rfl
        exact (htail.trans (fireOne_raises hp hg d _)).trans (ih _)
      · exact .refl s

end Sys2Proof.Machine
end

section
/-! PROOFS. Work on each entry in use, read entry by entry, and the backward trim's return to LATENT (07 R119). -/

namespace Sys2Proof.Machine

/-- Work on each entry in use that touches its own entry alone turns every entry by one and the same rule. -/
theorem foldl_listUsed_entry {f : State → Nat × ParcelEntry → State} {turn : ParcelEntry → Option ParcelEntry}
    (hother : ∀ t p j, p.1 ≠ j → (f t p).entry j = t.entry j)
    (hself : ∀ t p, t.entry p.1 = some p.2 → (f t p).entry p.1 = turn p.2) (s : State) (i : Nat) :
    ((listUsed s.store.table).foldl f s).entry i = (s.entry i).bind turn := by
  cases he : s.entry i with
  | none =>
    have hno : ∀ p ∈ listUsed s.store.table, p.1 ≠ i := by
      rintro p hp rfl
      exact nomatch he.symm.trans (mem_listUsed.mp hp)
    rw [foldl_entry_of_ne hother hno, he]; rfl
  | some e =>
    obtain ⟨t, ht, hturn⟩ := foldl_entry_turn hother (listUsed_ascending s.store.table)
      (p := (i, e)) (mem_listUsed.mpr he) s
    exact hturn.trans (hself t (i, e) (ht.trans he))

theorem setEntryState_entry_self {i : Nat} {e : ParcelEntry} {s : State} (st : ParcelState) (h : s.entry i = some e) :
    (setEntryState i st s).entry i = some { e with state := st } := by
  rw [setEntryState_eq st h, State.entry_setEntry, if_pos ⟨rfl, State.entry_lt h⟩]

/-! ## The return to LATENT -/

/-- The work of a backward trim to booth time `n` on one entry. -/
def returnEntry (n : Nat) (t : State) (p : Nat × ParcelEntry) : State :=
  if p.2.state = .live ∧ n < p.2.ss then
    addDeadline { due := p.2.ss, kind := .windowStart, ref := p.1 } (setEntryState p.1 .latent t)
  else t

theorem returnLatent_eq (n : Nat) (s : State) :
    returnLatent n s = (listUsed s.store.table).foldl (returnEntry n) s := rfl

/-- The parcel table and the Deadline List alone change: keys and grants stay. -/
def OnlyEntries (s t : State) : Prop :=
  t = { s with store := { s.store with table := t.store.table }, deadlines := t.deadlines }

theorem OnlyEntries.trans {s t u : State} (h : OnlyEntries s t) (k : OnlyEntries t u) : OnlyEntries s u := by
  unfold OnlyEntries at *; rw [k, h]

theorem setEntryState_entries (i : Nat) (st : ParcelState) (s : State) : OnlyEntries s (setEntryState i st s) := by
  unfold setEntryState; split <;> rfl

theorem returnEntry_entries (n : Nat) (t : State) (p : Nat × ParcelEntry) : OnlyEntries t (returnEntry n t p) := by
  unfold returnEntry
  split
  · exact (setEntryState_entries ..).trans rfl
  · rfl

theorem returnLatent_entries (n : Nat) (s : State) : OnlyEntries s (returnLatent n s) :=
  foldl_chain (R := OnlyEntries) (fun _ => rfl) .trans (returnEntry_entries n) _ s

/-- LIVE entries whose window start lies ahead are LATENT again, every other entry is as it was. -/
theorem returnLatent_entry (n : Nat) (s : State) (i : Nat) : (returnLatent n s).entry i =
    (s.entry i).map fun e => if e.state = .live ∧ n < e.ss then { e with state := .latent } else e := by
  rw [returnLatent_eq, Option.map_eq_bind]
  refine foldl_listUsed_entry (fun t p j hj => ?_) (fun t p hp => ?_) s i
  · unfold returnEntry
    split
    · exact setEntryState_entry_ne _ t hj
    · rfl
  · simp only [returnEntry, Function.comp_apply]
    split
    · exact setEntryState_entry_self _ hp
    · exact hp

/-- The WINDOW_START of each entry that returns is inserted again, and no deadline leaves the list. -/
theorem mem_returnLatent_deadlines {n : Nat} {s : State} {q : Deadline} : q ∈ (returnLatent n s).deadlines ↔
    q ∈ s.deadlines ∨ ∃ i e, s.entry i = some e ∧ e.state = .live ∧ n < e.ss ∧
      q = { due := e.ss, kind := .windowStart, ref := i } := by
  have hfold : ∀ (l : List (Nat × ParcelEntry)) (t : State), q ∈ (l.foldl (returnEntry n) t).deadlines ↔
      q ∈ t.deadlines ∨ ∃ p ∈ l, p.2.state = .live ∧ n < p.2.ss ∧
        q = { due := p.2.ss, kind := .windowStart, ref := p.1 } := by
    intro l
    induction l with
    | nil => simp
    | cons p l ih =>
      intro t
      have hstep : q ∈ (returnEntry n t p).deadlines ↔ q ∈ t.deadlines ∨ (p.2.state = .live ∧ n < p.2.ss ∧
          q = { due := p.2.ss, kind := .windowStart, ref := p.1 }) := by
        unfold returnEntry
        split
        · rename_i hret
          simp only [addDeadline_deadlines, mem_insertDeadline, setEntryState_deadlines, hret.1, hret.2, true_and]
          exact or_comm
        · rename_i hstay
          exact ⟨.inl, fun h => h.resolve_right fun hq => hstay ⟨hq.1, hq.2.1⟩⟩
      rw [List.foldl_cons, ih, hstep, List.exists_mem_cons_iff, or_assoc]
  rw [returnLatent_eq, hfold]
  simp only [Prod.exists, mem_listUsed]
  rfl

theorem returnLatent_inOrder {n : Nat} {s : State} (h : InOrder s.deadlines) :
    InOrder (returnLatent n s).deadlines := by
  refine foldl_chain (R := fun s t => InOrder s.deadlines → InOrder t.deadlines) (fun _ => id)
    (fun hst htu => htu ∘ hst) (fun t p ht => ?_) (listUsed s.store.table) s h
  split
  · rw [addDeadline_deadlines, setEntryState_deadlines]; exact insertDeadline_inOrder ht
  · exact ht

/-- A state with the tables that the return to LATENT leaves: entries LATENT again with their WINDOW_START, and keys,
grants and every other deadline as they were (07 R119). -/
theorem returnLatent_leaves {n : Nat} {s t : State} (hstore : t.store = (returnLatent n s).store)
    (hgrants : t.grants = (returnLatent n s).grants) (hdeadlines : t.deadlines = (returnLatent n s).deadlines) :
    t.grants = s.grants ∧ t.store = { s.store with table := t.store.table } ∧
    (∀ i e, s.entry i = some e → t.entry i = some
      (if e.state = .live ∧ n < e.ss then { e with state := .latent } else e)) ∧
    (∀ i, s.entry i = none → t.entry i = none) ∧
    (∀ q, q ∈ t.deadlines ↔ q ∈ s.deadlines ∨ ∃ i e, s.entry i = some e ∧ e.state = .live ∧ n < e.ss ∧
      q = { due := e.ss, kind := .windowStart, ref := i }) ∧
    (InOrder s.deadlines → InOrder t.deadlines) := by
  have hentry : ∀ i, t.entry i = (returnLatent n s).entry i := fun i => by rw [State.entry, hstore]; rfl
  refine ⟨?_, ?_, fun i e he => ?_, fun i hi => ?_, fun q => ?_, fun ho => ?_⟩
  · rw [hgrants, returnLatent_entries]
  · rw [hstore, returnLatent_entries]
  · rw [hentry, returnLatent_entry, he]; rfl
  · rw [hentry, returnLatent_entry, hi]; rfl
  · rw [hdeadlines, mem_returnLatent_deadlines]
  · rw [hdeadlines]; exact returnLatent_inOrder ho

end Sys2Proof.Machine
end

section
/-! PROOFS. TIME_TRIM (O34). -/

namespace Sys2Proof.Machine

/-! ## The applied trim (03 R45) -/

/-- The four limits, each applied to the result before, as 03 R45 writes them. -/
theorem appliedTrim_of_limits {d a1 a2 a3 a : Int} {budget now : Nat} (h1 : a1 = max (-3600) (min 3600 d))
    (h2 : a2 = max (-(budget : Int)) (min (budget : Int) a1))
    (h3 : a3 = (if 4294967295 - (now : Int) < a2 then 4294967295 - (now : Int) else a2))
    (h4 : a = (if a3 < -(now : Int) then -(now : Int) else a3)) : appliedTrim d budget now = a := by
  simp only [appliedTrim, maxCount]; omega

/-- An applied trim stays within the budget and does not take booth time below 0. -/
theorem appliedTrim_bounds (d : Int) {budget now : Nat} (h : now ≤ 4294967295) :
    (appliedTrim d budget now).natAbs ≤ budget ∧ 0 ≤ (now : Int) + appliedTrim d budget now := by
  simp only [appliedTrim, maxCount]; omega

/-! ## The move of booth time and its event -/

theorem moveBooth_eq (a : Int) (s : State) : moveBooth a s = { s with clock := { s.clock with
    boothTime := ((s.clock.boothTime : Int) + a).toNat
    trimBudget := s.clock.trimBudget - a.natAbs
    floor := if 0 < a ∧ s.clock.boothTime / 60 < ((s.clock.boothTime : Int) + a).toNat / 60
      then max s.clock.floor ((s.clock.boothTime : Int) + a).toNat else s.clock.floor } } := by
  by_cases h : 0 < a ∧ s.clock.boothTime / 60 < ((s.clock.boothTime : Int) + a).toNat / 60
  · rw [if_pos h]; exact if_pos h
  · rw [if_neg h]; exact if_neg h

/-- Forward: one event of the Deadline List (07 R115). -/
theorem handTrim_forward {a : Int} (h : 0 < a) (s : State) : handTrim a s = runDeadlines s.now s := if_pos h

/-- Backward: the return to LATENT (07 R119). -/
theorem handTrim_backward {a : Int} (h : a < 0) (s : State) : handTrim a s = returnLatent s.now s := by
  rw [handTrim, if_neg (by omega), if_pos h]

theorem handTrim_work (a : Int) (s : State) : OnlyDeadlineWork s (handTrim a s) := by
  unfold handTrim
  split
  · exact runDeadlines_work ..
  · split
    · exact returnLatent_work ..
    · rfl

theorem handTrim_sources_length (a : Int) (s : State) :
    (handTrim a s).attention.sources.length = s.attention.sources.length := by
  unfold handTrim
  split
  · exact (runDeadlines_raises (l := [Src.parcelLapsed, Src.grantExpired]) (by simp) (by simp) ..).length
  · split
    · rw [returnLatent_entries]
    · rfl

/-! ## TIME_TRIM past its checks -/

theorem roleCheck_programmer {who : Sender} (h : who.role = .programming) :
    (roleCheck who [.programming]).1 = false := by rw [roleCheck, h]; rfl

/-- Every check of TIME_TRIM passes (03 R44). -/
theorem exec_timeTrim {src : Addr} {tag : Byte} {body : List Byte} {s : State} {who : Sender}
    (h : ServedProgrammer s src who) (hrun : s.clock.timeState = .running) (hb : body.length = 4) :
    exec (.timeTrim src tag body) s =
      .next (trimTime { src := src, kind := Kind.timeTrim.value, tag := tag, body := body } s) := by
  refine (exec_served h.toServed .timeTrim tag body).trans (congrArg _ (checked_of_passed ?_ _ s))
  simp only [trimChecks, List.forall_mem_cons]
  exact ⟨sealedCheck_passed h.toServed, roleCheck_programmer h.role, suspendedCheck_passed h.enrolled, by simp [hrun],
    by simp [lengthIs, hb], nofun⟩

/-- `u` is the state in which booth time has moved by `a` and the Deadline List has been told; TIME_TRIM leaves it with
its answer, and with TRIM_CLAMPED raised where `a` is not the trim asked for (03 R45). -/
theorem exec_timeTrim_applied {src : Addr} {tag : Byte} {body : List Byte} {s u : State} {who : Sender} {d a : Int}
    (h : ServedProgrammer s src who) (hrun : s.clock.timeState = .running) (hb : body.length = 4)
    (hd : d = signed4 (num body 0 4)) (ha : appliedTrim d s.clock.trimBudget s.clock.boothTime = a)
    (hu : u = handTrim a (moveBooth a s)) :
    ∃ t, exec (.timeTrim src tag body) s = .next t ∧
      t = { u with
        link := (answered u src tag .timeTrim (if a = d then .ok else .clamped) (trimDetail a u)).link
        attention := t.attention } ∧
      (a = d → t.attention = u.attention) ∧
      (a ≠ d → u.attention.sources.length = 24 → (t.source Src.trimClamped).status = true) := by
  have happly : applyTrim d s = if a = d then u else raisePulse Src.trimClamped u := by
    subst hd ha hu; rfl
  have htrim : exec (.timeTrim src tag body) s = .next (answered (applyTrim d s) src tag .timeTrim
      (if a = d then .ok else .clamped) (trimDetail a (applyTrim d s))) := by
    rw [exec_timeTrim h hrun hb]; subst hd ha; rfl
  rw [happly] at htrim
  refine ⟨_, htrim, ?_⟩
  by_cases hexact : a = d
  · rw [if_pos hexact, if_pos hexact]
    exact ⟨rfl, fun _ => rfl, fun hne => absurd hexact hne⟩
  · rw [if_neg hexact, if_neg hexact]
    refine ⟨rfl, fun heq => absurd heq hexact, fun _ hsrc => raisePulse_source_self (s := u) ?_⟩
    rw [hsrc]; decide

/-- Settles O34, by the direction of the applied trim. -/
theorem trimApplied : Obligations.TrimApplied := by
  intro src tag body s who h hrun hbooth hb d a1 a2 a3 a hd h1 h2 h3 h4
  have ha := appliedTrim_of_limits h1 h2 h3 h4
  obtain ⟨hspent, hpast⟩ := ha ▸ appliedTrim_bounds d (budget := s.clock.trimBudget) hbooth
  obtain ⟨u, hu⟩ : ∃ u, u = handTrim a (moveBooth a s) := ⟨_, rfl⟩
  obtain ⟨t, hexec, ht, hexact, hclamped⟩ := exec_timeTrim_applied (tag := tag) h hrun hb hd ha hu
  have hwork : OnlyDeadlineWork (moveBooth a s) u := hu ▸ handTrim_work a _
  have hmoved : moveBooth a s = { s with clock := t.clock } := by
    have hclock : t.clock = (moveBooth a s).clock := by rw [ht]; exact hwork.clock
    rw [hclock, moveBooth_eq]
  have hclock : t.clock = _ := (congrArg State.clock hmoved).symm.trans (congrArg State.clock (moveBooth_eq a s))
  have hlink : t.link = (answered s src tag .timeTrim (if a = d then .ok else .clamped)
      (beBytes 4 (a % 4294967296).toNat ++ beBytes 4 t.clock.boothTime ++ beBytes 2 t.clock.trimBudget)).link := by
    have hulink : u.link = s.link := hwork.link.trans (by rw [hmoved])
    have huclock : u.clock = t.clock := hwork.clock.trans (by rw [hmoved])
    rw [← huclock, ht, answered, answered, hulink]; rfl
  have hstore : t.store = u.store := by rw [ht]
  have hgrants : t.grants = u.grants := by rw [ht]
  have hdeadlines : t.deadlines = u.deadlines := by rw [ht]
  rw [hmoved] at hu
  refine ⟨t, hexec, ?_, ?_, ?_, ?_, by rw [hclock], by rw [hclock], by rw [hclock], ?_, hlink, ?_, ?_, ?_, ?_, ?_⟩
  · rw [hclock]; exact Int.toNat_of_nonneg hpast
  · rw [hclock]; dsimp only; omega
  · rw [hclock]; dsimp only; omega
  · rw [hclock]
  · rw [hclock]; exact hrun
  · intro hne hsrc
    exact hclamped hne (by rw [hu, handTrim_sources_length]; exact hsrc)
  · rintro rfl
    rw [hstore, hgrants, hdeadlines, hu]; exact ⟨rfl, rfl, rfl⟩
  · intro hfwd ho
    rw [hdeadlines, hu, handTrim_forward hfwd]
    exact runDeadlines_ahead (s := { s with clock := t.clock }) ho
  · rintro hfwd r rfl
    rw [handTrim_forward hfwd] at hu
    rw [hstore, hgrants, hdeadlines, hu]
    exact ⟨rfl, rfl, rfl, fun heq => (hexact heq).trans (congrArg State.attention hu)⟩
  · intro hback
    rw [handTrim_backward hback] at hu
    subst hu
    exact returnLatent_leaves (s := { s with clock := t.clock }) hstore hgrants hdeadlines

end Sys2Proof.Machine
end

section
/-! PROOFS. A rebuild leaves no deadline due and raises PARCEL_LAPSED at most: what O35 needs of it. -/

namespace Sys2Proof.Machine

/-! ## What the steps of a rebuild raise and insert -/

/-- Work that raises PARCEL_LAPSED at most, takes no deadline into the list and leaves the grant table. -/
structure RebuildWork (s t : State) : Prop extends RaisesAmong [Src.parcelLapsed] s t where
  deadlines : ∀ q ∈ t.deadlines, q ∈ s.deadlines
  grants : t.grants = s.grants

theorem OnlyParcels.grants {s t : State} (h : OnlyParcels s t) : t.grants = s.grants := by rw [h]

theorem RebuildWork.refl (s : State) : RebuildWork s s := ⟨.refl s, fun _ => id, rfl⟩

theorem RebuildWork.trans {s t u : State} (h : RebuildWork s t) (k : RebuildWork t u) : RebuildWork s u :=
  ⟨h.toRaisesAmong.trans k.toRaisesAmong, fun q hq => h.deadlines q (k.deadlines q hq),
    k.grants.trans h.grants⟩

theorem rebuildLapse_rebuildWork (n : Nat) (s : State) : RebuildWork s (rebuildLapse n s) :=
  foldl_chain .refl .trans (fun t (p : Nat × ParcelEntry) =>
    ⟨lapseEntry_raises (by simp) p.1 t, fun q hq => by rwa [lapseEntry_deadlines] at hq,
      (lapseEntry_only p.1 t).grants⟩) _ s

theorem rebuildClassify_rebuildWork (n : Nat) (s : State) : RebuildWork s (rebuildClassify n s) := by
  refine foldl_chain .refl .trans (fun t p => ?_) _ s
  split
  · exact ⟨.of_attention (setEntryState_attention ..), fun q hq => by rwa [setEntryState_deadlines] at hq,
      (setEntryState_only ..).grants⟩
  · exact .refl t

theorem rebuildPurge_rebuildWork (n : Nat) (s : State) : RebuildWork s (rebuildPurge n s) := by
  refine foldl_chain .refl .trans (fun t p => ?_) _ s
  split
  · refine ⟨.of_attention (freeEntry_attention ..), fun q hq => ?_, (freeEntry_only ..).grants⟩
    rw [freeEntry_deadlines] at hq
    exact (List.mem_filter.mp hq).1
  · exact .refl t

/-- The steps of a rebuild before the deadlines are inserted. -/
theorem rebuildSteps_rebuildWork (n : Nat) (s : State) :
    RebuildWork s (rebuildPurge n (rebuildClassify n (rebuildLapse n s))) :=
  (rebuildLapse_rebuildWork n s).trans ((rebuildClassify_rebuildWork n _).trans (rebuildPurge_rebuildWork n _))

theorem rebuildInsert_raises {l : List Nat} (s : State) : RaisesAmong l s (rebuildInsert s) :=
  foldl_chain .refl .trans (fun t _ => by rw [foldl_addDeadline]; exact .of_attention rfl) _ s

theorem rebuildInsert_grants (s : State) : (rebuildInsert s).grants = s.grants :=
  foldl_chain (R := fun s t => t.grants = s.grants) (fun _ => rfl) (fun h k => k.trans h)
    (fun t _ => by rw [foldl_addDeadline]) _ s

/-- A rebuild raises PARCEL_LAPSED at most (07 R122). -/
theorem rebuildList_raises (n : Nat) (s : State) : RaisesAmong [Src.parcelLapsed] s (rebuildList n s) := by
  have hempty : RaisesAmong [Src.parcelLapsed] s { s with deadlines := [] } := .of_attention rfl
  exact hempty.trans ((rebuildSteps_rebuildWork n _).toRaisesAmong.trans (rebuildInsert_raises _))

/-- A rebuild leaves the grant table (07 R122). -/
theorem rebuildList_grants (n : Nat) (s : State) : (rebuildList n s).grants = s.grants :=
  (rebuildInsert_grants _).trans (rebuildSteps_rebuildWork n { s with deadlines := [] }).grants

/-! ## The entries after each step (07 Table 7.3) -/

theorem mem_byEnd {p : Nat × ParcelEntry} {l : List (Nat × ParcelEntry)} : p ∈ byEnd l ↔ p ∈ l := by
  have hinsert : ∀ q m, p ∈ insertByEnd q m ↔ p = q ∨ p ∈ m := by
    intro q m
    induction m with
    | nil => simp [insertByEnd]
    | cons r m ih =>
      unfold insertByEnd
      split
      · simp
      · simp only [List.mem_cons, ih]; tauto
  have hfold : ∀ (l m : List (Nat × ParcelEntry)),
      p ∈ l.foldl (fun acc q => insertByEnd q acc) m ↔ p ∈ l ∨ p ∈ m := by
    intro l
    induction l with
    | nil => simp
    | cons q l ih => intro m; rw [List.foldl_cons, ih, hinsert, List.mem_cons]; tauto
  rw [byEnd, hfold]; simp

theorem lapseEntry_entry (i j : Nat) (s : State) : (lapseEntry i s).entry j =
    if i = j then (s.entry j).map (fun e => { e with state := .lapsed, refs := [] }) else s.entry j := by
  show (eraseEntry i (setEntryState i .lapsed s)).entry j = _
  rw [eraseEntry_entry]
  by_cases hij : i = j
  · subst hij
    cases he : s.entry i with
    | none => simp only [setEntryState, he]; rfl
    | some e => rw [if_pos rfl, if_pos rfl, setEntryState_entry_self _ he]; rfl
  · rw [if_neg hij, if_neg hij, setEntryState_entry_ne _ _ hij]

/-- After the lapses of a list, an entry that holds keys is as it was, and its index is not in the list. -/
theorem foldl_lapseEntry_holds {l : List (Nat × ParcelEntry)} {s : State} {i : Nat} {e : ParcelEntry}
    (h : (l.foldl (fun t p => lapseEntry p.1 t) s).entry i = some e) (hk : e.holdsKeys = true) :
    s.entry i = some e ∧ ∀ p ∈ l, p.1 ≠ i := by
  induction l generalizing s with
  | nil => exact ⟨h, nofun⟩
  | cons p l ih =>
    obtain ⟨he, hl⟩ := ih h
    rw [lapseEntry_entry] at he
    by_cases hp : p.1 = i
    · rw [if_pos hp] at he
      obtain ⟨f, _, rfl⟩ := Option.map_eq_some_iff.mp he
      exact absurd hk (by simp [ParcelEntry.holdsKeys])
    · rw [if_neg hp] at he
      exact ⟨he, List.forall_mem_cons.mpr ⟨hp, hl⟩⟩

/-- Step 1 leaves no entry that holds keys past its window end. -/
theorem rebuildLapse_ahead {n : Nat} {s : State} {i : Nat} {e : ParcelEntry}
    (h : (rebuildLapse n s).entry i = some e) (hk : e.holdsKeys = true) : n < e.es := by
  obtain ⟨he, hl⟩ := foldl_lapseEntry_holds h hk
  by_contra hend
  refine hl (i, e) (mem_byEnd.mpr (List.mem_filter.mpr ⟨mem_listUsed.mpr he, ?_⟩)) rfl
  simp [hk, Nat.not_lt.mp hend]

/-- Step 2 makes an entry that holds keys LIVE from its window start on, and LATENT before it. -/
theorem rebuildClassify_entry (n : Nat) (s : State) (i : Nat) : (rebuildClassify n s).entry i =
    (s.entry i).bind fun e =>
      some (if e.holdsKeys then { e with state := if e.ss ≤ n then .live else .latent } else e) := by
  refine foldl_listUsed_entry (fun t p j hj => ?_) (fun t p hp => ?_) s i
  · split
    · exact setEntryState_entry_ne _ t hj
    · rfl
  · split
    · exact setEntryState_entry_self _ hp
    · exact hp

/-- After step 2 an entry that holds keys is not past its window end, and a LATENT one not past its window start. -/
theorem rebuildClassify_ahead {n : Nat} {s : State} {i : Nat} {e : ParcelEntry}
    (hs : ∀ f, s.entry i = some f → f.holdsKeys = true → n < f.es) (h : (rebuildClassify n s).entry i = some e) :
    (e.holdsKeys = true → n < e.es) ∧ (e.state = .latent → n < e.ss) := by
  rw [rebuildClassify_entry] at h
  obtain ⟨f, hf, he⟩ := Option.bind_eq_some_iff.mp h
  obtain rfl := Option.some.inj he
  by_cases hk : f.holdsKeys = true
  · rw [if_pos hk]
    refine ⟨fun _ => hs f hf hk, fun hlatent => ?_⟩
    by_contra hstart
    exact absurd hlatent (by simp [show f.ss ≤ n from Nat.not_lt.mp hstart])
  · rw [if_neg hk]
    exact ⟨fun hk' => absurd hk' hk, fun hlatent => absurd (by simp [ParcelEntry.holdsKeys, hlatent]) hk⟩

/-- Step 3 frees the LAPSED entries whose purge due has passed. -/
theorem rebuildPurge_entry (n : Nat) (s : State) (i : Nat) : (rebuildPurge n s).entry i =
    (s.entry i).bind fun e => if e.state = .lapsed ∧ purgeAt s e ≤ n then none else some e := by
  refine foldl_listUsed_entry (fun t p j hj => ?_) (fun t p hp => ?_) s i
  · split
    · rw [freeEntry_entry, if_neg hj]
    · rfl
  · split
    · rw [freeEntry_entry, if_pos rfl]
    · exact hp

/-- Step 4 inserts the deadlines of the entries in use, and no other. -/
theorem mem_rebuildInsert_deadlines {s : State} {q : Deadline} : q ∈ (rebuildInsert s).deadlines ↔
    q ∈ s.deadlines ∨ ∃ i e, s.entry i = some e ∧ q ∈ entryDeadlines s i e := by
  have hfold : ∀ (l : List (Nat × ParcelEntry)) (t : State),
      q ∈ (l.foldl (fun t p => (entryDeadlines s p.1 p.2).foldl (fun u d => addDeadline d u) t) t).deadlines ↔
        q ∈ t.deadlines ∨ ∃ p ∈ l, q ∈ entryDeadlines s p.1 p.2 := by
    intro l
    induction l with
    | nil => simp
    | cons p l ih =>
      intro t
      rw [List.foldl_cons, ih, foldl_addDeadline, mem_foldl_insertDeadline, List.exists_mem_cons_iff]
      tauto
  rw [rebuildInsert, hfold]
  simp only [Prod.exists, mem_listUsed]
  rfl

/-! ## Nothing due after a rebuild -/

/-- The deadlines of an entry lie beyond `n` once step 1 has left it, step 2 has classed it and step 3 has kept it. -/
theorem entryDeadlines_ahead {n i : Nat} {s : State} {e : ParcelEntry} (hend : e.holdsKeys = true → n < e.es)
    (hstart : e.state = .latent → n < e.ss) (hpurge : e.state = .lapsed → n < purgeAt s e) :
    ∀ q ∈ entryDeadlines s i e, n < q.due := by
  unfold entryDeadlines
  split <;> rename_i hst
  · have hkeys : e.holdsKeys = true := by simp [ParcelEntry.holdsKeys, hst]
    exact List.forall_mem_cons.mpr ⟨hstart hst, List.forall_mem_singleton.mpr (hend hkeys)⟩
  · have hkeys : e.holdsKeys = true := by simp [ParcelEntry.holdsKeys, hst]
    exact List.forall_mem_singleton.mpr (hend hkeys)
  · exact List.forall_mem_singleton.mpr (hpurge hst)
  · exact nofun

/-- After a rebuild at `n` every deadline lies beyond `n` (07 R122). -/
theorem rebuildList_ahead (n : Nat) (s : State) : ∀ q ∈ (rebuildList n s).deadlines, n < q.due := by
  intro q hq
  rw [rebuildList, mem_rebuildInsert_deadlines] at hq
  rcases hq with hq | ⟨i, e, he, hq⟩
  · have hnone := (rebuildSteps_rebuildWork n _).deadlines q hq
    simp at hnone
  · have hkept := he
    rw [rebuildPurge_entry] at hkept
    obtain ⟨f, hf, hif⟩ := Option.bind_eq_some_iff.mp hkept
    split at hif
    · simp at hif
    · rename_i hpurge
      obtain rfl := Option.some.inj hif
      obtain ⟨hend, hstart⟩ := rebuildClassify_ahead (fun _ => rebuildLapse_ahead) hf
      refine entryDeadlines_ahead hend hstart (fun hlapsed => ?_) q hq
      rw [purgeAt, (rebuildPurge_work n _).stations]
      exact Nat.not_le.mp fun hdue => hpurge ⟨hlapsed, hdue⟩

end Sys2Proof.Machine
end

section
/-! PROOFS. TIME_SET (O35). -/

namespace Sys2Proof.Machine

/-- Every check of TIME_SET passes (03 R48). -/
theorem exec_timeSet {src : Addr} {tag : Byte} {body : List Byte} {s : State} {who : Sender}
    (h : ServedProgrammer s src who) (hm : s.stations.mode = .service) (hlost : s.clock.timeState = .lost)
    (hb : body.length = 4) : exec (.timeSet src tag body) s =
      .next (setTime { src := src, kind := Kind.timeSet.value, tag := tag, body := body } s) := by
  refine (exec_served h.toServed .timeSet tag body).trans (congrArg _ (checked_of_passed ?_ _ s))
  simp only [setTimeChecks, List.forall_mem_cons]
  exact ⟨sealedCheck_passed h.toServed, roleCheck_programmer h.role, suspendedCheck_passed h.enrolled,
    by simp [serviceOnly, hm], by simp [hlost], by simp [lengthIs, hb], nofun⟩

/-- The state in which booth time `n` is taken over and TIME_LOST cleared, the rebuild still to come (03 R48). -/
def timeTaken (n : Nat) (s : State) : State :=
  clearLevel Src.timeLost { s with clock := { s.clock with boothTime := n, timeState := .running } }

theorem timeTaken_source_timeLost (n : Nat) (s : State) : ((timeTaken n s).source Src.timeLost).status = false :=
  clearLevel_source_self ..

theorem timeTaken_source_fault (n : Nat) (s : State) : (timeTaken n s).source Src.fault = s.source Src.fault :=
  clearLevel_source_ne (by decide)

/-- TIME_SET leaves the rebuild at the larger of its value and the floor, with its answer (03 R48, 07 R121). -/
theorem exec_timeSet_rebuilds {src : Addr} {tag : Byte} {body : List Byte} {s u : State} {who : Sender} {n : Nat}
    (h : ServedProgrammer s src who) (hm : s.stations.mode = .service) (hlost : s.clock.timeState = .lost)
    (hb : body.length = 4) (hn : n = max (num body 0 4) s.clock.floor) (hu : u = rebuildList n (timeTaken n s)) :
    exec (.timeSet src tag body) s = .next (answered u src tag .timeSet
      (if num body 0 4 < s.clock.floor then .clamped else .ok) (beBytes 4 u.now ++ beBytes 4 u.clock.floor)) := by
  rw [exec_timeSet h hm hlost hb, hu, hn]
  simp only [setTime, establishTime, timeTaken, reply_eq_answered]

/-- Settles O35, from what a rebuild leaves. -/
theorem timeSetEstablishesTime : Obligations.TimeSetEstablishesTime := by
  intro src tag body s who h hm hlost hb
  obtain ⟨n, hn⟩ : ∃ n, n = max (num body 0 4) s.clock.floor := ⟨_, rfl⟩
  obtain ⟨u, hu⟩ : ∃ u, u = rebuildList n (timeTaken n s) := ⟨_, rfl⟩
  have hwork : OnlyDeadlineWork (timeTaken n s) u := hu ▸ rebuildList_work n _
  have hraises : RaisesAmong [Src.parcelLapsed] (timeTaken n s) u := hu ▸ rebuildList_raises n _
  have hahead : ∀ q ∈ u.deadlines, n < q.due := hu ▸ rebuildList_ahead n _
  have hclock : u.clock = { s.clock with boothTime := n, timeState := .running } := hwork.clock
  have hlink : u.link = s.link := hwork.link
  have hgrants : u.grants = s.grants := by rw [hu, rebuildList_grants]; rfl
  refine ⟨_, exec_timeSet_rebuilds h hm hlost hb hn hu, ?_, ?_, fun _ => ?_, ?_, ?_, ?_, hwork.stations,
    hwork.openQueue, hwork.arbiter, hwork.engine, hgrants, hwork.fuses, hwork.control⟩
  · rw [← hn]; exact hclock
  · refine Eq.trans (congrArg Source.status ?_) (timeTaken_source_timeLost n s)
    exact hraises.others _ (by decide)
  · refine congrArg Source.status (Eq.trans ?_ (timeTaken_source_fault n s))
    exact hraises.others _ (by decide)
  · intro q hq
    show u.clock.boothTime < q.due
    rw [hclock]; exact hahead q hq
  · intro r hr
    rw [← hn] at hr
    rw [hr.trans hu.symm]
    exact ⟨rfl, rfl, rfl⟩
  · show (answered u src tag .timeSet _ (beBytes 4 u.clock.boothTime ++ beBytes 4 u.clock.floor)).link =
      (answered s src tag .timeSet _ (beBytes 4 u.clock.boothTime ++ beBytes 4 s.clock.floor)).link
    rw [answered, answered, hlink, hclock]

end Sys2Proof.Machine
end

section
/-! PROOFS. The loss of time (03 R39), with its record in the notice sources (O51). -/

namespace Sys2Proof.Machine

/-! ## A forced expiry in the notice sources (06 R100) -/

theorem forceExpiry_of_none {pick : Grant → Bool} {s : State} (why : Reason) (h : reached pick s = []) :
    forceExpiry pick why s = s := by simp only [forceExpiry, h]

theorem foldl_expireGrant_attention (why : Reason) (hit : List Nat) (s : State) :
    (hit.foldl (fun t g => expireGrant g why t) s).attention = s.attention :=
  foldl_chain (R := fun s t => t.attention = s.attention) (fun _ => rfl) (fun h k => k.trans h)
    (fun t g => expireGrant_attention g why t) hit s

/-- A forced expiry that reaches a record raises FORCED_EXPIRY. -/
theorem forceExpiry_source {pick : Grant → Bool} {s : State} (why : Reason) (h : reached pick s ≠ [])
    (hsrc : s.attention.sources.length = 24) :
    ((forceExpiry pick why s).source Src.forcedExpiry).status = true := by
  unfold forceExpiry
  split
  · exact absurd (by assumption) h
  · refine raisePulse_source_self ?_
    rw [foldl_expireGrant_attention, hsrc]; decide

/-! ## The loss of time -/

/-- The state in which the time has been lost, TIME_LOST not yet raised (03 R39). -/
def timeGone (s : State) : State :=
  { refuseWaiting (fun _ => true) .noTime
      (forceExpiry (fun _ => true) .clock
        { s with clock := { s.clock with timeState := .lost, driftRun := 0 } }) with deadlines := [] }

theorem timeGone_frame (s : State) : timeGone s = { s with
    clock := { s.clock with timeState := .lost, driftRun := 0 }
    deadlines := []
    openQueue := { waiting := [], due := s.openQueue.due ++
      s.openQueue.waiting.map (fun w => { who := w.who, code := .noTime }) }
    grants := (timeGone s).grants
    attention := (timeGone s).attention } := by
  obtain ⟨_, _, _, _, hframe⟩ := forceExpiry_grants (fun _ => true) .clock
    { s with clock := { s.clock with timeState := .lost, driftRun := 0 } }
  rw [timeGone, hframe]
  simp [refuseWaiting]

/-- Of the grant table the loss of time makes each OPEN record EXPIRING, CLOCK (06 R103). -/
theorem timeGone_grants (s : State) :
    (∀ g, (timeGone s).grant g = (s.grant g).map fun r =>
      if r.state = .opened then { r with state := .expiring .clock } else r) ∧
    (timeGone s).grants.expireList = s.grants.expireList ++ reached (fun _ => true) s ∧
    (timeGone s).grants.gens = s.grants.gens := by
  obtain ⟨hgrant, hlist, hgens, _, _⟩ := forceExpiry_grants (fun _ => true) .clock
    { s with clock := { s.clock with timeState := .lost, driftRun := 0 } }
  refine ⟨fun g => (hgrant g).trans ?_, hlist, hgens⟩
  simp only [and_true]; rfl

theorem timeGone_raises {l : List Nat} (hl : Src.forcedExpiry ∈ l) (s : State) : RaisesAmong l s (timeGone s) := by
  have hclock : RaisesAmong l s { s with clock := { s.clock with timeState := .lost, driftRun := 0 } } :=
    .of_attention rfl
  exact hclock.trans ((forceExpiry_raises hl ..).trans (.of_attention rfl))

theorem timeGone_attention_of_none {s : State} (h : reached (fun _ => true) s = []) :
    (timeGone s).attention = s.attention := by
  have hnone := forceExpiry_of_none (pick := fun _ => true)
    (s := { s with clock := { s.clock with timeState := .lost, driftRun := 0 } }) .clock h
  exact (congrArg State.attention hnone :)

/-- A loss of time that reaches an OPEN record raises FORCED_EXPIRY (06 R100). -/
theorem timeGone_forced {s : State} (h : reached (fun _ => true) s ≠ []) (hsrc : s.attention.sources.length = 24) :
    ((timeGone s).source Src.forcedExpiry).status = true :=
  forceExpiry_source (s := { s with clock := _ }) .clock h hsrc

end Sys2Proof.Machine
end

section
/-! PROOFS. The oscillator monitor at its limit: DRIFT_RUN_LIMIT and the window that makes the run count 16 (O51). -/

namespace Sys2Proof.Machine

/-- The sources that a window at the limit moves: CLOCK_DRIFT, TIME_LOST with FAULT, and FORCED_EXPIRY (03 R39, R40, 06
R100, 10 R163). -/
def lossSources : List Nat := [Src.clockDrift, Src.timeLost, Src.fault, Src.forcedExpiry]

/-- A window that ends in state `s` and makes the run count reach 16 while time runs: the time is lost and CLOCK_DRIFT
cleared (03 R39, R40). -/
structure LosesTime (s t : State) : Prop where
  rest : t = { s with
    clock := { s.clock with timeState := .lost, driftRun := 0, ticked := false }
    deadlines := []
    openQueue := { waiting := [], due := s.openQueue.due ++
      s.openQueue.waiting.map (fun w => { who := w.who, code := .noTime }) }
    grants := t.grants
    attention := t.attention }
  grant : ∀ g, t.grant g = (s.grant g).map fun r =>
    if r.state = .opened then { r with state := .expiring .clock } else r
  expireList : t.grants.expireList = s.grants.expireList ++ reached (fun _ => true) s
  gens : t.grants.gens = s.grants.gens
  raises : RaisesAmong lossSources s t
  steady : (t.source Src.clockDrift).status = false
  lost : s.attention.sources.length = 24 → (t.source Src.timeLost).status = true
  unforced : reached (fun _ => true) s = [] → t.source Src.forcedExpiry = s.source Src.forcedExpiry
  forced : reached (fun _ => true) s ≠ [] → s.attention.sources.length = 24 →
    (t.source Src.forcedExpiry).status = true

/-- The state in which the run count has returned to 0 and CLOCK_DRIFT is clear. -/
def driftCleared (s : State) : State :=
  clearLevel Src.clockDrift { s with clock := { s.clock with driftRun := 0, ticked := false } }

theorem driftCleared_raises {l : List Nat} (hl : Src.clockDrift ∈ l) (s : State) :
    RaisesAmong l s (driftCleared s) := by
  have hclock : RaisesAmong l s { s with clock := { s.clock with driftRun := 0, ticked := false } } :=
    .of_attention rfl
  exact hclock.trans (clearLevel_raises hl _)

theorem driftCleared_source (s : State) : ((driftCleared s).source Src.clockDrift).status = false :=
  clearLevel_source_self ..

theorem reachDriftLimit_lost {s : State} (h : s.clock.timeState = .lost) :
    reachDriftLimit (openWindow s) = driftCleared s := by
  refine if_neg ?_
  show ¬s.clock.timeState = .running
  simp [h]

theorem reachDriftLimit_running {s : State} (h : s.clock.timeState = .running) :
    reachDriftLimit (openWindow s) = raiseLevel Src.timeLost (timeGone (driftCleared s)) := if_pos h

theorem raiseLevel_timeLost_forcedExpiry (s : State) :
    (raiseLevel Src.timeLost s).source Src.forcedExpiry = s.source Src.forcedExpiry :=
  raiseLevel_source_ne (by decide) (by decide)

/-- At the limit a RUNNING time state is lost (03 R40). -/
theorem reachDriftLimit_losesTime {s : State} (h : s.clock.timeState = .running) :
    LosesTime s (reachDriftLimit (openWindow s)) := by
  rw [reachDriftLimit_running h]
  obtain ⟨hgrant, hlist, hgens⟩ := timeGone_grants (driftCleared s)
  have hcleared : RaisesAmong lossSources s (driftCleared s) := driftCleared_raises (by decide) s
  have hgone : RaisesAmong lossSources s (timeGone (driftCleared s)) :=
    hcleared.trans (timeGone_raises (by decide) _)
  have hsteady : ((timeGone (driftCleared s)).source Src.clockDrift).status = false := by
    rw [(timeGone_raises (l := [Src.forcedExpiry]) (by decide) _).others _ (by decide)]
    exact driftCleared_source s
  refine ⟨?_, fun g => ?_, ?_, ?_, ?_, ?_, fun hsrc => ?_, fun hnone => ?_, fun hsome hsrc => ?_⟩
  · rw [raiseLevel_frame, timeGone_frame]; rfl
  · refine Eq.trans ?_ (hgrant g)
    rw [State.grant, raiseLevel_grants]; rfl
  · rw [raiseLevel_grants, hlist]; rfl
  · rw [raiseLevel_grants, hgens]; rfl
  · exact hgone.trans (raiseLevel_raises (by decide) (fun _ => by decide) _)
  · rw [raiseLevel_source_ne (by decide) (by decide)]; exact hsteady
  · refine raiseLevel_source_self ?_
    rw [hgone.length, hsrc]; decide
  · rw [raiseLevel_timeLost_forcedExpiry, State.source, timeGone_attention_of_none (s := driftCleared s) hnone]
    exact clearLevel_source_ne (by decide)
  · rw [raiseLevel_timeLost_forcedExpiry]
    exact timeGone_forced hsome (hcleared.length.trans hsrc)

/-! ## One measurement window -/

/-- The window leaves the time as it is: run count, window and CLOCK_DRIFT alone are touched (03 R40). -/
structure KeepsTime (s t : State) : Prop where
  rest : t = { s with
    clock := { s.clock with driftRun := t.clock.driftRun, ticked := false }
    attention := t.attention }
  raises : RaisesAmong [Src.clockDrift] s t

theorem driftCleared_keepsTime (s : State) : KeepsTime s (driftCleared s) :=
  ⟨rfl, driftCleared_raises (by simp) s⟩

/-- A good window returns the run count to 0. -/
theorem measure_good {deviation : Nat} {s : State} (ht : s.clock.ticked = true) (hd : deviation ≤ 200) :
    measure deviation s = driftCleared s := by
  have hgood : ¬badWindow deviation s = true := by rw [badWindow_iff, ht]; simp [hd]
  exact if_neg hgood

/-- A bad window below the limit adds 1 to the run count. -/
theorem measure_counts {deviation : Nat} {s : State} (hb : s.clock.ticked = false ∨ 200 < deviation)
    (hlow : s.clock.driftRun < 15) : measure deviation s = raiseLevel Src.clockDrift
      { s with clock := { s.clock with driftRun := s.clock.driftRun + 1, ticked := false } } := by
  rw [measure, if_pos (badWindow_iff.mpr hb)]
  exact if_neg (Nat.not_le.mpr hlow)

/-- The bad window that makes the run count 16. -/
theorem measure_limit {deviation : Nat} {s : State} (hb : s.clock.ticked = false ∨ 200 < deviation)
    (hend : 15 ≤ s.clock.driftRun) : measure deviation s = reachDriftLimit (openWindow s) := by
  rw [measure, if_pos (badWindow_iff.mpr hb)]
  exact if_pos hend

theorem measure_counts_keepsTime {deviation : Nat} {s : State} (hb : s.clock.ticked = false ∨ 200 < deviation)
    (hlow : s.clock.driftRun < 15) : KeepsTime s (measure deviation s) := by
  rw [measure_counts hb hlow]
  have hclock : RaisesAmong [Src.clockDrift] s
    { s with clock := { s.clock with driftRun := s.clock.driftRun + 1, ticked := false } } := .of_attention rfl
  refine ⟨?_, hclock.trans (raiseLevel_raises (by simp) (fun hc => absurd hc (by decide)) _)⟩
  rw [raiseLevel_frame]

/-- A window that is good, or below the limit, or ends while the time is LOST already. -/
theorem measure_keepsTime {deviation : Nat} {s : State} (h : (s.clock.ticked = true ∧ deviation ≤ 200) ∨
    s.clock.driftRun < 15 ∨ s.clock.timeState = .lost) : KeepsTime s (measure deviation s) := by
  by_cases hb : s.clock.ticked = false ∨ 200 < deviation
  · by_cases hlow : s.clock.driftRun < 15
    · exact measure_counts_keepsTime hb hlow
    · have hgood : ¬(s.clock.ticked = true ∧ deviation ≤ 200) := by
        rintro ⟨ht, hd⟩
        rcases hb with hno | hover
        · exact nomatch ht.symm.trans hno
        · omega
      have hlost := (h.resolve_left hgood).resolve_left hlow
      rw [measure_limit hb (Nat.not_lt.mp hlow), reachDriftLimit_lost hlost]
      exact driftCleared_keepsTime s
  · obtain ⟨hticked, hdev⟩ := not_or.mp hb
    rw [measure_good (by simpa using hticked) (Nat.not_lt.mp hdev)]
    exact driftCleared_keepsTime s

/-- The bad window at the limit while time runs. -/
theorem measure_losesTime {deviation : Nat} {s : State} (hb : s.clock.ticked = false ∨ 200 < deviation)
    (hend : 15 ≤ s.clock.driftRun) (hrun : s.clock.timeState = .running) : LosesTime s (measure deviation s) := by
  rw [measure_limit hb hend]; exact reachDriftLimit_losesTime hrun

/-- Every window keeps the time or loses it. -/
theorem measure_keeps_or_loses (deviation : Nat) (s : State) :
    KeepsTime s (measure deviation s) ∨ LosesTime s (measure deviation s) := by
  by_cases h : (s.clock.ticked = true ∧ deviation ≤ 200) ∨ s.clock.driftRun < 15 ∨ s.clock.timeState = .lost
  · exact .inl (measure_keepsTime h)
  · obtain ⟨hgood, hlate⟩ := not_or.mp h
    obtain ⟨hend, hrun⟩ := not_or.mp hlate
    refine .inr (measure_losesTime ?_ (Nat.not_lt.mp hend) ?_)
    · by_contra hb
      obtain ⟨hticked, hdev⟩ := not_or.mp hb
      exact hgood ⟨by simpa using hticked, Nat.not_lt.mp hdev⟩
    · cases hs : s.clock.timeState with
      | running => rfl
      | lost => exact absurd hs hrun

end Sys2Proof.Machine
end

section
/-! PROOFS. The main-clock second with its holders, and O51. -/

namespace Sys2Proof.Machine

/-! ## The wait limit and the periodic test (05 R72, R79) -/

/-- The WAITING places that have reached the wait limit pass to ANSWER_DUE with TIMEOUT (05 R72). -/
theorem timeOutOpens_openQueue (s : State) : (timeOutOpens s).openQueue =
    { waiting := s.openQueue.waiting.filter fun w => !timedOut s w
      due := s.openQueue.due ++ (s.openQueue.waiting.filter (timedOut s)).map fun w =>
        { who := w.who, code := .timeout } } := by
  unfold timeOutOpens
  split
  · rfl
  · rename_i hnone
    have hall : ∀ w ∈ s.openQueue.waiting, ¬timedOut s w = true := by simpa using hnone
    have hlate : s.openQueue.waiting.filter (timedOut s) = [] := List.filter_eq_nil_iff.mpr hall
    have hkept : s.openQueue.waiting.filter (fun w => !timedOut s w) = s.openQueue.waiting :=
      List.filter_eq_self.mpr fun w hw => by simpa using hall w hw
    rw [hlate, hkept, List.map_nil, List.append_nil]

theorem timeOutOpens_frame (s : State) : timeOutOpens s =
    { s with openQueue := (timeOutOpens s).openQueue, attention := (timeOutOpens s).attention } := by
  unfold timeOutOpens; split <;> rfl

theorem timeOutOpens_raises (s : State) : RaisesAmong [Src.queueTimeout] s (timeOutOpens s) := by
  unfold timeOutOpens
  split
  · have hqueue : RaisesAmong [Src.queueTimeout] s (refuseWaiting (timedOut s) .timeout s) := .of_attention rfl
    exact hqueue.trans (raisePulse_raises (by simp) _)
  · exact .refl s

theorem timeOutOpens_of_none {s : State} (h : s.openQueue.waiting.filter (timedOut s) = []) :
    timeOutOpens s = s := by
  refine if_neg ?_
  simpa using List.filter_eq_nil_iff.mp h

/-- A place that reaches the wait limit raises QUEUE_TIMEOUT (05 R72). -/
theorem timeOutOpens_source {s : State} (h : s.openQueue.waiting.filter (timedOut s) ≠ [])
    (hsrc : s.attention.sources.length = 24) : ((timeOutOpens s).source Src.queueTimeout).status = true := by
  have hany : s.openQueue.waiting.any (timedOut s) = true := by
    simpa [List.filter_eq_nil_iff] using h
  rw [timeOutOpens, if_pos hany]
  refine raisePulse_source_self ?_
  rw [refuseWaiting_attention, hsrc]; decide

theorem examineTestInterval_eq (s : State) : examineTestInterval s = { s with
    arbiter := { s.arbiter with testDue :=
      if s.stations.settings.testInterval = 0 then false
      else if s.arbiter.lastKat + s.stations.settings.testInterval ≤ s.clock.uptime then true
      else s.arbiter.testDue } } := by
  unfold examineTestInterval
  dsimp only
  split
  · rfl
  · split <;> rfl

/-! ## The holders of the uptime second -/

/-- The state in which uptime has advanced and its holders but for the monitor have acted (03 R36, log 7). -/
def holdersDone (s : State) : State := examineTestInterval (timeOutOpens (countUptime s))

theorem exec_mainClockSecond {s : State} (h : Awake s) (deviation : Nat) :
    exec (.mainClockSecond deviation) s = .next (measure deviation (holdersDone s)) :=
  congrArg _ (if_pos (awake_iff.mpr h))

/-- The second at uptime `u`, from `s` up to the monitor: the places of `late` are answered TIMEOUT and those of `kept`
wait on, and the periodic test is examined (03 R36). -/
structure SecondHeld (u : Nat) (late kept : List OpenReq) (s t : State) : Prop where
  rest : t = { s with
    clock := { s.clock with uptime := u }
    openQueue := { waiting := kept, due := s.openQueue.due ++ late.map fun w => { who := w.who, code := .timeout } }
    arbiter := { s.arbiter with testDue :=
      if s.stations.settings.testInterval = 0 then false
      else if s.arbiter.lastKat + s.stations.settings.testInterval ≤ u then true else s.arbiter.testDue }
    attention := t.attention }
  raises : RaisesAmong [Src.queueTimeout] s t
  quiet : late = [] → t.attention = s.attention
  raised : late ≠ [] → s.attention.sources.length = 24 → (t.source Src.queueTimeout).status = true

theorem holdersDone_held {s : State} {u : Nat} {late kept : List OpenReq} (hu : u = min (s.clock.uptime + 1) 4294967295)
    (hlate : late = s.openQueue.waiting.filter fun w => decide (30 ≤ u - w.arrival))
    (hkept : kept = s.openQueue.waiting.filter fun w => decide (u - w.arrival < 30)) :
    SecondHeld u late kept s (holdersDone s) := by
  have hcount : countUptime s = { s with clock := { s.clock with uptime := u } } := by rw [hu]; rfl
  have hlate' : (countUptime s).openQueue.waiting.filter (timedOut (countUptime s)) = late := by
    rw [hlate, hcount]; rfl
  have hkept' : (countUptime s).openQueue.waiting.filter (fun w => !timedOut (countUptime s) w) = kept := by
    rw [hkept, hcount]
    refine List.filter_congr fun w _ => ?_
    simp only [timedOut, ← decide_not, Nat.not_le]
  have hqueue := timeOutOpens_openQueue (countUptime s)
  rw [hlate', hkept'] at hqueue
  have hattention : (holdersDone s).attention = (timeOutOpens (countUptime s)).attention := by
    rw [holdersDone, examineTestInterval_eq]
  have hsource : ∀ n, (holdersDone s).source n = (timeOutOpens (countUptime s)).source n := fun n => by
    rw [State.source, hattention]; rfl
  refine ⟨?_, ?_, fun hnone => ?_, fun hsome hsrc => ?_⟩
  · rw [holdersDone, examineTestInterval_eq, timeOutOpens_frame, hqueue, hcount]
  · have hcounted : RaisesAmong [Src.queueTimeout] s (countUptime s) := .of_attention rfl
    exact hcounted.trans ((timeOutOpens_raises _).trans (.of_attention hattention))
  · rw [hattention, timeOutOpens_of_none (hlate'.trans hnone)]; rfl
  · rw [hsource]; exact timeOutOpens_source (by rwa [hlate']) hsrc

/-! ## O51 -/

theorem reached_congr {s t : State} (h : t.grants = s.grants) (pick : Grant → Bool) :
    reached pick t = reached pick s := by
  unfold reached; rw [h]

section
variable {s h : State} {u : Nat} {late kept : List OpenReq} (hheld : SecondHeld u late kept s h)
include hheld

theorem SecondHeld.clock : h.clock = { s.clock with uptime := u } := by rw [hheld.rest]
theorem SecondHeld.grants : h.grants = s.grants := by rw [hheld.rest]
theorem SecondHeld.deadlines : h.deadlines = s.deadlines := by rw [hheld.rest]
theorem SecondHeld.openQueue : h.openQueue =
    { waiting := kept, due := s.openQueue.due ++ late.map fun w => { who := w.who, code := .timeout } } := by
  rw [hheld.rest]

theorem SecondHeld.grant (g : Nat) : h.grant g = s.grant g := by rw [State.grant, hheld.grants]; rfl

/-- What the whole second can touch (03 R36). -/
theorem SecondHeld.measured {m : State} (hm : KeepsTime h m ∨ LosesTime h m) : m = { s with
    clock := { s.clock with
      uptime := u, driftRun := m.clock.driftRun, timeState := m.clock.timeState, ticked := false }
    deadlines := m.deadlines
    openQueue := m.openQueue
    arbiter := { s.arbiter with testDue :=
      if s.stations.settings.testInterval = 0 then false
      else if s.arbiter.lastKat + s.stations.settings.testInterval ≤ u then true else s.arbiter.testDue }
    grants := m.grants
    attention := m.attention } := by
  rcases hm with k | k
  · rw [k.rest, hheld.rest]
  · rw [k.rest, hheld.rest]

/-- The window that keeps the time leaves the places as the wait limit left them, and every grant and deadline. -/
theorem SecondHeld.keeps {m : State} (k : KeepsTime h m) :
    m.openQueue = { waiting := kept, due :=
      s.openQueue.due ++ late.map (fun w => { who := w.who, code := .timeout }) } ∧
    m.grants = s.grants ∧ m.deadlines = s.deadlines ∧ m.source Src.timeLost = s.source Src.timeLost ∧
    m.source Src.fault = s.source Src.fault ∧ m.source Src.forcedExpiry = s.source Src.forcedExpiry := by
  have hsource : ∀ n, n ∉ [Src.queueTimeout, Src.clockDrift] → m.source n = s.source n := fun n hn =>
    (k.raises.others n fun hmem => hn (List.mem_cons_of_mem _ hmem)).trans
      (hheld.raises.others n fun hmem => hn (List.mem_singleton.mp hmem ▸ List.mem_cons_self))
  refine ⟨?_, ?_, ?_, hsource _ (by decide), hsource _ (by decide), hsource _ (by decide)⟩
  · rw [← hheld.openQueue, k.rest]
  · rw [← hheld.grants, k.rest]
  · rw [← hheld.deadlines, k.rest]

/-- The window that loses the time answers the places that wait on NO_TIME, behind those at the wait limit (log 7). -/
theorem SecondHeld.loses {m : State} (k : LosesTime h m) :
    m.openQueue.waiting = [] ∧
    m.openQueue.due = s.openQueue.due ++ late.map (fun w => { who := w.who, code := .timeout }) ++
      kept.map (fun w => { who := w.who, code := .noTime }) ∧
    m.deadlines = [] ∧
    (∀ g, m.grant g = (s.grant g).map fun r =>
      if r.state = .opened then { r with state := .expiring .clock } else r) ∧
    m.grants.expireList = s.grants.expireList ++ reached (fun _ => true) s ∧ m.grants.gens = s.grants.gens ∧
    (reached (fun _ => true) s = [] → m.source Src.forcedExpiry = s.source Src.forcedExpiry) ∧
    (s.attention.sources.length = 24 → (m.source Src.timeLost).status = true ∧
      (m.source Src.clockDrift).status = false ∧
      (reached (fun _ => true) s ≠ [] → (m.source Src.forcedExpiry).status = true)) := by
  have hreached := reached_congr hheld.grants fun _ => true
  have hqueue : m.openQueue = { waiting := [], due :=
      h.openQueue.due ++ h.openQueue.waiting.map (fun w => { who := w.who, code := .noTime }) } := by rw [k.rest]
  rw [hheld.openQueue] at hqueue
  refine ⟨by rw [hqueue], by rw [hqueue], by rw [k.rest], fun g => ?_, ?_, ?_, fun hnone => ?_, fun hsrc => ?_⟩
  · rw [k.grant, hheld.grant]
  · rw [k.expireList, hheld.grants, hreached]
  · rw [k.gens, hheld.grants]
  · rw [k.unforced (hreached.trans hnone)]
    exact hheld.raises.others _ (by decide)
  · have hlength := hheld.raises.length.trans hsrc
    exact ⟨k.lost hlength, k.steady, fun hsome => k.forced (hreached ▸ hsome) hlength⟩

end

/-- The sources that a main-clock second can move (03 R36). -/
def secondSources : List Nat := Src.queueTimeout :: lossSources

theorem measure_raises (deviation : Nat) (s : State) : RaisesAmong lossSources s (measure deviation s) := by
  rcases measure_keeps_or_loses deviation s with k | k
  · exact k.raises.mono (by decide)
  · exact k.raises

/-- The row DRIFT_RUN_LIMIT is itself the bad window at the limit (03 R40, log 6). -/
theorem exec_driftRunLimit {s : State} (h : Awake s) (hend : 15 ≤ s.clock.driftRun) :
    exec .driftRunLimit s = .next (reachDriftLimit (openWindow s)) :=
  congrArg _ (if_pos (by simp [awake_iff.mpr h, hend]))

/-- Settles O51: the second by its window, and the row DRIFT_RUN_LIMIT by the time state. -/
theorem mainClockSecondAndTimeLoss : Obligations.MainClockSecondAndTimeLoss := by
  intro s ha
  refine ⟨fun dev u late kept hu hlate hkept => ⟨_, exec_mainClockSecond ha dev, ?_⟩,
    fun hend hrun => ⟨_, exec_driftRunLimit ha hend, ?_⟩, fun hend hlost => ?_⟩
  · have hheld := holdersDone_held hu hlate hkept
    generalize holdersDone s = h at hheld
    have hmeasured := hheld.measured (measure_keeps_or_loses dev h)
    have hwindow := measure_raises dev h
    have hraises : RaisesAmong secondSources s (measure dev h) :=
      (hheld.raises.mono (by decide)).trans (hwindow.mono (by decide))
    have hqueue : (measure dev h).source Src.queueTimeout = h.source Src.queueTimeout :=
      hwindow.others _ (by decide)
    have harbiter := congrArg State.arbiter hmeasured
    have hticked : h.clock.ticked = s.clock.ticked := by rw [hheld.clock]
    have hdrift : h.clock.driftRun = s.clock.driftRun := by rw [hheld.clock]
    have htime : h.clock.timeState = s.clock.timeState := by rw [hheld.clock]
    rw [← hticked, ← hdrift, ← htime]
    refine ⟨harbiter, ?_, fun n h1 h2 h3 h4 h5 => hraises.others n ?_, hraises.flags, fun hnone => ?_,
      fun hsome hsrc => ?_, fun hkeeps => hheld.keeps (measure_keepsTime hkeeps),
      fun hb hend hrun => hheld.loses (measure_losesTime hb hend hrun), ?_, ?_, fun hb hlow => ?_,
      fun ht hd => ?_, fun hb hend => ?_, fun hb hlow hsrc => ?_⟩
    · rw [hraises.attention_eq, harbiter]; exact hmeasured
    · simp [secondSources, lossSources, h1, h2, h3, h4, h5]
    · rw [hqueue, State.source, hheld.quiet hnone]; rfl
    · rw [hqueue]; exact hheld.raised hsome hsrc
    · rw [hmeasured]
    · rw [hmeasured]
    · rw [measure_counts hb hlow, raiseLevel_clock]; exact ⟨rfl, rfl⟩
    · rw [measure_good ht hd]; exact ⟨rfl, rfl, driftCleared_source h⟩
    · cases hs : h.clock.timeState with
      | running => rw [(measure_losesTime hb hend hs).rest]; exact ⟨rfl, rfl⟩
      | lost => rw [measure_limit hb hend, reachDriftLimit_lost hs]; exact ⟨rfl, hs⟩
    · rw [measure_counts hb hlow]
      refine raiseLevel_source_self ?_
      show Src.clockDrift < h.attention.sources.length
      rw [hheld.raises.length, hsrc]; decide
  · have k := reachDriftLimit_losesTime hrun
    generalize reachDriftLimit (openWindow s) = t at k
    have hdeadlines : t.deadlines = [] := by rw [k.rest]
    refine ⟨by rw [k.rest], hdeadlines, k.grant, k.expireList, k.gens, by rw [k.rest],
      fun hsrc => ⟨k.lost hsrc, k.steady, fun hsome => k.forced hsome hsrc⟩, k.unforced, ?_,
      fun n h1 h2 h3 h4 => k.raises.others n (by simp [lossSources, h1, h2, h3, h4]), k.raises.flags⟩
    rw [k.raises.attention_eq, congrArg State.clock k.rest, congrArg State.openQueue k.rest]
    exact k.rest
  · rw [exec_driftRunLimit ha hend, reachDriftLimit_lost hlost]; rfl

end Sys2Proof.Machine
end

section
/-! PROOFS. Window and span arithmetic (O20, O22). -/

namespace Sys2Proof.Machine

/-! ## The effective start (04 R55, Table 4.3) -/

theorem effectiveStart_zero (n prep late : Nat) : effectiveStart 0 n prep late = some n := if_pos rfl

/-- Case 2: beyond the preparation limit, TOO_EARLY. -/
theorem effectiveStart_beyond {p n prep late : Nat} (hp : p ≠ 0) (h : satAdd n prep < p) :
    effectiveStart p n prep late = none := by rw [effectiveStart, if_neg hp, if_pos h]

/-- Case 3: before the lateness limit, booth time. -/
theorem effectiveStart_late {p n prep late : Nat} (hp : p ≠ 0) (h : p ≤ satAdd n prep) (hlate : p < n - late) :
    effectiveStart p n prep late = some n := by
  rw [effectiveStart, if_neg hp, if_neg (Nat.not_lt.mpr h), if_pos hlate]

/-- Case 4: within both limits, the planned start. -/
theorem effectiveStart_kept {p n prep late : Nat} (hp : p ≠ 0) (h : p ≤ satAdd n prep) (hlate : n - late ≤ p) :
    effectiveStart p n prep late = some p := by
  rw [effectiveStart, if_neg hp, if_neg (Nat.not_lt.mpr h), if_neg (Nat.not_lt.mpr hlate)]

theorem effectiveStart_now_or_planned {p n prep late q : Nat} (h : effectiveStart p n prep late = some q) :
    q = n ∨ q = p := by
  unfold effectiveStart at h
  split_ifs at h
  · exact .inl (Option.some.inj h).symm
  · exact .inl (Option.some.inj h).symm
  · exact .inr (Option.some.inj h).symm

/-- A booth time in range lies within its own preparation limit. -/
theorem le_satAdd {a n : Nat} (b : Nat) (hn : n ≤ maxCount) (h : a ≤ n) : a ≤ satAdd n b :=
  le_min (h.trans (Nat.le_add_right n b)) (h.trans hn)

/-- The lateness limit of 04 R55 as it is written there is the difference of natural numbers. -/
theorem latenessLimit_eq (n late : Nat) : (if late > n then 0 else n - late) = n - late := by split <;> omega

/-- Settles O20, from the four cases of 04 R55. -/
theorem effectiveStartCases : Obligations.EffectiveStartCases := by
  intro p n prep late hn _
  rw [latenessLimit_eq]
  refine ⟨?_, effectiveStart_beyond, effectiveStart_late, effectiveStart_kept, fun hp hlt => ?_, fun hlt => ?_,
    fun hsum => ?_, fun _ => ?_, fun q => effectiveStart_now_or_planned⟩
  · rintro rfl
    exact effectiveStart_zero ..
  · exact effectiveStart_late hp (le_satAdd prep hn hlt.le) hlt
  · exact effectiveStart_beyond (Nat.ne_zero_of_lt hlt) ((Nat.min_le_left ..).trans_lt hlt)
  · by_cases hzero : n + prep = 0
    · obtain ⟨rfl, rfl⟩ := Nat.add_eq_zero_iff.mp hzero
      exact effectiveStart_zero ..
    · exact effectiveStart_kept hzero (le_min le_rfl hsum) (by omega)
  · split
    · rename_i hzero
      rw [hzero]; exact effectiveStart_zero ..
    · rename_i hzero
      exact effectiveStart_kept hzero (le_satAdd prep hn (Nat.sub_le ..)) le_rfl

/-! ## The span end (04 R58, R59, R62) -/

/-- A span end lies beyond booth time, and at most TAIL after the window end. The minimum span keeps it beyond booth
time: a booth time that could not be added to would have closed the window. -/
theorem spanEnd_bounds {q r extra now es tail x : Nat} (h : spanEnd q r extra now es tail = some x) :
    now < x ∧ x ≤ satAdd es tail := by
  simp only [spanEnd] at h
  split at h
  · simp at h
  · rename_i hopen
    have hnow : now < satAdd es tail := Nat.not_le.mp hopen
    have hminimum : now < satAdd now 60 := lt_min (by omega) (hnow.trans_le (Nat.min_le_right ..))
    obtain rfl := Option.some.inj h
    exact ⟨lt_min (hminimum.trans_le (Nat.le_max_right ..)) hnow, Nat.min_le_right ..⟩

theorem chooseEntry_mem {l : List (Nat × ParcelEntry)} {p : Nat × ParcelEntry} (h : chooseEntry l = some p) :
    p ∈ l := by
  cases l with
  | nil => simp [chooseEntry] at h
  | cons a l =>
    obtain rfl := Option.some.inj h
    exact foldl_pick_mem (fun a b => by split <;> simp) a l

/-- A parcel that is selected holds keys (02 Table 2.4, the second narrowing). -/
theorem selectParcel_holdsKeys {table : List (Option ParcelEntry)} {fingerprint feature : Bytes16} {q : Nat}
    {tracks : List TrackId} {p : Nat × ParcelEntry} (h : selectParcel table fingerprint feature q tracks = .ok p) :
    p.2.holdsKeys = true := by
  simp only [selectParcel] at h
  split_ifs at h
  split at h
  · simp at h
  · rename_i hchosen
    obtain rfl := Except.ok.inj h
    have hmem := chooseEntry_mem hchosen
    simp only [List.mem_filter] at hmem
    obtain ⟨⟨⟨⟨_, hkeys⟩, _⟩, _⟩, _⟩ := hmem
    exact hkeys

/-- A plan is made for a selected parcel, with the span end of 04 R58 (05 Table 5.6). -/
theorem planOpen_ok {w : OpenReq} {s : State} {p : OpenPlan} (h : planOpen w s = .ok p) :
    ∃ (fingerprint : Bytes16) (e : ParcelEntry),
      selectParcel s.store.table fingerprint w.feature p.q w.tracks = .ok (p.parcel, e) ∧
      spanEnd p.q w.runtime s.stations.settings.overrun s.now e.es s.stations.settings.tail = some p.x := by
  unfold planOpen at h
  split at h
  · simp at h
  · rename_i st _
    split_ifs at h
    split at h
    · simp at h
    · split at h
      · simp at h
      · rename_i hselect
        split at h
        · simp at h
        · rename_i hspan
          obtain rfl := Except.ok.inj h
          exact ⟨st.fingerprint, _, hselect, hspan⟩

/-- The span end after an EXTEND, read from its parcel entry (04 R61, R62). -/
theorem extendTo_of_entry {r : Grant} {e : ParcelEntry} {s : State} (requested : Nat) (h : s.entry r.parcel = some e) :
    extendTo r requested s =
      min (satAdd r.x (allowedAddition requested r.used)) (satAdd e.es s.stations.settings.tail) := by
  rw [extendTo, h]; rfl

/-- Settles O22: both bounds of the span end at selection, and the cap of an EXTEND. -/
theorem spanEndWithinWindowAndTail : Obligations.SpanEndWithinWindowAndTail := by
  refine ⟨fun w s p hplan => ?_, fun s r e requested he => ?_⟩
  · obtain ⟨_, e, hselect, hspan⟩ := planOpen_ok hplan
    obtain ⟨hafter, hcap⟩ := spanEnd_bounds hspan
    exact ⟨hafter, e, selectParcel_entry hselect, selectParcel_holdsKeys hselect, hcap⟩
  · rw [extendTo_of_entry requested he]
    exact Nat.min_le_right ..

end Sys2Proof.Machine
end

section
/-! PROOFS. EXTEND (O33). -/

namespace Sys2Proof.Machine

theorem roleCheck_screen {who : Sender} (h : who.role = .screen) : (roleCheck who [.screen]).1 = false := by
  rw [roleCheck, h]; rfl

theorem ServedScreen.notSuspended {s : State} {src : Addr} {slot : Nat} {e : Station} (h : ServedScreen s src slot e) :
    (Sender.station slot e).isSuspended = false := by
  rw [Sender.isSuspended, h.enrolled]; rfl

/-- A handle with the slot's generation names the OPEN record that its station holds (06 R96). -/
theorem namedGrant_opened {who : Sender} {g : Handle} {s : State} {r : Grant} (hr : s.grant g.slot = some r)
    (hopen : r.state = .opened) (hgen : s.grants.gens.getD g.slot 0 = g.gen) (hwho : who.slot = some r.station) :
    namedGrant who g s = some r := by
  simp only [namedGrant, hr, hopen]
  exact if_pos ⟨hgen, hwho⟩

theorem extendExpired_opened {r : Grant} (g : Handle) (h : r.state = .opened) :
    (extendExpired g (some r)).1 = false := by
  simp only [extendExpired, h]

theorem parcelWithdrawn_of_entry {r : Grant} {e : ParcelEntry} {s : State} (he : s.entry r.parcel = some e)
    (h : e.state ≠ .withdrawn) : parcelWithdrawn (some r) s = false := by
  simp [parcelWithdrawn, he, h]

/-- Every check of EXTEND passes (06 R106). -/
theorem exec_extend {src : Addr} {tag : Byte} {body : List Byte} {s : State} {slot : Nat} {st : Station} {r : Grant}
    {e : ParcelEntry} (h : ServedScreen s src slot st) (hb : body.length = 6)
    (hn : namedGrant (.station slot st) (handleAt body 0) s = some r) (hopen : r.state = .opened)
    (he : s.entry r.parcel = some e) (hw : e.state ≠ .withdrawn) : exec (.extend src tag body) s =
      .next (extendGrant (.station slot st) { src := src, kind := Kind.extend.value, tag := tag, body := body } s) := by
  refine (exec_served h.toServed .extend tag body).trans (congrArg _ (checked_of_passed ?_ _ s))
  simp only [extendChecks, List.forall_mem_cons]
  exact ⟨sealedCheck_passed h.toServed, roleCheck_screen h.role, suspendedCheck_passed h.notSuspended,
    by simp [lengthIs, hb], by simp [hn], by rw [hn]; exact extendExpired_opened _ hopen,
    by rw [hn]; exact parcelWithdrawn_of_entry he hw, nofun⟩

/-- An EXTEND whose span end lies beyond the record's moves it (06 R107). -/
theorem extendGrant_moves {who : Sender} {f : Frame} {s : State} {r : Grant}
    (hn : namedGrant who (handleAt f.body 0) s = some r) (hx : r.x < extendTo r (num f.body 2 4) s) :
    extendGrant who f s =
      let x := extendTo r (num f.body 2 4) s
      reply f
        { code := if x - r.x = num f.body 2 4 then .ok else .clamped
          detail := (handleAt f.body 0).bytes ++ beBytes 4 x ++ beBytes 2 (x - r.x) ++
            beBytes 2 (r.used + (x - r.x)) }
        (moveSpanEnd (num f.body 0 1) r x s) := by
  simp only [extendGrant, hn]
  exact if_pos hx

/-- An EXTEND that adds no second only answers (06 R107). -/
theorem extendGrant_stays {who : Sender} {f : Frame} {s : State} {r : Grant}
    (hn : namedGrant who (handleAt f.body 0) s = some r) (hx : extendTo r (num f.body 2 4) s ≤ r.x) :
    extendGrant who f s = reply f
      { code := .clamped
        detail := (handleAt f.body 0).bytes ++ beBytes 4 r.x ++ beBytes 2 0 ++ beBytes 2 r.used } s := by
  simp only [extendGrant, hn]
  exact if_neg (Nat.not_lt.mpr hx)

/-- Settles O33: past the checks, the record's span end moves or stays as 04 R62 puts it. -/
theorem extendMovesTheSpanEnd : Obligations.ExtendMovesTheSpanEnd := by
  intro src tag body s slot st r e h hb hr hslot hgen hopen he hw x hx
  have hn : namedGrant (.station slot st) (handleAt body 0) s = some r :=
    namedGrant_opened hr hopen hgen (congrArg some hslot.symm)
  have hto : x = extendTo r (num body 2 4) s := hx.trans (extendTo_of_entry _ he).symm
  rw [exec_extend h hb hn hopen he hw, hto]
  exact ⟨fun hmoves => congrArg _ (extendGrant_moves hn hmoves),
    fun hstays => congrArg _ (extendGrant_stays hn hstays)⟩

end Sys2Proof.Machine
end

section
/-! PROOFS. Tokens and OPEN admission (O23, O31). -/

namespace Sys2Proof.Machine

/-! ## Tokens brought up to date (04 R64) -/

/-- No refill runs: only a lowered burst shows. -/
theorem refreshTokens_idle (tokens u burst refill : Nat) :
    refreshTokens tokens none u burst refill = (min tokens burst, none) := rfl

/-- The refills since the mark fill the bucket: the refill stops. -/
theorem refreshTokens_full {tokens m u burst refill : Nat} (h : burst ≤ tokens + (u - m) / refill) :
    refreshTokens tokens (some m) u burst refill = (burst, none) := if_pos h

/-- The refills since the mark leave room: the mark moves by as many refill times. -/
theorem refreshTokens_running {tokens m u burst refill : Nat} (h : tokens + (u - m) / refill < burst) :
    refreshTokens tokens (some m) u burst refill =
      (tokens + (u - m) / refill, some (m + (u - m) / refill * refill)) := if_neg (Nat.not_le.mpr h)

/-- Settles O23, from the idle mark and the running one. -/
theorem tokensBroughtUpToDate : Obligations.TokensBroughtUpToDate := by
  refine fun tokens u burst refill => ⟨refreshTokens_idle .., fun m k hk => ?_⟩
  rw [hk]
  exact ⟨refreshTokens_full, refreshTokens_running⟩

/-! ## OPEN (05 R68, R69) -/

/-- Checks 9 and 10 of 05 Table 5.2 and the admission, with the answers and the new queue place written out. -/
theorem admitOpen_answers (slot : Nat) (e : Station) (src : Addr) (tag : Byte) (body : List Byte) (s : State) :
    admitOpen slot e { src := src, kind := Kind.openKeys.value, tag := tag, body := body } s =
      let up := refreshTokens e.tokens e.mark s.clock.uptime s.stations.settings.openBurst
        s.stations.settings.openRefill
      let fresh := putTokens slot e up s
      if up.1 = 0 then answered (raisePulse Src.rateLimited fresh) src tag .openKeys .rateLimit []
      else if 16 ≤ openPlaces s then answered fresh src tag .openKeys .queueFull []
      else { putTokens slot e (up.1 - 1, some (up.2.getD s.clock.uptime)) s with
        openQueue := { s.openQueue with waiting := s.openQueue.waiting ++
          [openReqOf slot { src := src, kind := Kind.openKeys.value, tag := tag, body := body } s] } } := rfl

/-- The checks before the tokens, as they read for a station (05 Table 5.2). -/
theorem openChecks_station (slot : Nat) (e : Station) (f : Frame) (s : State) : openChecks (.station slot e) f s =
    [ sealedCheck s,
      (!(List.contains [Role.screen] e.role), refuse .role),
      (s.stations.mode == .service, refuse .mode),
      (s.engine.faulted, refuse .engineFault),
      (s.clock.timeState == .lost, refuse .noTime),
      formCheck (openForm f.body),
      (e.state == .suspended, refuse .suspended),
      (decide (2 ≤ stationLoad slot s), refuse .screenLimit),
      ((effectiveStart (openPlanned f.body) s.now s.stations.settings.prep s.stations.settings.late).isNone,
        refuse .tooEarly) ] := rfl

/-- Checks 1 to 8 of 05 Table 5.2 in their order; an OPEN that passes them comes to its tokens. -/
theorem exec_openKeys {src : Addr} {s : State} {slot : Nat} {e : Station} (h : Served s src (.station slot e))
    (tag : Byte) (body : List Byte) : exec (.openKeys src tag body) s = .next
      (if e.role ≠ .screen then answered s src tag .openKeys .role []
       else if s.stations.mode = .service then answered s src tag .openKeys .mode []
       else if s.engine.faulted = true then answered s src tag .openKeys .engineFault []
       else if s.clock.timeState = .lost then answered s src tag .openKeys .noTime []
       else match openForm body with
         | some b => answered s src tag .openKeys .malformed [b.value]
         | none =>
           if e.state = .suspended then answered s src tag .openKeys .suspended []
           else if 2 ≤ stationLoad slot s then answered s src tag .openKeys .screenLimit []
           else if effectiveStart (openPlanned body) s.now s.stations.settings.prep s.stations.settings.late = none
           then answered s src tag .openKeys .tooEarly []
           else admitOpen slot e { src := src, kind := Kind.openKeys.value, tag := tag, body := body } s) := by
  refine (exec_served h .openKeys tag body).trans (congrArg _ ?_)
  show ownOpen _ _ s = _
  simp only [ownOpen, openChecks_station, sealedCheck, h.service]
  cases openForm body with
  | some b => simp [reply_eq_answered, refuse, malformed]
  | none => simp [reply_eq_answered, refuse]

/-- Settles O31: the checks of 05 Table 5.2 in their order, then the tokens and the admission. -/
theorem openAdmission : Obligations.OpenAdmission := by
  intro src tag body s slot e h
  rw [exec_openKeys h, admitOpen_answers]
  rfl

end Sys2Proof.Machine
end

section
/-! PROOFS. Which answers carry wrapped keys (O13): the relation `Withholds`, with one rule for each shared operation. -/

namespace Sys2Proof.Machine

/-! ## Answers that carry nothing -/

/-- A reply that is not a GRANTED with a detail: it releases no wrapped keys (05 R83). -/
def Reply.Keyless (r : Reply) : Prop := r.code = .granted → r.detail = []

@[simp] theorem refuse_keyless (c : Code) : (refuse c).Keyless := fun _ => rfl

@[simp] theorem malformed_keyless (b : BadForm) : (malformed b).Keyless := nofun

/-- A reply with one of two codes that are not GRANTED. -/
theorem keyless_ite {c : Prop} [Decidable c] {a b : Code} {d : List Byte} (ha : a ≠ .granted) (hb : b ≠ .granted) :
    Reply.Keyless { code := if c then a else b, detail := d } := by
  unfold Reply.Keyless
  dsimp only
  split
  · exact fun hc => absurd hc ha
  · exact fun hc => absurd hc hb

/-- Every answer of `t` that is GRANTED with a detail waited in `s` already. -/
structure Withholds (s t : State) : Prop where
  earlier : ∀ a ∈ t.link.answers, a.code = .granted → a.detail ≠ [] → a ∈ s.link.answers

theorem Withholds.of_subset {s t : State} (h : t.link.answers ⊆ s.link.answers) : Withholds s t :=
  ⟨fun _ ha _ _ => h ha⟩

theorem Withholds.of_answers {s t : State} (h : t.link.answers = s.link.answers) : Withholds s t :=
  .of_subset fun _ ha => h ▸ ha

theorem Withholds.of_link {s t : State} (h : t.link = s.link) : Withholds s t :=
  .of_answers (congrArg LinkPort.answers h)

theorem Withholds.refl (s : State) : Withholds s s := .of_link rfl

theorem Withholds.trans {s t u : State} (h : Withholds s t) (k : Withholds t u) : Withholds s u :=
  ⟨fun a ha hc hd => h.earlier a (k.earlier a ha hc hd) hc hd⟩

/-- A command whose condition does not hold changes nothing (log 5). -/
theorem Withholds.ite {s t : State} {c : Prop} [Decidable c] (h : Withholds s t) :
    Withholds s (if c then t else s) := by
  split
  · exact h
  · exact .refl s

theorem Withholds.placed {s t : State} (h : Withholds s t) {a : Answer} (ha : a.code = .granted → a.detail = []) :
    Withholds s (placeAnswer a t) := by
  refine ⟨fun b hb hc hd => ?_⟩
  rw [placeAnswer_link_answers] at hb
  rcases List.mem_append.mp hb with hb | hb
  · exact h.earlier b hb hc hd
  · obtain rfl := List.mem_singleton.mp hb
    exact absurd (ha hc) hd

theorem Withholds.reply {s t : State} (h : Withholds s t) {f : Frame} {r : Reply} (hr : r.Keyless) :
    Withholds s (reply f r t) := h.placed hr

theorem Withholds.replyLater {s t : State} (h : Withholds s t) {who : Requester} {k : Kind} {r : Reply}
    (hr : r.Keyless) : Withholds s (replyLater who k r t) := h.placed hr

/-! ## Shared operations -/

theorem OnlyParcels.withholds {s t : State} (h : OnlyParcels s t) : Withholds s t := .of_link h.deadlineWork.link

theorem OnlyDeadlineWork.withholds {s t : State} (h : OnlyDeadlineWork s t) : Withholds s t := .of_link h.link

theorem freeGrant_withholds (g : Nat) (s : State) : Withholds s (freeGrant g s) :=
  .of_link (by rw [freeGrant_only g s])

theorem forceExpiry_link (pick : Grant → Bool) (why : Reason) (s : State) :
    (forceExpiry pick why s).link = s.link := by
  obtain ⟨-, -, -, -, hframe⟩ := forceExpiry_grants pick why s
  rw [hframe]

theorem followLevel_link (n : Nat) (c : Bool) (s : State) : (followLevel n c s).link = s.link := by
  rw [followLevel_frame]

theorem releaseHold_withholds (s : State) : Withholds s (releaseHold s) := .of_answers rfl

theorem occupancyFell_withholds (s : State) : Withholds s (occupancyFell s) := by
  rw [occupancyFell_eq]
  exact .ite (releaseHold_withholds s)

theorem enterHold_withholds (s : State) : Withholds s (enterHold s) := by
  refine .of_answers ?_
  rw [enterHold, raiseLevel_link]; rfl

theorem occupancyRose_withholds (s : State) : Withholds s (occupancyRose s) := by
  rw [occupancyRose_eq]
  exact .ite (enterHold_withholds s)

theorem discardStranger_withholds (s : State) : Withholds s (discardStranger s) := .of_answers rfl

theorem enterFault_link (s : State) : (enterFault s).link = s.link := by rw [enterFault, raiseLevel_link]; rfl

theorem loseTime_link (s : State) : (loseTime s).link = s.link := by
  rw [loseTime, raiseLevel_link]
  exact forceExpiry_link ..

theorem beginStartUp_withholds (cause : StartCause) (s : State) : Withholds s (beginStartUp cause s) :=
  .of_subset (List.nil_subset _)

end Sys2Proof.Machine
end

section
/-! PROOFS. No request places a GRANTED answer with a detail (O13). -/

namespace Sys2Proof.Machine

/-! ## Requests -/

/-- An owner places no wrapped keys. -/
def OwnerWithholds (owner : Owner) : Prop := ∀ who f s, Withholds s (owner who f s)

theorem checked_withholds {f : Frame} {cs : List (Bool × Reply)} {act : State → State} {s : State}
    (hcs : ∀ c ∈ cs, c.2.Keyless) (hact : Withholds s (act s)) : Withholds s (checked f cs act s) := by
  rcases checked_cases f cs act s with ⟨r, hr, he⟩ | he <;> rw [he]
  · exact (Withholds.refl s).reply (hcs _ hr)
  · exact hact

theorem settle_withholds {owner : Owner} (h : OwnerWithholds owner) (f : Frame) (s : State) :
    Withholds s (settle owner f s) := by
  unfold settle
  split
  · exact discardStranger_withholds s
  · exact h _ f s

theorem takeRequest_withholds (k : Kind) (src : Addr) (tag : Byte) (body : List Byte) {owner : Owner}
    (h : OwnerWithholds owner) (s : State) : Withholds s (takeRequest k src tag body owner s) :=
  .ite (settle_withholds h _ s)

/-! ## The checks' refusals -/

@[simp] theorem sealedCheck_keyless (s : State) : (sealedCheck s).2.Keyless := refuse_keyless _
@[simp] theorem roleCheck_keyless (who : Sender) (l : List Role) : (roleCheck who l).2.Keyless := refuse_keyless _
@[simp] theorem suspendedCheck_keyless (who : Sender) : (suspendedCheck who).2.Keyless := refuse_keyless _
@[simp] theorem serviceOnly_keyless (s : State) : (serviceOnly s).2.Keyless := refuse_keyless _
@[simp] theorem formCheck_keyless (b : Option BadForm) : (formCheck b).2.Keyless := malformed_keyless _
@[simp] theorem conflictCheck_keyless (b : Byte) (cs : List Nat) : (conflictCheck b cs).2.Keyless := nofun
@[simp] theorem stationCheck_keyless (slot : Nat) (s : State) : (stationCheck slot s).2.Keyless := refuse_keyless _

@[simp] theorem extendExpired_keyless (h : Handle) (r : Option Grant) : (extendExpired h r).2.Keyless := by
  unfold extendExpired
  split
  · split
    · exact nofun
    · exact refuse_keyless _
  · exact refuse_keyless _

/-- The refusals of a request's checks release nothing. -/
def ChecksWithhold (cs : Sender → Frame → State → List (Bool × Reply)) : Prop :=
  ∀ who f s, ∀ c ∈ cs who f s, c.2.Keyless

/-- A checked request whose act withholds. -/
theorem ownChecked_withholds {cs : Sender → Frame → State → List (Bool × Reply)} {act : Sender → Frame → State → State}
    (hcs : ChecksWithhold cs) (hact : ∀ who f s, Withholds s (act who f s)) :
    OwnerWithholds fun who f s => checked f (cs who f s) (act who f) s :=
  fun who f s => checked_withholds (hcs who f s) (hact who f s)

/-! ## What requests do past their checks -/

theorem withdrawStaged_withholds (i : Nat) (p : StagingPlace) (f : Frame) (s : State) :
    Withholds s (withdrawStaged i p f s) := by
  unfold withdrawStaged
  split
  · refine Withholds.reply (.of_link ?_) nofun
    split <;> rfl
  · exact Withholds.reply (.of_link (by rfl)) nofun
  · exact .refl s

theorem withdrawCommitted_withholds (i : Nat) (e : ParcelEntry) (force : Bool) (f : Frame) (s : State) :
    Withholds s (withdrawCommitted i e force f s) := by
  unfold withdrawCommitted
  split
  · exact (freeEntry_only i s).withholds.reply nofun
  · refine Withholds.reply (.of_link ((forceExpiry_link ..).trans ?_)) nofun
    exact (eraseEntry_only ..).deadlineWork.link

theorem withdraw_withholds (f : Frame) (s : State) : Withholds s (withdraw f s) := by
  unfold withdraw
  dsimp only
  split
  · split
    · exact withdrawStaged_withholds ..
    · exact .refl s
  · split
    · exact withdrawCommitted_withholds ..
    · exact (Withholds.refl s).reply (refuse_keyless _)

theorem admitOpen_withholds (slot : Nat) (e : Station) (f : Frame) (s : State) :
    Withholds s (admitOpen slot e f s) := by
  unfold admitOpen
  dsimp only
  split
  · exact Withholds.reply (.of_link (by rfl)) (refuse_keyless _)
  · split
    · exact Withholds.reply (.of_link (by rfl)) (refuse_keyless _)
    · exact .of_link rfl

theorem closeReply_keyless (h : Handle) (r : Grant) : (closeReply h r).Keyless := by
  unfold closeReply
  split
  · exact nofun
  · exact nofun

theorem closeGrant_withholds (who : Sender) (f : Frame) (s : State) : Withholds s (closeGrant who f s) := by
  unfold closeGrant
  dsimp only
  split
  · exact .refl s
  · exact (freeGrant_withholds ..).reply (closeReply_keyless _ _)

theorem extendGrant_withholds (who : Sender) (f : Frame) (s : State) : Withholds s (extendGrant who f s) := by
  unfold extendGrant
  dsimp only
  split
  · exact .refl s
  · split
    · exact Withholds.reply (.of_link (by rfl)) (keyless_ite nofun nofun)
    · exact (Withholds.refl s).reply nofun

theorem applyTrim_withholds (d : Int) (s : State) : Withholds s (applyTrim d s) := by
  have hmoved : ∀ a, Withholds s (moveBooth a s) := fun a => .of_link (by rw [moveBooth_eq])
  unfold applyTrim
  dsimp only
  split
  · exact (hmoved _).trans (handTrim_work ..).withholds
  · refine ((hmoved _).trans (handTrim_work ..).withholds).trans (.of_link rfl)

theorem establishTime_withholds (v : Nat) (s : State) : Withholds s (establishTime v s) :=
  .of_link (rebuildList_work ..).link

theorem enrol_withholds (f : Frame) (s : State) : Withholds s (enrol f s) := by
  unfold enrol
  dsimp only
  split
  · exact Withholds.reply (.of_link (by rfl)) nofun
  · exact .refl s

theorem suspend_withholds (f : Frame) (s : State) : Withholds s (suspend f s) := by
  unfold suspend
  split
  · unfold suspendStation
    split
    · exact (Withholds.refl s).reply nofun
    · dsimp only
      split
      · exact Withholds.reply (.of_link (by exact forceExpiry_link ..)) nofun
      · exact Withholds.reply (.of_link (by rfl)) nofun
  · exact .refl s

theorem resume_withholds (f : Frame) (s : State) : Withholds s (resume f s) := by
  unfold resume
  split
  · exact Withholds.reply (.of_link (by rfl)) (refuse_keyless _)
  · exact .refl s

theorem giveRank_withholds (f : Frame) (s : State) : Withholds s (giveRank f s) := by
  unfold giveRank
  split
  · exact Withholds.reply (.of_link (by rfl)) (refuse_keyless _)
  · exact .refl s

/-- A change of mode, made or refused, places no answer itself, and its code is not GRANTED (08 R143). -/
theorem evaluateModeChange_answer (m : Mode) (s : State) :
    (evaluateModeChange m s).1.link = s.link ∧ (evaluateModeChange m s).2 ≠ .granted := by
  unfold evaluateModeChange
  split
  · exact ⟨rfl, nofun⟩
  · split
    · unfold enterMode
      split
      · exact ⟨rfl, nofun⟩
      · split
        · split <;> exact ⟨rfl, nofun⟩
        · split
          · exact ⟨rfl, nofun⟩
          · split <;> exact ⟨rfl, nofun⟩
    · exact ⟨rfl, nofun⟩

theorem modeChangeTo_withholds (m : Mode) (f : Frame) (s : State) : Withholds s (modeChangeTo m f s) := by
  obtain ⟨hlink, hcode⟩ := evaluateModeChange_answer m s
  exact (Withholds.of_link hlink).reply fun hc => absurd hc hcode

theorem readNotices_withholds (f : Frame) (s : State) : Withholds s (readNotices f s) := by
  have hreply : Withholds s (reply f { code := .ok, detail := noticeReadDetail s } s) := (Withholds.refl s).reply nofun
  unfold readNotices
  dsimp only
  split
  · exact hreply.trans (.of_link rfl)
  · exact hreply

/-! ## Every request -/

theorem ownerOf_withholds (k : Kind) : OwnerWithholds (ownerOf k) := by
  cases k with
  | status => exact ownChecked_withholds (by simp [ChecksWithhold]) fun _ _ s => (Withholds.refl s).reply nofun
  | parcelLoad => exact ownChecked_withholds (by simp [ChecksWithhold, loadChecks]) fun _ _ _ => .of_link rfl
  | parcelWithdraw =>
    exact ownChecked_withholds (by simp [ChecksWithhold, withdrawChecks]) fun _ => withdraw_withholds
  | parcelList =>
    exact ownChecked_withholds (by simp [ChecksWithhold, parcelListChecks]) fun _ _ s => (Withholds.refl s).reply nofun
  | openKeys =>
    refine ownChecked_withholds (by simp [ChecksWithhold, openChecks]) fun who f s => ?_
    split
    · exact admitOpen_withholds ..
    · exact .refl s
  | close => exact ownChecked_withholds (by simp [ChecksWithhold, closeChecks]) closeGrant_withholds
  | extend => exact ownChecked_withholds (by simp [ChecksWithhold, extendChecks]) extendGrant_withholds
  | grantList =>
    exact ownChecked_withholds (by simp [ChecksWithhold, grantListChecks]) fun _ _ s => (Withholds.refl s).reply nofun
  | timeTrim =>
    exact ownChecked_withholds (by simp [ChecksWithhold, trimChecks]) fun _ _ s =>
      (applyTrim_withholds _ s).reply (keyless_ite nofun nofun)
  | timeSet =>
    refine ownChecked_withholds (by simp [ChecksWithhold, setTimeChecks]) fun _ f s => ?_
    exact (establishTime_withholds _ s).reply (keyless_ite nofun nofun)
  | stationEnrol => exact ownChecked_withholds (by simp [ChecksWithhold, enrolChecks]) fun _ => enrol_withholds
  | stationRetire =>
    exact ownChecked_withholds (by simp [ChecksWithhold, retireChecks]) fun _ _ _ =>
      Withholds.reply (.of_link (by rfl)) (refuse_keyless _)
  | stationSuspend => exact ownChecked_withholds (by simp [ChecksWithhold, suspendChecks]) fun _ => suspend_withholds
  | stationResume => exact ownChecked_withholds (by simp [ChecksWithhold, resumeChecks]) fun _ => resume_withholds
  | stationRank => exact ownChecked_withholds (by simp [ChecksWithhold, rankChecks]) fun _ => giveRank_withholds
  | stationList =>
    exact ownChecked_withholds (by simp [ChecksWithhold, stationListChecks]) fun _ _ s => (Withholds.refl s).reply nofun
  | modeKey =>
    exact ownChecked_withholds (by simp [ChecksWithhold, modeKeyChecks]) fun _ _ _ =>
      Withholds.reply (.of_link (by rfl)) (refuse_keyless _)
  | modeChange =>
    refine ownChecked_withholds (by simp [ChecksWithhold, modeChangeChecks]) fun _ f s => ?_
    split
    · exact modeChangeTo_withholds ..
    · exact .refl s
  | settingWrite =>
    exact ownChecked_withholds (by simp [ChecksWithhold, settingWriteChecks]) fun _ _ _ =>
      Withholds.reply (.of_link (by rfl)) (keyless_ite nofun nofun)
  | settingRead =>
    exact ownChecked_withholds (by simp [ChecksWithhold, settingReadChecks]) fun _ _ s => (Withholds.refl s).reply nofun
  | zeroize =>
    refine ownChecked_withholds (by simp [ChecksWithhold, zeroizeChecks]) fun _ f s => ?_
    exact ((Withholds.refl s).reply (f := f) (refuse_keyless .ok)).trans (.of_link rfl)
  | noticeRead => exact ownChecked_withholds (by simp [ChecksWithhold, noticeReadChecks]) fun _ => readNotices_withholds
  | noticeConfig =>
    refine ownChecked_withholds (by simp [ChecksWithhold, noticeConfigChecks]) fun _ f s => ?_
    exact Withholds.reply (.of_link (by rfl)) (keyless_ite nofun nofun)
  | selfTest => exact ownChecked_withholds (by simp [ChecksWithhold, selfTestChecks]) fun _ _ _ => .of_link rfl
  | restart =>
    exact ownChecked_withholds (by simp [ChecksWithhold, restartChecks]) fun _ _ s => (Withholds.refl s).reply nofun

theorem ownUnknownKind_withholds : OwnerWithholds ownUnknownKind :=
  fun _ _ s => (Withholds.refl s).reply (refuse_keyless _)

theorem requestRow_withholds (k : Kind) (src : Addr) (tag : Byte) (body : List Byte) (s : State) :
    ∃ t, exec (requestRow k src tag body) s = .next t ∧ Withholds s t :=
  ⟨_, exec_requestRow k src tag body s, takeRequest_withholds k src tag body (ownerOf_withholds k) s⟩

end Sys2Proof.Machine
end

section
/-! PROOFS. Every command but REWRAP_POSTING withholds (O13). -/

namespace Sys2Proof.Machine

/-! ## The Link Port -/

theorem judgeHeader_withholds (dst src : Addr) (s : State) : Withholds s (judgeHeader dst src s) := by
  unfold judgeHeader
  split
  · exact .refl s
  · split
    · exact discardStranger_withholds s
    · split
      · exact .of_answers rfl
      · refine Withholds.trans ?_ (occupancyRose_withholds _)
        exact .of_answers rfl

theorem endFrame_withholds (h : Header) (rest : List Byte) (s : State) : Withholds s (endFrame h rest s) := by
  unfold endFrame
  dsimp only
  split
  · exact .of_answers rfl
  · refine Withholds.trans ?_ (occupancyFell_withholds _)
    exact .of_answers rfl

theorem takeFrame_withholds (f : Frame) (s : State) : Withholds s (takeFrame f s) := by
  have htaken : Withholds s { s with link := { s.link with stored := s.link.stored.drop 1 } } := .of_answers rfl
  have howner : OwnerWithholds (ownerOfFrame f) := by
    unfold ownerOfFrame
    split
    · exact ownerOf_withholds _
    · exact ownUnknownKind_withholds
  exact (htaken.trans (occupancyFell_withholds _)).trans (settle_withholds howner f _)

theorem sendExpireFor_withholds (g : Nat) (s : State) : Withholds s (sendExpireFor g s) := by
  unfold sendExpireFor
  split
  · refine Withholds.trans ?_ (freeGrant_withholds ..)
    exact .of_answers rfl
  · exact .refl s

theorem finishSending_withholds (f : TxFrame) (s : State) : Withholds s (finishSending f s) := by
  have hsent : Withholds s { s with link := { s.link with sending := none } } := .of_answers rfl
  unfold finishSending
  dsimp only
  split
  · exact hsent.trans (beginStartUp_withholds ..)
  · exact hsent

/-! ## Time -/

theorem tickBooth_link (s : State) : (tickBooth s).link = s.link := by
  have hadvanced : (advanceBooth s).link = s.link := by rw [advanceBooth_eq]
  unfold tickBooth
  split
  · dsimp only
    split
    · rw [(runDeadlines_work ..).link, hadvanced]
    · exact hadvanced
  · rfl

theorem countTrimYear_link (s : State) : (countTrimYear s).link = s.link := by
  unfold countTrimYear
  split <;> rfl

theorem timeOutOpens_link (s : State) : (timeOutOpens s).link = s.link := by rw [timeOutOpens_frame]

theorem examineTestInterval_link (s : State) : (examineTestInterval s).link = s.link := by
  rw [examineTestInterval_eq]

theorem reachDriftLimit_link (s : State) : (reachDriftLimit s).link = s.link := by
  unfold reachDriftLimit
  dsimp only
  split
  · rw [loseTime_link]; rfl
  · rfl

theorem measure_link (deviation : Nat) (s : State) : (measure deviation s).link = s.link := by
  rcases measure_cases deviation s with ⟨-, -, he⟩ | ⟨-, -, he⟩ | ⟨-, -, he⟩ <;> rw [he]
  · rfl
  · rw [raiseLevel_link]
  · rw [reachDriftLimit_link]; rfl

/-! ## The engine -/

theorem countUp_link (i : Nat) (s : State) : (countUp i s).link = s.link := (countUp_only i s).deadlineWork.link

theorem countPassOver_link (s : State) : (countPassOver s).link = s.link := by
  unfold countPassOver
  split <;> rfl

theorem selectOpen_link (i : Nat) (w : OpenReq) (s : State) : (selectOpen i w s).1.link = s.link := by
  unfold selectOpen
  split
  · rfl
  · split
    · exact countUp_link ..
    · rfl

theorem arbitrate_link (fuel : Nat) (s : State) : (arbitrate fuel s).link = s.link := by
  induction fuel generalizing s with
  | zero => rfl
  | succ fuel ih =>
    unfold arbitrate
    split
    · rfl
    · rfl
    · rfl
    · have hselected (i w) : (selectOpen i w (countPassOver s)).1.link = s.link :=
        (selectOpen_link ..).trans (countPassOver_link s)
      dsimp only
      split
      · exact hselected ..
      · exact (ih _).trans (hselected ..)

theorem completeKat_link (pass : Bool) (s : State) : (completeKat pass s).link = s.link := by
  unfold completeKat
  split
  · dsimp only
    have hfault : ∀ t : State, t.link = s.link → (if pass = true then t else enterFault t).link = s.link :=
      fun t ht => by rw [apply_ite State.link, enterFault_link, ite_self, ht]
    split
    · exact hfault _ rfl
    · cases pass
      · exact enterFault_link _
      · rfl
    · exact hfault _ rfl
  · rfl

theorem completeVerify_link (s : State) : (completeVerify s).link = s.link := by
  unfold completeVerify
  split <;> rfl

theorem completeRewrap_link (s : State) : (completeRewrap s).link = s.link := by
  unfold completeRewrap
  split <;> rfl

/-! ## Postings -/

/-- A commit makes its entry, its deadlines and its notice: no answer is placed by it, and its reply is ACCEPTED. -/
theorem commitParcel_answer (i : Nat) (p : Parcel) (ks : List Key) (s : State) :
    (commitParcel i p ks s).1.link = s.link ∧ (commitParcel i p ks s).2.Keyless := by
  refine ⟨?_, nofun⟩
  exact (foldl_work _ (fun v d => addDeadline_work d v) _ _).link

theorem makeRoom_link (s : State) : (makeRoom s).link = s.link := by
  unfold makeRoom reclaim
  split
  · split
    · exact (freeEntry_only ..).deadlineWork.link
    · rfl
  · rfl

theorem storeParcel_answer (p : Parcel) (ks : List Key) (s : State) :
    (storeParcel p ks s).1.link = s.link ∧ (storeParcel p ks s).2.Keyless := by
  unfold storeParcel
  dsimp only
  split
  · exact ⟨makeRoom_link s, nofun⟩
  · split
    · exact ⟨makeRoom_link s, nofun⟩
    · obtain ⟨hlink, hreply⟩ := commitParcel_answer _ p ks (makeRoom s)
      exact ⟨hlink.trans (makeRoom_link s), hreply⟩

theorem settleVerify_answer (p : StagingPlace) (outcome : Option (List Key)) (s : State) :
    (settleVerify p outcome s).1.link = s.link ∧ (settleVerify p outcome s).2.Keyless := by
  unfold settleVerify
  split
  · exact ⟨rfl, refuse_keyless _⟩
  · split_ifs
    · exact ⟨rfl, refuse_keyless _⟩
    · exact ⟨rfl, refuse_keyless _⟩
    · exact ⟨rfl, refuse_keyless _⟩
    · exact storeParcel_answer ..

theorem postVerify_withholds (s : State) : Withholds s (postVerify s) := by
  unfold postVerify
  split
  · rename_i outcome p _ _ _
    obtain ⟨hlink, hreply⟩ := settleVerify_answer p outcome { s with engine := { s.engine with held := none } }
    exact Withholds.replyLater (.of_link (by exact hlink)) hreply
  · exact .refl s

theorem postSelfTest_withholds (s : State) : Withholds s (postSelfTest s) := by
  unfold postSelfTest
  split
  · exact Withholds.replyLater (.of_link (by rfl)) (refuse_keyless _)
  · exact Withholds.replyLater (.of_link (by rfl)) (refuse_keyless _)
  · exact .refl s

theorem answerOpenDue_withholds (s : State) : Withholds s (answerOpenDue s) := by
  unfold answerOpenDue
  split
  · exact .refl s
  · exact Withholds.replyLater (.of_link (by rfl)) (refuse_keyless _)

theorem answerStaging_withholds (s : State) : Withholds s (answerStaging s) := by
  unfold answerStaging
  split
  · exact .refl s
  · refine Withholds.replyLater (.of_link ?_) (refuse_keyless _)
    split <;> rfl

/-! ## Start-up -/

theorem setPhase_withholds {s t : State} (p : StartPhase) (h : Withholds s t) : Withholds s (setPhase p t) :=
  h.trans (.of_link (setPhase_link ..))

theorem readFuses_link (s : State) : (readFuses s).link = s.link := by
  unfold readFuses
  dsimp only
  rw [apply_ite State.link, raiseLevel_link, ite_self, apply_ite State.link, raisePulse_link, ite_self]

theorem correctStore_link (s : State) : (correctStore s).link = s.link :=
  (foldl_work _ (fun _ _ => ((setEntry_only ..).trans (freeAtZero_only ..)).deadlineWork) _ s).link

theorem loseStore_link (s : State) : (loseStore s).link = s.link := raiseLevel_link ..

theorem endStartUp_link (s : State) : (endStartUp s).link = s.link := by
  unfold endStartUp
  dsimp only
  rw [apply_ite State.link, (runDeadlines_work ..).link, ite_self]
  rfl

/-! ## Every command -/

theorem execFrameEnd_withholds (rest : List Byte) (s : State) : ∃ t, execFrameEnd rest s = .next t ∧ Withholds s t := by
  refine ⟨_, rfl, ?_⟩
  split
  · exact .ite (endFrame_withholds ..)
  · exact .refl s

theorem execFrameTake_withholds (s : State) : ∃ t, execFrameTake s = .next t ∧ Withholds s t := by
  refine ⟨_, rfl, ?_⟩
  split
  · exact .ite (takeFrame_withholds ..)
  · exact .refl s

theorem execHoldRepeatTimer_withholds (s : State) : ∃ t, execHoldRepeatTimer s = .next t ∧ Withholds s t := by
  refine ⟨_, rfl, .ite ?_⟩
  split <;> exact .of_answers rfl

theorem execSendHold_withholds (s : State) : ∃ t, execSendHold s = .next t ∧ Withholds s t := by
  refine ⟨_, rfl, ?_⟩
  split
  · exact .ite (.of_answers rfl)
  · exact .refl s

theorem execSendExpire_withholds (s : State) : ∃ t, execSendExpire s = .next t ∧ Withholds s t := by
  refine ⟨_, rfl, ?_⟩
  split
  · exact .ite (sendExpireFor_withholds ..)
  · exact .refl s

/-- SEND_ANSWER takes the oldest answer out and leaves the others (09 R153). -/
theorem execSendAnswer_withholds (s : State) : ∃ t, execSendAnswer s = .next t ∧ Withholds s t := by
  refine ⟨_, rfl, ?_⟩
  split
  · rename_i a rest ha
    refine .ite (.of_subset ?_)
    rw [startSending_link_answers, ha]
    exact List.subset_cons_self a rest
  · exact .refl s

theorem execSendNotice_withholds (s : State) : ∃ t, execSendNotice s = .next t ∧ Withholds s t := by
  refine ⟨_, rfl, ?_⟩
  split
  · exact .ite (.of_answers rfl)
  · exact .refl s

theorem execTransmitFrameEnd_withholds (s : State) : ∃ t, execTransmitFrameEnd s = .next t ∧ Withholds s t := by
  refine ⟨_, rfl, ?_⟩
  split
  · exact .ite (finishSending_withholds ..)
  · exact .refl s

theorem execCrystalSecond_withholds (s : State) : ∃ t, execCrystalSecond s = .next t ∧ Withholds s t := by
  refine ⟨_, rfl, .of_link ?_⟩
  split
  · rw [tickBooth_link, countTrimYear_link]; rfl
  · rfl

theorem execMainClockSecond_withholds (deviation : Nat) (s : State) :
    ∃ t, execMainClockSecond deviation s = .next t ∧ Withholds s t := by
  refine ⟨_, rfl, .ite (.of_link ?_)⟩
  rw [measure_link, examineTestInterval_link, timeOutOpens_link]; rfl

theorem execPowerOn_withholds (s : State) : ∃ t, execPowerOn s = .next t ∧ Withholds s t := by
  refine ⟨_, rfl, ?_⟩
  split
  · exact .refl s
  · dsimp only
    split <;> exact .of_subset (List.nil_subset _)

theorem execResetLineAssert_withholds (s : State) : ∃ t, execResetLineAssert s = .next t ∧ Withholds s t := by
  refine ⟨_, rfl, ?_⟩
  split
  · exact .refl s
  · dsimp only
    split
    · exact .of_subset (List.nil_subset _)
    · exact .of_answers rfl

theorem execResetLineRelease_withholds (s : State) : ∃ t, execResetLineRelease s = .next t ∧ Withholds s t := by
  refine ⟨_, rfl, .ite ?_⟩
  dsimp only
  split
  · exact .of_subset (List.nil_subset _)
  · exact .of_answers rfl

theorem execRetainedCheck_withholds (damaged : Bool) (s : State) :
    ∃ t, execRetainedCheck damaged s = .next t ∧ Withholds s t := by
  refine ⟨_, rfl, .ite (setPhase_withholds _ (.of_link ?_))⟩
  split
  · exact correctStore_link s
  · exact loseStore_link s

theorem execRetainedLoss_withholds (s : State) : ∃ t, execRetainedLoss s = .next t ∧ Withholds s t := by
  refine ⟨_, rfl, ?_⟩
  split
  · exact .refl s
  · exact .of_answers rfl

/-- Every command but REWRAP_POSTING places no GRANTED answer with a detail. -/
theorem exec_withholds (c : Instr) (s : State) (hc : c ≠ .rewrapPosting) :
    ∃ t, exec c s = .next t ∧ Withholds s t := by
  cases c with
  | frameHeader dst src => exact ⟨_, rfl, .ite (judgeHeader_withholds dst src s)⟩
  | frameEnd rest => exact execFrameEnd_withholds rest s
  | holdRepeatTimer => exact execHoldRepeatTimer_withholds s
  | frameTake => exact execFrameTake_withholds s
  | unknownKind src tag kind body => exact ⟨_, rfl, .ite (settle_withholds ownUnknownKind_withholds _ s)⟩
  | status src tag body => exact requestRow_withholds .status src tag body s
  | parcelLoad src tag body => exact requestRow_withholds .parcelLoad src tag body s
  | parcelWithdraw src tag body => exact requestRow_withholds .parcelWithdraw src tag body s
  | parcelList src tag body => exact requestRow_withholds .parcelList src tag body s
  | openKeys src tag body => exact requestRow_withholds .openKeys src tag body s
  | close src tag body => exact requestRow_withholds .close src tag body s
  | extend src tag body => exact requestRow_withholds .extend src tag body s
  | grantList src tag body => exact requestRow_withholds .grantList src tag body s
  | timeTrim src tag body => exact requestRow_withholds .timeTrim src tag body s
  | timeSet src tag body => exact requestRow_withholds .timeSet src tag body s
  | stationEnrol src tag body => exact requestRow_withholds .stationEnrol src tag body s
  | stationRetire src tag body => exact requestRow_withholds .stationRetire src tag body s
  | stationSuspend src tag body => exact requestRow_withholds .stationSuspend src tag body s
  | stationResume src tag body => exact requestRow_withholds .stationResume src tag body s
  | stationRank src tag body => exact requestRow_withholds .stationRank src tag body s
  | stationList src tag body => exact requestRow_withholds .stationList src tag body s
  | modeKey src tag body => exact requestRow_withholds .modeKey src tag body s
  | modeChange src tag body => exact requestRow_withholds .modeChange src tag body s
  | settingWrite src tag body => exact requestRow_withholds .settingWrite src tag body s
  | settingRead src tag body => exact requestRow_withholds .settingRead src tag body s
  | zeroize src tag body => exact requestRow_withholds .zeroize src tag body s
  | noticeRead src tag body => exact requestRow_withholds .noticeRead src tag body s
  | noticeConfig src tag body => exact requestRow_withholds .noticeConfig src tag body s
  | selfTest src tag body => exact requestRow_withholds .selfTest src tag body s
  | restart src tag body => exact requestRow_withholds .restart src tag body s
  | crystalSecond => exact execCrystalSecond_withholds s
  | trimYearWrap => exact ⟨_, rfl, .ite (.of_answers rfl)⟩
  | mainClockSecond deviation => exact execMainClockSecond_withholds deviation s
  | driftRunLimit => exact ⟨_, rfl, .ite (.of_link (reachDriftLimit_link _))⟩
  | openWaitTimeout => exact ⟨_, rfl, .ite (.of_link (timeOutOpens_link s))⟩
  | periodicTestDue => exact ⟨_, rfl, .ite (.of_link (examineTestInterval_link s))⟩
  | engineArbiterChoice => exact ⟨_, rfl, .of_link (arbitrate_link _ s)⟩
  | katComplete pass => exact ⟨_, rfl, .of_link (completeKat_link pass s)⟩
  | verifyComplete done => exact ⟨_, rfl, .of_link (completeVerify_link s)⟩
  | rewrapComplete => exact ⟨_, rfl, .of_link (completeRewrap_link s)⟩
  | verifyPosting => exact ⟨_, rfl, .ite (postVerify_withholds s)⟩
  | rewrapPosting => exact absurd rfl hc
  | selfTestPosting => exact ⟨_, rfl, .ite (postSelfTest_withholds s)⟩
  | openAnswerDue => exact ⟨_, rfl, .ite (answerOpenDue_withholds s)⟩
  | stagingAnswerDue => exact ⟨_, rfl, .ite (answerStaging_withholds s)⟩
  | sendHold => exact execSendHold_withholds s
  | sendExpire => exact execSendExpire_withholds s
  | sendAnswer => exact execSendAnswer_withholds s
  | sendNotice => exact execSendNotice_withholds s
  | linkDown | linkUp => exact ⟨_, rfl, .of_answers rfl⟩
  | powerOn => exact execPowerOn_withholds s
  | powerLoss => exact ⟨_, rfl, .ite (.of_subset (List.nil_subset _))⟩
  | resetLineAssert => exact execResetLineAssert_withholds s
  | resetLineRelease => exact execResetLineRelease_withholds s
  | startUpBegin => exact ⟨_, rfl, .ite (.of_subset (List.nil_subset _))⟩
  | fuseLoad => exact ⟨_, rfl, .ite (setPhase_withholds _ (.of_link (readFuses_link s)))⟩
  | retainedCheck damaged => exact execRetainedCheck_withholds damaged s
  | clockCheck deviation => exact ⟨_, rfl, .ite (setPhase_withholds _ (.of_link (followLevel_link ..)))⟩
  | rebuild => exact ⟨_, rfl, .ite (setPhase_withholds _ (rebuildList_work ..).withholds)⟩
  | startUpEnd => exact ⟨_, rfl, .ite (.of_link (endStartUp_link s))⟩
  | transmitFrameEnd => exact execTransmitFrameEnd_withholds s
  | retainedLoss => exact execRetainedLoss_withholds s

/-- Settles O13: a GRANTED answer with a detail that was not there before is REWRAP_POSTING's. -/
theorem onlyPostingReleasesKeys : Obligations.OnlyPostingReleasesKeys := by
  intro c s t a hexec ha hcode hdetail
  by_cases hc : c = .rewrapPosting
  · exact .inr hc
  · obtain ⟨u, hu, hkept⟩ := exec_withholds c s hc
    obtain rfl := Host.Outcome.next.inj (hu.symm.trans hexec)
    exact .inl (hkept.earlier a ha hcode hdetail)

end Sys2Proof.Machine
end

section
/-! PROOFS. SELF_TEST and RESTART accepted, the wait limit and the periodic test, due answers (O44, O52, O57). -/

namespace Sys2Proof.Machine

/-! ## SELF_TEST and RESTART (05 R85, 11 R175) -/

/-- SELF_TEST past its checks is recorded as waiting, with nothing answered (05 R85). -/
theorem exec_selfTest {s : State} {src : Addr} {who : Sender} (h : ServedProgrammer s src who) (tag : Byte)
    (hmode : s.stations.mode = .service) (hbusy : selfTestBusy s = false) : exec (.selfTest src tag []) s =
      .next { s with arbiter := { s.arbiter with selfTest := some { addr := src, tag := tag } } } := by
  have hpass : ∀ c ∈ selfTestChecks who { src := src, kind := Kind.selfTest.value, tag := tag, body := [] } s,
      c.1 = false := by
    simp only [selfTestChecks, List.forall_mem_cons]
    exact ⟨sealedCheck_passed h.toServed, roleCheck_programmer h.role, suspendedCheck_passed h.enrolled,
      by simp [serviceOnly, hmode], by simp [lengthIs], hbusy, nofun⟩
  refine (exec_served h.toServed .selfTest tag []).trans (congrArg _ ?_)
  show ownSelfTest _ _ s = _
  rw [ownSelfTest, checked_of_passed hpass]

/-- RESTART past its checks is answered OK at once, in any state that takes requests (11 R175). -/
theorem exec_restart {s : State} {src : Addr} {who : Sender} (h : MayPost s) (hm : matchSource s src = some who)
    (hrole : who.role = .programming) (henrolled : who.isSuspended = false) (tag : Byte) :
    exec (.restart src tag []) s = .next (answered s src tag .restart .ok (restartDetail s.fuses.held)) := by
  have hpass : ∀ c ∈ restartChecks who { src := src, kind := Kind.restart.value, tag := tag, body := [] },
      c.1 = false := by
    simp only [restartChecks, List.forall_mem_cons]
    exact ⟨roleCheck_programmer hrole, suspendedCheck_passed henrolled, by simp [lengthIs], nofun⟩
  refine (exec_requestRow .restart src tag [] s).trans (congrArg _ ?_)
  rw [takeRequest_matched h hm]
  exact checked_of_passed hpass _ s

/-- Settles O44: both requests pass their checks. -/
theorem selfTestAndRestartAccepted : Obligations.SelfTestAndRestartAccepted :=
  ⟨fun _ tag _ _ h hmode hbusy => exec_selfTest h tag hmode hbusy,
    fun _ tag _ _ h hm hrole henrolled => exec_restart h hm hrole henrolled tag⟩

/-! ## The wait limit and the periodic test (05 R72, R79) -/

/-- Settles O52: with a place at its limit, without one, and the examination of TEST_INTERVAL. -/
theorem waitLimitAndPeriodicTest : Obligations.WaitLimitAndPeriodicTest := by
  intro s h
  have hawake : s.awake = true := awake_iff.mpr h
  have hwait : exec .openWaitTimeout s = .next (timeOutOpens s) := congrArg _ (if_pos hawake)
  have hkept : (s.openQueue.waiting.filter fun w => !timedOut s w) =
      s.openQueue.waiting.filter fun w => decide (s.clock.uptime - w.arrival < 30) :=
    List.filter_congr fun w _ => by simp only [timedOut, ← decide_not, Nat.not_le]
  refine ⟨fun hlate => ?_, fun hnone => ?_, ?_⟩
  · have hany : s.openQueue.waiting.any (timedOut s) = true := by simpa [timedOut] using hlate
    rw [hwait, timeOutOpens, if_pos hany, refuseWaiting, hkept]
    rfl
  · rw [hwait, timeOutOpens_of_none]
    exact List.filter_eq_nil_iff.mpr fun w hw => by simpa [timedOut] using hnone w hw
  · exact (congrArg Host.Outcome.next (if_pos hawake)).trans (congrArg _ (examineTestInterval_eq s))

/-! ## Due answers (05 R86, R71, 01 R8) -/

/-- The first staging place in ANSWER_DUE is the head, where the head is one. -/
theorem dueStaging_head {p : StagingPlace} {c : Code} (h : p.phase = .answerDue c) (rest : List StagingPlace) (i : Nat) :
    dueStaging (p :: rest) i = some (i, p, c) := by
  rw [dueStaging, h]

/-- A place in another phase is passed over. -/
theorem dueStaging_tail {p : StagingPlace} (h : ∀ c, p.phase ≠ .answerDue c) (rest : List StagingPlace) (i : Nat) :
    dueStaging (p :: rest) i = dueStaging rest (i + 1) := by
  rw [dueStaging]
  split
  · rename_i c hc
    exact absurd hc (h c)
  · rfl

/-- Settles O57: each posting is made, and takes what it answers out of its place. -/
theorem dueAnswersPlaced : Obligations.DueAnswersPlaced := by
  intro s h
  have htake : canTake s = true := canTake_of_mayPost h
  have hself : exec .selfTestPosting s = .next (postSelfTest s) := congrArg _ (if_pos htake)
  have hopen : exec .openAnswerDue s = .next (answerOpenDue s) := congrArg _ (if_pos htake)
  have hstaging : exec .stagingAnswerDue s = .next (answerStaging s) := congrArg _ (if_pos htake)
  refine ⟨fun who => ⟨fun hheld => ?_, fun hheld => ?_⟩, fun d rest hdue => ?_, fun p rest c hs hp => ?_,
    fun p q c hs hp hq => ?_⟩
  · rw [hself, postSelfTest, hheld]; rfl
  · rw [hself, postSelfTest, hheld]; rfl
  · rw [hopen, answerOpenDue, hdue]; rfl
  · rw [hstaging, answerStaging, hs, dueStaging_head hp]; rfl
  · rw [hstaging, answerStaging, hs, dueStaging_tail hp, dueStaging_head hq]; rfl

end Sys2Proof.Machine
end

section
/-! PROOFS. REWRAP_POSTING (O56). -/

namespace Sys2Proof.Machine

/-- The posting checks of 05 Table 5.7, where the record's station and entry are in use. -/
theorem rewrapRefusal_eq {r : Grant} {s : State} {st : Station} {e : ParcelEntry} (hst : s.station r.station = some st)
    (he : s.entry r.parcel = some e) : rewrapRefusal r s =
      if st.state = .suspended then some .suspended
      else if s.clock.timeState = .lost then some .noTime
      else if e.state = .withdrawn then some .withdrawn
      else if e.state = .lapsed then some .lapsed
      else if r.x ≤ s.clock.boothTime then some .expired
      else none := by
  have hsuspended : st.state ≠ .enrolled ↔ st.state = .suspended := by cases st.state <;> simp
  simp only [rewrapRefusal, hst, he, Option.map_some, ne_eq, Option.some.injEq, hsuspended, reduceCtorEq, or_false,
    State.now]
  congr

section

variable {s : State} {g : Nat} {copy : List (TrackId × Key)} {ks : List (TrackId × WrappedKey)} {r : Grant}
  {who : Requester}

/-- A held result whose OPENING record is there is refused or granted (05 R82, R83). -/
theorem postRewrap_opening (hheld : s.engine.held = some (.rewrapped g (s.grants.gens.getD g 0) copy ks))
    (hr : s.grant g = some r) (ho : r.state = .opening who) :
    (∀ c, rewrapRefusal r s = some c →
      postRewrap s = answered (freeGrant g (withoutResult s)) who.addr who.tag .openKeys c []) ∧
    (rewrapRefusal r s = none →
      postRewrap s = answered (commitGrant g r (withoutResult s)) who.addr who.tag .openKeys .granted
        (grantedDetail g r ks s)) := by
  refine ⟨fun c hc => ?_, fun hc => ?_⟩
  · simp only [postRewrap, hheld, hr, ho, hc, if_true]; rfl
  · simp only [postRewrap, hheld, hr, ho, hc, if_true]; rfl

/-- The record of a result that is refused is freed, with the engine as it was before. -/
theorem freeGrant_withoutResult (hr : s.grant g = some r) :
    ∃ t, freeGrant g (withoutResult s) = { t with engine := { s.engine with held := none } } ∧
      RecordFreed s t g r ∧ OnlyGrantsAndParcels s t := by
  have hfreed : RecordFreed (withoutResult s) (freeGrant g (withoutResult s)) g r := freeGrant_recordFreed hr
  have honly := freeGrant_only g (withoutResult s)
  have hengine : (freeGrant g (withoutResult s)).engine = { s.engine with held := none } := by rw [honly]; rfl
  refine ⟨{ freeGrant g (withoutResult s) with engine := s.engine }, ?_, { hfreed with }, ?_⟩
  · rw [← hengine]
  · unfold OnlyGrantsAndParcels at honly ⊢
    rw [honly]; rfl

end

/-- Settles O56: the refusals in their order, then the commit. -/
theorem rewrapPostingGrantsOrDiscards : Obligations.RewrapPostingGrantsOrDiscards := by
  intro s g gen copy ks r who st e h hheld hr ho hgen hst he
  subst hgen
  have hpost : exec .rewrapPosting s = .next (postRewrap s) := congrArg _ (if_pos (canTake_of_mayPost h))
  have hrefusal := rewrapRefusal_eq hst he
  obtain ⟨hrefused, hgranted⟩ := postRewrap_opening hheld hr ho
  refine ⟨fun hbad => ?_, fun henrolled hrunning hkeys hx => ?_⟩
  · obtain ⟨t, ht, hfreed, honly⟩ := freeGrant_withoutResult hr
    refine ⟨t, ?_, hfreed, honly⟩
    rw [hpost, ← ht, hrefused]
    rw [holdsKeys_eq_false] at hbad
    rw [hrefusal]
    split_ifs with hsuspended hlost hwithdrawn hlapsed hended
    · rfl
    · rfl
    · rfl
    · rfl
    · rfl
    · exact absurd hbad (by tauto)
  · have hstate : ¬(e.state = .lapsed ∨ e.state = .withdrawn) := by
      rw [← holdsKeys_eq_false, hkeys]; exact nofun
    obtain ⟨hlapsed, hwithdrawn⟩ := not_or.mp hstate
    rw [hpost, hgranted]
    · rfl
    · simp [hrefusal, henrolled, hrunning, hlapsed, hwithdrawn, hx]

end Sys2Proof.Machine
end

section
/-! PROOFS. The completions of KAT, VERIFY and REWRAP (O54). -/

namespace Sys2Proof.Machine

/-! ## A KAT that fails (05 R75, R84) -/

/-- A critical source whose condition begins raises FAULT with it (10 R163). -/
theorem raiseLevel_source_fault {n : Nat} {s : State} (hn : isCritical n = true) (h : (s.source n).status = false)
    (hlen : Src.fault < s.attention.sources.length) : ((raiseLevel n s).source Src.fault).status = true := by
  rw [raiseLevel, h, if_neg (by decide), if_pos hn]
  exact raiseOne_source_self (by rwa [raiseOne_sources_length])

/-- The state in which a KAT has failed and its refusals are made, ENGINE_FAULT not yet raised. -/
def faultBegun (s : State) : State :=
  { s with
    engine := { s.engine with faulted := true, job := none }
    openQueue := {
      waiting := []
      due := s.openQueue.due ++ s.openQueue.waiting.map (fun w => { who := w.who, code := .engineFault }) }
    store := { s.store with staging := s.store.staging.map fun p =>
      if p.phase = .waiting then { p with phase := .answerDue .engineFault } else p }
    arbiter := { s.arbiter with passOver := 0, lastKat := s.clock.uptime, testDue := false } }

theorem enterFault_endKat (s : State) : enterFault (endKat s) = raiseLevel Src.engineFault (faultBegun s) := by
  have hnone : s.openQueue.waiting.filter (fun _ => !true) = [] := List.filter_eq_nil_iff.mpr fun _ _ => nofun
  have hall : s.openQueue.waiting.filter (fun _ => true) = s.openQueue.waiting :=
    List.filter_eq_self.mpr fun _ _ => rfl
  simp only [enterFault, refuseWaiting, endKat, hnone, hall]
  rfl

theorem faultEntered_raised (s : State) : FaultEntered s (raiseLevel Src.engineFault (faultBegun s)) where
  faulted := by rw [raiseLevel_engine]; rfl
  job := by rw [raiseLevel_engine]; rfl
  opens := by rw [raiseLevel_openQueue]; rfl
  parcels := by rw [raiseLevel_store]; rfl
  arbiter := by rw [raiseLevel_arbiter]; rfl
  raised hlen :=
    ⟨raiseLevel_source_self (lt_of_lt_of_eq (by decide : Src.engineFault < 24) hlen.symm),
      fun hclear => raiseLevel_source_fault rfl hclear (lt_of_lt_of_eq (by decide : Src.fault < 24) hlen.symm)⟩
  rest := by rw [raiseLevel_frame]; rfl

/-- What stands beside a failed KAT: a result held, a notice raised, the window and the start-up moved on. -/
theorem FaultEntered.beside {s t u : State} (h : FaultEntered s t)
    (hu : u = { t with engine := { t.engine with held := u.engine.held }, attention := u.attention, clock := u.clock,
                       control := u.control })
    (hkept : ∀ n, (t.source n).status = true → (u.source n).status = true) : FaultEntered s u where
  faulted := by rw [hu]; exact h.faulted
  job := by rw [hu]; exact h.job
  opens := by rw [hu]; exact h.opens
  parcels := by rw [hu]; exact h.parcels
  arbiter := by rw [hu]; exact h.arbiter
  raised hlen := by
    obtain ⟨hengine, hfault⟩ := h.raised hlen
    exact ⟨hkept _ hengine, fun hclear => hkept _ (hfault hclear)⟩
  rest := by rw [hu, h.rest]

/-! ## The completions -/

section

variable {s : State}

/-- The periodic KAT (05 R75, R84). -/
theorem completeKat_periodic (h : s.engine.job = some (.kat .periodic)) :
    completeKat true s = endKat s ∧ completeKat false s = raiseLevel Src.engineFault (faultBegun s) := by
  refine ⟨?_, ?_⟩ <;> rw [completeKat, h]
  · rfl
  · exact enterFault_endKat s

/-- The KAT of a SELF_TEST (05 R86). -/
theorem completeKat_selfTest {who : Requester} (h : s.engine.job = some (.kat (.selfTest who))) :
    completeKat true s = raisePulse Src.selfTestDone (holdResult (.selfTestOk who) (leaveFault (endKat s))) ∧
    completeKat false s = raisePulse Src.selfTestDone
      (holdResult (.selfTestFailed who) (raiseLevel Src.engineFault (faultBegun s))) := by
  refine ⟨?_, ?_⟩ <;> rw [completeKat, h]
  · rfl
  · rw [← enterFault_endKat]; rfl

/-- The window of CLOCK_CHECK open, and its phase next (05 R87, 03 R41). -/
def clockCheckNext (sealing : Bool) (s : State) : State :=
  { s with
    clock := { s.clock with ticked := false }
    control := { s.control with phase := .clockCheck, sealing := sealing } }

/-- The start-up KAT (05 R87). -/
theorem completeKat_startUp (h : s.engine.job = some (.kat .startUp)) :
    completeKat true s = clockCheckNext s.control.sealing (endKat s) ∧
    completeKat false s = clockCheckNext true (raiseLevel Src.engineFault (faultBegun s)) := by
  refine ⟨?_, ?_⟩ <;> rw [completeKat, h]
  · simp only [Bool.not_true, Bool.or_false]; rfl
  · rw [← enterFault_endKat]
    simp only [Bool.not_false, Bool.or_true]; rfl

theorem raised_sources_length (hsrc : s.attention.sources.length = 24) :
    (raiseLevel Src.engineFault (faultBegun s)).attention.sources.length = 24 := by
  rw [raiseLevel_sources_length]; exact hsrc

/-- A periodic KAT that fails leaves held result, clock and start-up control. -/
theorem periodicKat_fails (h : s.engine.job = some (.kat .periodic)) :
    FaultEntered s (completeKat false s) ∧ (completeKat false s).engine.held = s.engine.held ∧
      (completeKat false s).control = s.control ∧ (completeKat false s).clock = s.clock := by
  rw [(completeKat_periodic h).2]
  exact ⟨faultEntered_raised s, by rw [raiseLevel_engine]; rfl, raiseLevel_control .., raiseLevel_clock ..⟩

/-- A SELF_TEST that passes ends a FAULT and holds OK (05 R86). -/
theorem selfTestKat_passes {who : Requester} (h : s.engine.job = some (.kat (.selfTest who))) :
    completeKat true s = { s with
      engine := { faulted := false, job := none, held := some (.selfTestOk who) }
      arbiter := { s.arbiter with lastKat := s.clock.uptime, testDue := false }
      attention := (completeKat true s).attention } ∧
    ((completeKat true s).source Src.engineFault).status = false ∧
    (s.attention.sources.length = 24 → ((completeKat true s).source Src.selfTestDone).status = true) := by
  rw [(completeKat_selfTest h).1]
  refine ⟨rfl, ?_, fun hsrc => raisePulse_source_self ?_⟩
  · rw [raisePulse_source_ne (by decide)]
    exact clearLevel_source_self Src.engineFault { endKat s with engine := { (endKat s).engine with faulted := false } }
  · show Src.selfTestDone < (clearLevel Src.engineFault _).attention.sources.length
    rw [clearLevel_sources_length]
    exact lt_of_lt_of_eq (by decide : Src.selfTestDone < 24) hsrc.symm

/-- A SELF_TEST that fails holds FAILED beside the FAULT (05 R84, R86). -/
theorem selfTestKat_fails {who : Requester} (h : s.engine.job = some (.kat (.selfTest who))) :
    FaultEntered s (completeKat false s) ∧ (completeKat false s).engine.held = some (.selfTestFailed who) ∧
      (completeKat false s).control = s.control ∧ (completeKat false s).clock = s.clock ∧
      (s.attention.sources.length = 24 → ((completeKat false s).source Src.selfTestDone).status = true) := by
  rw [(completeKat_selfTest h).2]
  refine ⟨(faultEntered_raised s).beside rfl fun n hn => raiseOne_source_status hn, rfl, raiseLevel_control ..,
    raiseLevel_clock .., fun hsrc => raisePulse_source_self ?_⟩
  exact lt_of_lt_of_eq (by decide : Src.selfTestDone < 24) (raised_sources_length hsrc).symm

/-- A start-up KAT that fails marks the start-up for sealing (05 R87, 11 R172). -/
theorem startUpKat_fails (h : s.engine.job = some (.kat .startUp)) :
    FaultEntered s (completeKat false s) ∧ (completeKat false s).engine.held = s.engine.held ∧
      (completeKat false s).control = { s.control with phase := .clockCheck, sealing := true } ∧
      (completeKat false s).clock = { s.clock with ticked := false } := by
  rw [(completeKat_startUp h).2]
  refine ⟨(faultEntered_raised s).beside rfl fun _ hn => hn, ?_, ?_, ?_⟩
  · show (raiseLevel Src.engineFault (faultBegun s)).engine.held = _
    rw [raiseLevel_engine]; rfl
  · rw [clockCheckNext, raiseLevel_control]; rfl
  · rw [clockCheckNext, raiseLevel_clock]; rfl

/-- A VERIFY completes on the head's parcel with the outcome its fields give (01 R10). -/
theorem completeVerify_head {p : StagingPlace} {rest : List StagingPlace} {secret : Key}
    (h : s.engine.job = some .verify) (hs : s.store.staging = p :: rest) (hsecret : s.fuses.held.siteSecret = some secret) :
    completeVerify s = { s with engine := { s.engine with
      job := none, held := some (verifyOutcome secret p.parcel) } } := by
  rw [completeVerify, h, hs, hsecret]; rfl

end

/-- Settles O54: each kind of job, its passes and its failures. -/
theorem jobsComplete : Obligations.JobsComplete := by
  intro s
  refine ⟨fun h => ⟨congrArg _ (completeKat_periodic h).1, _, rfl, periodicKat_fails h⟩,
    fun who h => ⟨⟨_, rfl, selfTestKat_passes h⟩, _, rfl, selfTestKat_fails h⟩,
    fun h => ⟨congrArg _ (completeKat_startUp h).1, _, rfl, startUpKat_fails h⟩,
    fun p rest secret h hs hsecret tag htag => ?_, fun g gen wk ks h => ?_⟩
  · have hverify := congrArg (Host.Outcome.next (φ := Fault) (ρ := Refusal)) (completeVerify_head h hs hsecret)
    subst htag
    refine ⟨fun ks hmatch hkeys => ?_, fun hbad => ?_⟩
    · rw [(verifyOutcome_pass secret p.parcel ks).mpr ⟨hmatch, hkeys⟩] at hverify
      exact hverify
    · rw [(verifyOutcome_fail secret p.parcel).mpr hbad] at hverify
      exact hverify
  · show Host.Outcome.next (completeRewrap s) = _
    rw [completeRewrap, h]

end Sys2Proof.Machine
end

section
/-! PROOFS. The arbiter's choice and the open it selects (O53). -/

namespace Sys2Proof.Machine

/-! ## The choice (05 R77, R81, R87) -/

section

variable {s : State}

theorem choose_busy (h : s.engine.job ≠ none ∨ s.engine.held ≠ none) : choose s = .nothing := by
  refine if_pos ?_
  simpa [Option.isSome_iff_ne_none] using h

theorem choose_sealed (h : s.control.service = .sealedOff) : choose s = .nothing := by
  rw [choose, h]
  exact ite_self _

/-- In STARTING the start-up KAT alone, in its phase (05 R87). -/
theorem choose_starting (h : s.control.service = .starting) :
    (s.control.phase = .engineTest → s.engine = { faulted := false, job := none, held := none } →
      choose s = .kat .startUp) ∧
    (s.control.phase ≠ .engineTest → choose s = .nothing) := by
  refine ⟨fun hp he => ?_, fun hp => ?_⟩
  · simp [choose, h, hp, he]
  · simp [choose, h, hp]

/-- In FAULT a waiting SELF_TEST alone (05 R85). -/
theorem choose_faulted (h : s.control.service = .operating)
    (he : s.engine = { faulted := true, job := none, held := none }) :
    (∀ who, s.arbiter.selfTest = some who → choose s = .kat (.selfTest who)) ∧
    (s.arbiter.selfTest = none → choose s = .nothing) := by
  refine ⟨fun who hw => ?_, fun hw => ?_⟩ <;> simp [choose, h, he, hw]

theorem choose_ready (h : s.control.service = .operating)
    (he : s.engine = { faulted := false, job := none, held := none }) : choose s = chooseReady s := by
  simp [choose, h, he]

/-! ## The order of the jobs (05 R77) -/

theorem chooseReady_selfTest {who : Requester} (h : s.arbiter.selfTest = some who) :
    chooseReady s = .kat (.selfTest who) := by
  rw [chooseReady, h]

/-- With no open WAITING, none is picked. -/
theorem pickWaiting_nil (h : s.openQueue.waiting = []) : pickWaiting s = none := by
  rw [pickWaiting, h]; rfl

/-- The head parcel, passed over four times or with nothing else to do (05 R77, R78). -/
theorem chooseReady_verify (hself : s.arbiter.selfTest = none) (hhead : headWaiting s = true)
    (h : s.arbiter.passOver = 4 ∨ (s.openQueue.waiting = [] ∧ s.arbiter.testDue = false)) :
    chooseReady s = .verify := by
  rcases h with hfour | ⟨hempty, hdue⟩
  · simp [chooseReady, hself, hhead, hfour]
  · simp [chooseReady, hself, hhead, pickWaiting_nil hempty, hdue]

theorem headNotUrgent (h : headWaiting s = false ∨ s.arbiter.passOver ≠ 4) :
    (headWaiting s && s.arbiter.passOver == 4) = false := by
  rwa [Bool.and_eq_false_iff, beq_eq_false_iff_ne]

theorem chooseReady_periodic (hself : s.arbiter.selfTest = none)
    (hurgent : headWaiting s = false ∨ s.arbiter.passOver ≠ 4) (hempty : s.openQueue.waiting = [])
    (hdue : s.arbiter.testDue = true) : chooseReady s = .kat .periodic := by
  simp [chooseReady, hself, headNotUrgent hurgent, pickWaiting_nil hempty, hdue]

theorem chooseReady_nothing (hself : s.arbiter.selfTest = none) (hhead : headWaiting s = false)
    (hempty : s.openQueue.waiting = []) (hdue : s.arbiter.testDue = false) : chooseReady s = .nothing := by
  simp [chooseReady, hself, hhead, pickWaiting_nil hempty, hdue]

theorem chooseReady_select (hself : s.arbiter.selfTest = none)
    (hurgent : headWaiting s = false ∨ s.arbiter.passOver ≠ 4) {i : Nat} {w : OpenReq}
    (hpick : pickWaiting s = some (i, w)) : chooseReady s = .select i w := by
  simp [chooseReady, hself, headNotUrgent hurgent, hpick]

end

/-! ## The place picked (05 R77 step 3) -/

/-- A fold that keeps one of its two arguments ends with the element that it takes over each before it and keeps
against each after it. -/
theorem foldl_pick_between {β : Type} {f : β → β → β} (hf : ∀ a b, f a b = a ∨ f a b = b) {x p : β} {l l₁ l₂ : List β}
    (hsplit : p :: l = l₁ ++ x :: l₂) (hbefore : ∀ y ∈ l₁, f y x = x) (hafter : ∀ y ∈ l₂, f x y = x) :
    l.foldl f p = x := by
  have hkeep : l₂.foldl f x = x := by
    clear hsplit
    induction l₂ with
    | nil => rfl
    | cons y l₂ ih =>
      rw [List.foldl_cons, hafter y List.mem_cons_self]
      exact ih fun z hz => hafter z (List.mem_cons_of_mem _ hz)
  cases l₁ with
  | nil =>
    obtain ⟨rfl, rfl⟩ := List.cons.inj hsplit
    exact hkeep
  | cons a l₁ =>
    obtain ⟨rfl, hl⟩ : p = a ∧ l = l₁ ++ x :: l₂ := List.cons.inj hsplit
    rw [hl, List.foldl_append, List.foldl_cons, hbefore _ (foldl_pick_mem hf p l₁), hkeep]

/-- Place `i`, which holds `w`, is the one of the highest rank, and of its rank the oldest. -/
def RankedFirst (s : State) (i : Nat) (w : OpenReq) : Prop :=
  ∀ j v, s.openQueue.waiting[j]? = some v → j ≠ i →
    rankOf s v.station < rankOf s w.station ∨ (rankOf s v.station = rankOf s w.station ∧ i < j)

theorem pickWaiting_first {s : State} {i : Nat} {w : OpenReq} (hi : s.openQueue.waiting[i]? = some w)
    (hfirst : RankedFirst s i w) : pickWaiting s = some (i, w) := by
  obtain ⟨hlt, hget⟩ := List.getElem?_eq_some_iff.mp hi
  have hlen : i < s.openQueue.waiting.zipIdx.length := by rwa [List.length_zipIdx]
  have hsplit : s.openQueue.waiting.zipIdx =
      s.openQueue.waiting.zipIdx.take i ++ (w, i) :: s.openQueue.waiting.zipIdx.drop (i + 1) := by
    conv_lhs => rw [← List.take_append_drop i s.openQueue.waiting.zipIdx, List.drop_eq_getElem_cons hlen]
    simp [hget]
  have hbefore : ∀ y ∈ s.openQueue.waiting.zipIdx.take i, rankOf s y.1.station < rankOf s w.station := by
    intro y hy
    obtain ⟨j, hj, rfl⟩ := List.mem_take_iff_getElem.mp hy
    have hji : j < i := (lt_min_iff.mp hj).1
    have := hfirst j s.openQueue.waiting[j] (List.getElem?_eq_getElem _) (by omega)
    simp only [List.getElem_zipIdx]
    omega
  have hafter : ∀ y ∈ s.openQueue.waiting.zipIdx.drop (i + 1), ¬rankOf s w.station < rankOf s y.1.station := by
    intro y hy
    obtain ⟨j, hj, rfl⟩ := List.mem_drop_iff_getElem.mp hy
    have hlt : i + 1 + j < s.openQueue.waiting.length := by simpa [Nat.add_comm] using hj
    have := hfirst (i + 1 + j) s.openQueue.waiting[i + 1 + j] (List.getElem?_eq_getElem _) (by omega)
    simp only [List.getElem_zipIdx]
    omega
  unfold pickWaiting
  split
  · rename_i hnil
    rw [hnil] at hlen
    exact absurd hlen (Nat.not_lt_zero _)
  · rename_i p l hl
    have hfold := foldl_pick_between (f := fun a b : OpenReq × Nat =>
      if rankOf s a.1.station < rankOf s b.1.station then b else a) (fun a b => by split <;> simp)
      (hl.symm.trans hsplit) (fun y hy => if_pos (hbefore y hy)) (fun y hy => if_neg (hafter y hy))
    exact congrArg (fun q : OpenReq × Nat => some (q.2, q.1)) hfold

/-! ## What the choice does (05 R77, R78, R80) -/

section

variable {s : State}

theorem exec_arbiter_nothing (h : choose s = .nothing) : exec .engineArbiterChoice s = .next s := by
  show Host.Outcome.next (arbitrate (_ + 1) s) = _
  rw [arbitrate, h]

theorem exec_arbiter_kat {cause : KatCause} (h : choose s = .kat cause) :
    exec .engineArbiterChoice s = .next (startKat cause s) := by
  show Host.Outcome.next (arbitrate (_ + 1) s) = _
  rw [arbitrate, h]

theorem exec_arbiter_verify (h : choose s = .verify) : exec .engineArbiterChoice s = .next (startVerify s) := by
  show Host.Outcome.next (arbitrate (_ + 1) s) = _
  rw [arbitrate, h]

/-- The state in which a selection is counted against the WAITING head (05 R78). -/
def passedOver (s : State) : State :=
  { s with arbiter := { s.arbiter with passOver :=
    (if headWaiting s then s.arbiter.passOver + 1 else s.arbiter.passOver) } }

theorem countPassOver_eq (s : State) : countPassOver s = passedOver s := by
  unfold countPassOver passedOver
  split <;> rfl

variable {i : Nat} {w : OpenReq}

theorem selectOpen_ok {g : Nat} {p : OpenPlan} (hplan : planOpen w s = .ok p) (hg : lowestFree s.grants.slots = some g) :
    selectOpen i w s = (startRewrap g w p (removeWaiting i s), true) := by
  simp only [selectOpen, hplan, hg]

theorem selectOpen_error {c : Code} (hplan : planOpen w s = .error c) :
    selectOpen i w s = (refusePlace i w c s, false) := by
  simp only [selectOpen, hplan]

/-- Steps 6 and 7 of 05 Table 5.6, where the plan's entry is in use. -/
theorem startRewrap_eq {g : Nat} {p : OpenPlan} {e : ParcelEntry} (he : s.entry p.parcel = some e) :
    startRewrap g w p s = { s with
      grants := { s.grants with slots := s.grants.slots.set g (some
        { state := .opening w.who, station := w.station, parcel := p.parcel, tracks := p.refs.map (fun r => r.track),
          q := p.q, r := w.runtime, x := p.x, used := 0 }) }
      store := { s.store with table := s.store.table.set p.parcel (some { e with grantCount := e.grantCount + 1 }) }
      engine := { s.engine with job := some (.rewrap g (s.grants.gens.getD g 0) p.wrapKey
        (p.refs.map fun r => (r.track, (slotGet s.store.keys r.slot).getD 0))) } } := by
  have hentry : ∀ o, (s.setGrant g o).entry p.parcel = some e := fun _ => he
  simp only [startRewrap, countUp, hentry]
  rfl

/-- A selection that finds a plan starts its REWRAP. -/
theorem exec_arbiter_opens {g : Nat} {p : OpenPlan} (h : choose s = .select i w) (hplan : planOpen w s = .ok p)
    (hg : lowestFree s.grants.slots = some g) :
    exec .engineArbiterChoice s = .next (startRewrap g w p (removeWaiting i (passedOver s))) := by
  have hselect : selectOpen i w (countPassOver s) = (startRewrap g w p (removeWaiting i (passedOver s)), true) := by
    rw [countPassOver_eq]; exact selectOpen_ok hplan hg
  show Host.Outcome.next (arbitrate (_ + 1) s) = _
  rw [arbitrate, h]
  simp only [hselect, if_true]

/-- A selection that refuses is as if its place had been refused before the choice (05 R77). -/
theorem exec_arbiter_refuses {c : Code} (h : choose s = .select i w) (hplan : planOpen w s = .error c) :
    exec .engineArbiterChoice s = exec .engineArbiterChoice (refusePlace i w c (passedOver s)) := by
  have hselect : selectOpen i w (countPassOver s) = (refusePlace i w c (passedOver s), false) := by
    rw [countPassOver_eq]; exact selectOpen_error hplan
  have hlen : (refusePlace i w c (passedOver s)).openQueue.waiting.length + 1 = s.openQueue.waiting.length :=
    List.length_eraseIdx_add_one (List.getElem?_eq_some_iff.mp (choose_select h).1).1
  show Host.Outcome.next (arbitrate (_ + 1) s) = Host.Outcome.next (arbitrate (_ + 1) _)
  rw [hlen, arbitrate, h]
  simp only [hselect, Bool.false_eq_true, if_false]

end

end Sys2Proof.Machine
end

section
/-! PROOFS. Parcel selection, the plan of an open, and O53. -/

namespace Sys2Proof.Machine

/-! ## The narrowing steps (02 R28, Table 2.4) -/

/-- The condition of one narrowing step, as the arbiter evaluates it. -/
def narrowsBy (st : Station) (w : OpenReq) (q : Nat) (e : ParcelEntry) : Nat → Bool
  | 1 => e.feature == w.feature && e.screens.contains st.fingerprint
  | 2 => e.holdsKeys
  | 3 => e.ss ≤ q
  | 4 => q < e.es
  | 5 => w.tracks.all fun t => e.refs.any fun r => r.track == t
  | _ => true

theorem narrowsBy_iff (st : Station) (w : OpenReq) (q : Nat) (e : ParcelEntry) :
    ∀ n, narrowsBy st w q e n = true ↔ narrows st w q e n
  | 0 => ⟨fun _ => trivial, fun _ => rfl⟩
  | 1 => by simp [narrowsBy, narrows]
  | 2 => by simp [narrowsBy, narrows, ParcelEntry.holdsKeys]
  | 3 => decide_eq_true_iff
  | 4 => decide_eq_true_iff
  | 5 => by simp [narrowsBy, narrows]
  | _ + 6 => ⟨fun _ => trivial, fun _ => rfl⟩

/-- The candidates that are left after the first `n` steps, with their places in ascending order. -/
def candidates (s : State) (st : Station) (w : OpenReq) (q : Nat) : Nat → List (Nat × ParcelEntry)
  | 0 => listUsed s.store.table
  | n + 1 => (candidates s st w q n).filter fun p => narrowsBy st w q p.2 (n + 1)

section

variable {s : State} {st : Station} {w : OpenReq} {q : Nat}

theorem mem_candidates {n : Nat} {p : Nat × ParcelEntry} :
    p ∈ candidates s st w q n ↔ LeftAfter s st w q n p.1 p.2 := by
  induction n with
  | zero =>
    have hzero : ∀ m ≤ 0, narrows st w q p.2 m := fun m hm => by
      obtain rfl := Nat.le_zero.mp hm
      trivial
    exact mem_listUsed.trans ⟨fun h => ⟨h, hzero⟩, fun h => h.1⟩
  | succ n ih =>
    have hlast : (∀ m ≤ n + 1, narrows st w q p.2 m) ↔
        (∀ m ≤ n, narrows st w q p.2 m) ∧ narrows st w q p.2 (n + 1) := by
      simp only [Nat.le_succ_iff, or_imp, forall_and, forall_eq]
    rw [candidates, List.mem_filter, ih, narrowsBy_iff]
    unfold LeftAfter
    rw [hlast, and_assoc]

theorem candidates_ascending (n : Nat) : (candidates s st w q n).Pairwise fun x y => x.1 < y.1 := by
  induction n with
  | zero => exact listUsed_ascending _
  | succ n ih => exact ih.filter _

theorem candidates_eq_nil {n : Nat} : candidates s st w q n = [] ↔ ∀ i e, ¬LeftAfter s st w q n i e := by
  rw [List.eq_nil_iff_forall_not_mem]
  exact ⟨fun h i e hl => h (i, e) (mem_candidates.mpr hl), fun h p hp => h p.1 p.2 (mem_candidates.mp hp)⟩

theorem candidates_ne_nil {m n i : Nat} {e : ParcelEntry} (hmn : m ≤ n) (h : LeftAfter s st w q n i e) :
    candidates s st w q m ≠ [] :=
  List.ne_nil_of_mem (a := (i, e)) (mem_candidates.mpr ⟨h.1, fun k hk => h.2 k (hk.trans hmn)⟩)

/-- The step that leaves no candidate, the steps before it having left some. -/
theorem LostAt.candidates {n : Nat} (h : LostAt s st w q n) :
    candidates s st w q n = [] ∧ ∀ m, 1 ≤ m → m < n → candidates s st w q m ≠ [] := by
  obtain ⟨hnone, hsome⟩ := h
  refine ⟨candidates_eq_nil.mpr hnone, fun m hm hmn => ?_⟩
  rcases hsome with rfl | ⟨i, e, hl⟩
  · omega
  · exact candidates_ne_nil (by omega) hl

/-- The selection, by the candidates that each step leaves. -/
theorem selectParcel_eq : selectParcel s.store.table st.fingerprint w.feature q w.tracks =
    if candidates s st w q 1 = [] then .error .noParcel
    else if candidates s st w q 2 = [] then .error .lapsed
    else if candidates s st w q 3 = [] then .error .notYet
    else if candidates s st w q 4 = [] then .error .pastWindow
    else (chooseEntry (candidates s st w q 5)).elim (.error .noTrack) .ok := by
  simp only [← List.isEmpty_iff]
  unfold selectParcel
  extract_lets c1 c2 c3 c4 c5
  have h1 : candidates s st w q 1 = c1 := rfl
  have h2 : candidates s st w q 2 = c2 := rfl
  have h3 : candidates s st w q 3 = c3 := rfl
  have h4 : candidates s st w q 4 = c4 := rfl
  have h5 : candidates s st w q 5 = c5 := rfl
  rw [h1, h2, h3, h4, h5]
  cases chooseEntry c5 <;> rfl

/-- The code of the step that leaves no candidate (02 Table 2.4). -/
theorem selectParcel_lost :
    (LostAt s st w q 1 → selectParcel s.store.table st.fingerprint w.feature q w.tracks = .error .noParcel) ∧
    (LostAt s st w q 2 → selectParcel s.store.table st.fingerprint w.feature q w.tracks = .error .lapsed) ∧
    (LostAt s st w q 3 → selectParcel s.store.table st.fingerprint w.feature q w.tracks = .error .notYet) ∧
    (LostAt s st w q 4 → selectParcel s.store.table st.fingerprint w.feature q w.tracks = .error .pastWindow) ∧
    (LostAt s st w q 5 → selectParcel s.store.table st.fingerprint w.feature q w.tracks = .error .noTrack) := by
  rw [selectParcel_eq]
  refine ⟨fun h => ?_, fun h => ?_, fun h => ?_, fun h => ?_, fun h => ?_⟩ <;>
    obtain ⟨hnil, hbefore⟩ := h.candidates
  · rw [if_pos hnil]
  · rw [if_neg (hbefore 1 le_rfl (by decide)), if_pos hnil]
  · rw [if_neg (hbefore 1 le_rfl (by decide)), if_neg (hbefore 2 (by decide) (by decide)), if_pos hnil]
  · rw [if_neg (hbefore 1 le_rfl (by decide)), if_neg (hbefore 2 (by decide) (by decide)),
      if_neg (hbefore 3 (by decide) (by decide)), if_pos hnil]
  · rw [if_neg (hbefore 1 le_rfl (by decide)), if_neg (hbefore 2 (by decide) (by decide)),
      if_neg (hbefore 3 (by decide) (by decide)), if_neg (hbefore 4 (by decide) (by decide)), hnil]
    rfl

/-- The entry that 02 R30 names is chosen. -/
theorem chooseEntry_chosen {i : Nat} {e : ParcelEntry} (h : Chosen s st w q i e) :
    chooseEntry (candidates s st w q 5) = some (i, e) := by
  obtain ⟨hleft, hfirst⟩ := h
  have hmem : (i, e) ∈ candidates s st w q 5 := mem_candidates.mpr hleft
  have hsort := candidates_ascending (s := s) (st := st) (w := w) (q := q) 5
  have hbest : ∀ p ∈ candidates s st w q 5, p.1 ≠ i →
      selectBefore p.2 e = false ∧ (p.1 < i → selectBefore e p.2 = true) := by
    intro p hp hpi
    have := hfirst p.1 p.2 (mem_candidates.mp hp) hpi
    simp only [selectBefore, Bool.or_eq_false_iff, Bool.and_eq_false_iff, Bool.or_eq_true, Bool.and_eq_true,
      decide_eq_true_eq, decide_eq_false_iff_not, beq_iff_eq, beq_eq_false_iff_ne]
    omega
  generalize candidates s st w q 5 = l at hmem hsort hbest
  cases l with
  | nil => exact absurd hmem List.not_mem_nil
  | cons a l => exact congrArg some (foldl_best hmem hsort hbest)

theorem selectParcel_chosen {i : Nat} {e : ParcelEntry} (h : Chosen s st w q i e) :
    selectParcel s.store.table st.fingerprint w.feature q w.tracks = .ok (i, e) := by
  have hleft := h.1
  rw [selectParcel_eq, chooseEntry_chosen h, if_neg (candidates_ne_nil (by decide) hleft),
    if_neg (candidates_ne_nil (by decide) hleft), if_neg (candidates_ne_nil (by decide) hleft),
    if_neg (candidates_ne_nil (by decide) hleft)]
  rfl

/-! ## The plan (05 Table 5.6) -/

/-- The guards before the selection (05 Table 5.6, 04 R56). -/
theorem planOpen_guards (hst : s.station w.station = some st) :
    (st.state = .suspended → planOpen w s = .error .suspended) ∧
    (st.state = .enrolled → s.clock.timeState = .lost → planOpen w s = .error .noTime) ∧
    (st.state = .enrolled → s.clock.timeState = .running →
      effectiveStart w.planned s.now s.stations.settings.prep s.stations.settings.late = none →
      planOpen w s = .error .tooEarly) := by
  refine ⟨fun hsuspended => ?_, fun henrolled hlost => ?_, fun henrolled hrunning hearly => ?_⟩
  · simp [planOpen, hst, hsuspended]
  · simp [planOpen, hst, henrolled, hlost]
  · simp [planOpen, hst, henrolled, hrunning, hearly]

/-- An open past the guards: its station, and the effective start of 04 R55. -/
structure PastGuards (s : State) (w : OpenReq) (st : Station) (q : Nat) : Prop where
  station : s.station w.station = some st
  enrolled : st.state = .enrolled
  running : s.clock.timeState = .running
  start : effectiveStart w.planned s.now s.stations.settings.prep s.stations.settings.late = some q

theorem PastGuards.refused (h : PastGuards s w st q) {c : Code}
    (hselect : selectParcel s.store.table st.fingerprint w.feature q w.tracks = .error c) :
    planOpen w s = .error c := by
  simp [planOpen, h.station, h.enrolled, h.running, h.start, hselect]

/-- The plan for the entry that is chosen, by its span end (04 R58). -/
theorem PastGuards.planned (h : PastGuards s w st q) {i : Nat} {e : ParcelEntry}
    (hselect : selectParcel s.store.table st.fingerprint w.feature q w.tracks = .ok (i, e)) :
    (spanEnd q w.runtime s.stations.settings.overrun s.now e.es s.stations.settings.tail = none →
      planOpen w s = .error .windowClosed) ∧
    ∀ x, spanEnd q w.runtime s.stations.settings.overrun s.now e.es s.stations.settings.tail = some x →
      planOpen w s = .ok
        { parcel := i, refs := releasedRefs e w.tracks, wrapKey := st.wrapKey.getD 0, q := q, x := x } := by
  refine ⟨fun hclosed => ?_, fun x hx => ?_⟩
  · simp [planOpen, h.station, h.enrolled, h.running, h.start, hselect, hclosed]
  · simp [planOpen, h.station, h.enrolled, h.running, h.start, hselect, hx]

theorem releasedRefs_eq (e : ParcelEntry) (tracks : List TrackId) : releasedRefs e tracks =
    if tracks = [] then e.refs else tracks.filterMap fun k => e.refs.find? fun r => r.track == k := by
  simp only [releasedRefs, List.isEmpty_iff]

end

/-- The span end with its cap named (04 R58). -/
theorem spanEnd_eq {q r extra now es tail cap : Nat} (hcap : cap = min (es + tail) 4294967295) :
    (cap ≤ now → spanEnd q r extra now es tail = none) ∧
    (now < cap → spanEnd q r extra now es tail =
      some (min (max (min (q + r + extra) 4294967295) (min (now + 60) 4294967295)) cap)) := by
  have hsum : satAdd (satAdd q r) extra = min (q + r + extra) 4294967295 := by
    unfold satAdd maxCount; omega
  have hcap' : satAdd es tail = cap := hcap.symm
  unfold spanEnd
  rw [hsum, hcap']
  exact ⟨fun h => if_pos h, fun h => if_neg (Nat.not_le.mpr h)⟩

/-! ## O53 -/

/-- Settles O53: the choice by service state and engine, then in the order of 05 R77; the selection by its steps. -/
theorem arbiterOrder : Obligations.ArbiterOrder := by
  refine ⟨fun s hop he => ?_, fun s hstart => ?_, fun s hidle => ?_,
    fun s hop he => ⟨fun who hwho => ?_, fun hself => ⟨fun p rest hs hp hverify => ?_, fun hempty hdue hhead => ?_,
      fun hempty hdue hurgent => ?_, fun hurgent i w p g e hi hfirst hplan hg hentry => ?_,
      fun hurgent i w c hi hfirst hplan => ?_⟩, fun w st => planOpen_guards, fun w st q hst henrolled hrunning hq => ?_⟩⟩
  · obtain ⟨hkat, hnone⟩ := choose_faulted hop he
    exact ⟨fun who hwho => exec_arbiter_kat (hkat who hwho), fun hself => exec_arbiter_nothing (hnone hself)⟩
  · obtain ⟨hkat, hnone⟩ := choose_starting hstart
    exact ⟨fun hp he => exec_arbiter_kat (hkat hp he), fun hp => exec_arbiter_nothing (hnone hp)⟩
  · rcases hidle with hsealed | hbusy
    · exact exec_arbiter_nothing (choose_sealed hsealed)
    · exact exec_arbiter_nothing (choose_busy hbusy)
  · exact exec_arbiter_kat ((choose_ready hop he).trans (chooseReady_selfTest hwho))
  · have hhead : headWaiting s = true := by simp [headWaiting, hs, hp]
    rw [exec_arbiter_verify ((choose_ready hop he).trans (chooseReady_verify hself hhead hverify)), startVerify, hs]
    rfl
  · exact exec_arbiter_nothing ((choose_ready hop he).trans (chooseReady_nothing hself hhead hempty hdue))
  · exact exec_arbiter_kat ((choose_ready hop he).trans (chooseReady_periodic hself hurgent hempty hdue))
  · rw [exec_arbiter_opens
      ((choose_ready hop he).trans (chooseReady_select hself hurgent (pickWaiting_first hi hfirst))) hplan hg,
      startRewrap_eq (s := removeWaiting i (passedOver s)) hentry]
    rfl
  · exact exec_arbiter_refuses
      ((choose_ready hop he).trans (chooseReady_select hself hurgent (pickWaiting_first hi hfirst))) hplan
  · have hpast : PastGuards s w st q := ⟨hst, henrolled, hrunning, hq⟩
    obtain ⟨h1, h2, h3, h4, h5⟩ := selectParcel_lost (s := s) (st := st) (w := w) (q := q)
    refine ⟨fun h => hpast.refused (h1 h), fun h => hpast.refused (h2 h), fun h => hpast.refused (h3 h),
      fun h => hpast.refused (h4 h), fun h => hpast.refused (h5 h), fun i e hchosen cap hcap => ?_⟩
    obtain ⟨hclosed, hopens⟩ := hpast.planned (selectParcel_chosen hchosen)
    obtain ⟨hnone, hsome⟩ := spanEnd_eq (q := q) (r := w.runtime) (extra := s.stations.settings.overrun)
      (now := s.clock.boothTime) hcap
    rw [← releasedRefs_eq]
    exact ⟨fun h => hclosed (hnone h), fun h => hopens _ (hsome h)⟩

end Sys2Proof.Machine
end

section
/-! PROOFS. CLOSE (O32). -/

namespace Sys2Proof.Machine

variable {src : Addr} {tag : Byte} {body : List Byte} {s : State} {slot : Nat} {st : Station} {r : Grant}

/-! ## The record a handle names (06 R96) -/

/-- A record that is not OPENING is named by its station's handle with its slot's generation. -/
theorem namedGrant_held {who : Sender} {g : Handle} (hr : s.grant g.slot = some r) (hheld : ∀ q, r.state ≠ .opening q)
    (hgen : s.grants.gens.getD g.slot 0 = g.gen) (hwho : who.slot = some r.station) :
    namedGrant who g s = some r := by
  simp only [namedGrant, hr]
  cases hstate : r.state with
  | opening q => exact absurd hstate (hheld q)
  | opened | expiring => exact if_pos ⟨hgen, hwho⟩

/-- Another station's record, one of another generation, and one that is OPENING are not named. -/
theorem namedGrant_none {g : Handle} (h : ∀ r, s.grant g.slot = some r →
      r.station ≠ slot ∨ s.grants.gens.getD g.slot 0 ≠ g.gen ∨ ∃ q, r.state = .opening q) :
    namedGrant (.station slot st) g s = none := by
  cases hr : s.grant g.slot with
  | none => simp only [namedGrant, hr]
  | some r =>
    simp only [namedGrant, hr]
    have hother : (∀ q, r.state ≠ .opening q) →
        ¬(s.grants.gens.getD g.slot 0 = g.gen ∧ (Sender.station slot st).slot = some r.station) := by
      rintro hheld ⟨hgen, hslot⟩
      rcases h r hr with hstation | hstale | ⟨q, hq⟩
      · exact hstation (Option.some.inj hslot).symm
      · exact hstale hgen
      · exact hheld q hq
    cases hstate : r.state with
    | opening q => rfl
    | opened | expiring => exact if_neg (hother (by simp [hstate]))

/-! ## CLOSE -/

/-- A check that passes leaves the request to the checks after it. -/
theorem checked_cons_passed {c : Bool × Reply} (h : c.1 = false) (f : Frame) (cs : List (Bool × Reply))
    (act : State → State) (s : State) : checked f (c :: cs) act s = checked f cs act s := by
  obtain ⟨b, r⟩ := c
  obtain rfl : b = false := h
  rfl

/-- Of an ENROLLED screen's CLOSE only the check of its handle can fail (06 R95). -/
theorem exec_close (h : ServedScreen s src slot st) (hb : body.length = 2) : exec (.close src tag body) s =
    .next (checked { src := src, kind := Kind.close.value, tag := tag, body := body }
      [((namedGrant (.station slot st) (handleAt body 0) s).isNone, refuse .unknownGrant)]
      (closeGrant (.station slot st) { src := src, kind := Kind.close.value, tag := tag, body := body }) s) := by
  refine (exec_served h.toServed .close tag body).trans (congrArg _ ?_)
  show checked _ (closeChecks _ _ s) _ s = _
  rw [closeChecks, checked_cons_passed (sealedCheck_passed h.toServed),
    checked_cons_passed (roleCheck_screen (who := .station slot st) h.role),
    checked_cons_passed (suspendedCheck_passed h.notSuspended), checked_cons_passed (by simp [lengthIs, hb])]

/-- A CLOSE that names no record changes nothing (06 R96). -/
theorem exec_close_unknown (h : ServedScreen s src slot st) (hb : body.length = 2)
    (hn : namedGrant (.station slot st) (handleAt body 0) s = none) :
    exec (.close src tag body) s = .next (answered s src tag .close .unknownGrant []) := by
  rw [exec_close h hb, hn]; rfl

/-- A CLOSE that names a record frees it and answers as its state asks (06 R97, R98). -/
theorem exec_close_frees (h : ServedScreen s src slot st) (hb : body.length = 2)
    (hn : namedGrant (.station slot st) (handleAt body 0) s = some r) :
    ∃ t, exec (.close src tag body) s = .next (answered t src tag .close (closeReply (handleAt body 0) r).code
        (closeReply (handleAt body 0) r).detail) ∧
      RecordFreed s t (num body 0 1) r ∧ OnlyGrantsAndParcels s t := by
  refine ⟨freeGrant (num body 0 1) s, ?_, freeGrant_recordFreed (namedGrant_some hn), freeGrant_only ..⟩
  rw [exec_close h hb, checked_cons_passed (by simp [hn]), checked_nil]
  simp only [closeGrant, hn, reply_eq_answered]
  rfl

theorem closeReply_opened (g : Handle) (h : r.state = .opened) :
    closeReply g r = { code := .ok, detail := g.bytes ++ beBytes 4 r.x } := by simp only [closeReply, h]

theorem closeReply_expiring (g : Handle) {why : Reason} (h : r.state = .expiring why) :
    closeReply g r = { code := .expired, detail := g.bytes ++ [why.value] ++ beBytes 4 r.x } := by
  simp only [closeReply, h, expiredReply]

/-- Settles O32: the handle names the record or none; the named one is freed, with the answer of its state. -/
theorem closeFreesTheRecord : Obligations.CloseFreesTheRecord := by
  intro src tag body s slot st h hb
  refine ⟨fun r hr hstation hgen => ?_, fun hnone => ?_⟩
  · have hfrees : (∀ q, r.state ≠ .opening q) → ∃ t, exec (.close src tag body) s = .next (answered t src tag .close
        (closeReply (handleAt body 0) r).code (closeReply (handleAt body 0) r).detail) ∧
        RecordFreed s t (num body 0 1) r ∧ OnlyGrantsAndParcels s t := fun hheld =>
      exec_close_frees h hb (namedGrant_held hr hheld hgen (congrArg some hstation.symm))
    refine ⟨fun hopen => ?_, fun why hwhy => ?_⟩
    · rw [closeReply_opened _ hopen] at hfrees
      exact hfrees (by simp [hopen])
    · rw [closeReply_expiring _ hwhy] at hfrees
      exact hfrees (by simp [hwhy])
  · exact exec_close_unknown h hb (namedGrant_none hnone)

end Sys2Proof.Machine
end

section
/-! PROOFS. The expire list and the SPAN_ENDs (O9): the relation `SpansKept`, with the rules for work that leaves the
grant table, for work on one slot, and for records that expire. -/

namespace Sys2Proof.Machine

/-! ## What a command keeps -/

/-- Work that keeps the expire list that of the EXPIRING records, and each OPEN record with its SPAN_END (06 R104,
07 R112). -/
structure SpansKept (s t : State) : Prop where
  expiry : ExpiryListed s → ExpiryListed t
  spans : SpansListed s → SpansListed t

theorem SpansKept.trans {s t u : State} (h : SpansKept s t) (k : SpansKept t u) : SpansKept s u :=
  ⟨k.expiry ∘ h.expiry, k.spans ∘ h.spans⟩

/-- As `SpansKept`, for work that counts on there being no grant in STARTING and in SERVICE (06 R110, 08 R141). -/
structure SpansKeptCounted (s t : State) : Prop where
  expiry : ExpiryListed s → ExpiryListed t
  spans : GrantsCounted s → SpansListed s → SpansListed t

theorem SpansKept.counted {s t : State} (h : SpansKept s t) : SpansKeptCounted s t := ⟨h.expiry, fun _ => h.spans⟩

theorem SpansKeptCounted.after {s t u : State} (h : SpansKept s t) (hc : Orderly s t) (k : SpansKeptCounted t u) :
    SpansKeptCounted s u :=
  ⟨k.expiry ∘ h.expiry, fun c hs => k.spans (hc.counts c) (h.spans hs)⟩

theorem SpansKeptCounted.followed {s t u : State} (h : SpansKeptCounted s t) (k : SpansKept t u) :
    SpansKeptCounted s u :=
  ⟨k.expiry ∘ h.expiry, fun c hs => k.spans (h.spans c hs)⟩

/-! ## Work that leaves the grant table -/

theorem State.grant_congr {s t : State} (h : t.grants = s.grants) (g : Nat) : t.grant g = s.grant g := by
  unfold State.grant; rw [h]

theorem isExpiring_congr {s t : State} {g : Nat} (h : t.grant g = s.grant g) : isExpiring t g ↔ isExpiring s g := by
  unfold isExpiring; rw [h]

/-- With the grant table as it was and no SPAN_END added, the expire list stays as it should. -/
theorem ExpiryListed.of_grants {s t : State} (h : ExpiryListed s) (hg : t.grants = s.grants)
    (hd : ∀ d ∈ t.deadlines, d.kind = .spanEnd → d ∈ s.deadlines) : ExpiryListed t where
  once := hg ▸ h.once
  exact g := by rw [isExpiring_congr (State.grant_congr hg g), hg]; exact h.exact g
  spans d ht hk := by rw [State.grant_congr hg]; exact h.spans d (hd d ht hk) hk

/-- Work that leaves the grant table and every SPAN_END, starts no time and does not end STARTING. -/
theorem SpansKept.of_grants {s t : State} (hg : t.grants = s.grants)
    (hd : ∀ d, d.kind = .spanEnd → (d ∈ t.deadlines ↔ d ∈ s.deadlines))
    (hrun : t.clock.timeState = .running → s.clock.timeState = .running)
    (hservice : t.control.service ≠ .starting → s.control.service ≠ .starting) : SpansKept s t where
  expiry h := h.of_grants hg fun d hm hk => (hd d hk).mp hm
  spans h ht hs g r hr hopen :=
    (hd _ rfl).mpr (h (hrun ht) (hservice hs) g r ((State.grant_congr hg g).symm.trans hr) hopen)

/-- What of the state the expire list and the SPAN_ENDs are judged by. -/
def spanView (s : State) : GrantTable × List Deadline × TimeState × Service :=
  (s.grants, s.deadlines, s.clock.timeState, s.control.service)

theorem SpansKept.of_view {s t : State} (h : spanView t = spanView s) : SpansKept s t := by
  simp only [spanView, Prod.mk.injEq] at h
  obtain ⟨hgrants, hdeadlines, htime, hservice⟩ := h
  exact .of_grants hgrants (fun d _ => hdeadlines ▸ Iff.rfl) (fun ht => htime ▸ ht) fun hs => hservice ▸ hs

theorem SpansKept.refl (s : State) : SpansKept s s := .of_view rfl

/-- Work on parcels that leaves every SPAN_END. -/
theorem OnlyParcels.spansKept {s t : State} (h : OnlyParcels s t)
    (hd : ∀ d, d.kind = .spanEnd → (d ∈ t.deadlines ↔ d ∈ s.deadlines)) : SpansKept s t :=
  .of_grants h.grants hd (fun ht => h.deadlineWork.clock ▸ ht) fun hs => h.deadlineWork.control ▸ hs

/-- Where no record is, every OPEN record has its SPAN_END. -/
theorem NoGrants.spansListed {s : State} (h : NoGrants s) : SpansListed s :=
  fun _ _ g _ hr _ => nomatch (h g).symm.trans hr

/-- The grant table, the expire list and the Deadline List are emptied together. -/
theorem SpansKept.of_cleared {s t : State} (hn : NoGrants t) (hl : t.grants.expireList = []) (hd : t.deadlines = []) :
    SpansKept s t where
  expiry _ :=
    { once := by rw [hl]; exact List.nodup_nil
      exact := fun g => by
        rw [hl]
        exact ⟨nofun, fun ⟨_, _, hr, _⟩ => nomatch (hn g).symm.trans hr⟩
      spans := fun d hm => by rw [hd] at hm; exact nomatch hm }
  spans _ := hn.spansListed

/-- A deadline of a parcel entry is inserted. -/
theorem addDeadline_spansKept {q : Deadline} (hq : q.kind ≠ .spanEnd) (s : State) : SpansKept s (addDeadline q s) := by
  refine .of_grants rfl (fun d hk => ?_) id id
  rw [addDeadline_deadlines, mem_insertDeadline]
  exact or_iff_right fun h => hq (h ▸ hk)

theorem setEntryState_spansKept (i : Nat) (st : ParcelState) (s : State) : SpansKept s (setEntryState i st s) :=
  (setEntryState_only i st s).spansKept fun _ _ => by rw [setEntryState_deadlines]

theorem lapseEntry_spansKept (i : Nat) (s : State) : SpansKept s (lapseEntry i s) :=
  (lapseEntry_only i s).spansKept fun _ _ => by rw [lapseEntry_deadlines]

/-- The deadlines that an entry leaves with are not SPAN_ENDs (02 R26). -/
theorem dropParcelDeadlines_spansKept (i : Nat) (s : State) : SpansKept s (dropParcelDeadlines i s) := by
  refine (dropParcelDeadlines_only i s).spansKept fun d hk => ?_
  rw [dropParcelDeadlines_deadlines, List.mem_filter]
  simp [hk]

theorem eraseEntry_spansKept (i : Nat) (s : State) : SpansKept s (eraseEntry i s) :=
  (eraseEntry_only i s).spansKept fun _ _ => by rw [eraseEntry_deadlines]

theorem setEntry_spansKept (i : Nat) (o : Option ParcelEntry) (s : State) : SpansKept s (s.setEntry i o) := .of_view rfl

theorem freeEntry_spansKept (i : Nat) (s : State) : SpansKept s (freeEntry i s) :=
  ((eraseEntry_spansKept i s).trans (setEntry_spansKept ..)).trans (dropParcelDeadlines_spansKept ..)

theorem freeAtZero_spansKept (i : Nat) (s : State) : SpansKept s (freeAtZero i s) := by
  unfold freeAtZero
  split
  · exact .refl s
  · split
    · exact freeEntry_spansKept i s
    · exact .refl s

theorem countUp_spansKept (i : Nat) (s : State) : SpansKept s (countUp i s) := by
  unfold countUp
  split
  · exact .refl s
  · exact setEntry_spansKept ..

/-! ## Work on one slot -/

/-- Work on the record of slot `g` alone, after which it is not EXPIRING and its slot is not in the expire list, it has
its SPAN_END at X when it is OPEN, and no SPAN_END when it is not. -/
structure SlotSettled (g : Nat) (s t : State) : Prop where
  others : ∀ h, h ≠ g → t.grant h = s.grant h
  held : ¬isExpiring t g
  list : ExpiryListed s → t.grants.expireList = s.grants.expireList.filter fun h => h != g
  ends : ∀ d, d.kind = .spanEnd → d.ref ≠ g → (d ∈ t.deadlines ↔ d ∈ s.deadlines)
  own : ∀ r, t.grant g = some r → r.state = .opened → { due := r.x, kind := .spanEnd, ref := g } ∈ t.deadlines
  opened : ExpiryListed s → ∀ d ∈ t.deadlines, d.kind = .spanEnd → d.ref = g →
    ∃ r, t.grant g = some r ∧ r.state = .opened
  time : t.clock.timeState = s.clock.timeState
  service : t.control.service = s.control.service

theorem SlotSettled.expiryListed {g : Nat} {s t : State} (k : SlotSettled g s t) (h : ExpiryListed s) :
    ExpiryListed t where
  once := by rw [k.list h]; exact h.once.filter _
  exact x := by
    rw [k.list h, List.mem_filter, bne_iff_ne]
    by_cases hx : x = g
    · subst hx
      exact iff_of_false (fun hm => hm.2 rfl) k.held
    · rw [isExpiring_congr (k.others x hx), h.exact x]
      exact and_iff_left hx
  spans d hd hk := by
    by_cases hx : d.ref = g
    · rw [hx]; exact k.opened h d hd hk hx
    · rw [k.others _ hx]; exact h.spans d ((k.ends d hk hx).mp hd) hk

theorem SlotSettled.spansListed {g : Nat} {s t : State} (k : SlotSettled g s t) (h : SpansListed s) :
    SpansListed t := by
  intro ht hs x r hr hopen
  rw [k.time] at ht
  rw [k.service] at hs
  by_cases hx : x = g
  · subst hx; exact k.own r hr hopen
  · rw [k.others x hx] at hr
    exact (k.ends _ rfl hx).mpr (h ht hs x r hr hopen)

theorem SlotSettled.spansKept {g : Nat} {s t : State} (k : SlotSettled g s t) : SpansKept s t :=
  ⟨k.expiryListed, k.spansListed⟩

/-- A slot without an EXPIRING record is not in the expire list. -/
theorem ExpiryListed.filter_eq {s : State} {g : Nat} (h : ExpiryListed s) (hg : ¬isExpiring s g) :
    s.grants.expireList = s.grants.expireList.filter fun x => x != g :=
  (List.filter_eq_self.mpr fun x hx => bne_iff_ne.mpr (by rintro rfl; exact hg ((h.exact x).mp hx))).symm

/-- A record is freed with its expiry and its SPAN_END (06 R93). -/
theorem freeGrant_spansKept (g : Nat) (s : State) : SpansKept s (freeGrant g s) := by
  cases hr : s.grant g with
  | none => simp only [freeGrant, hr]; exact .refl s
  | some r =>
    have freed := freeGrant_recordFreed hr
    refine SlotSettled.spansKept (g := g)
      { others := freed.others
        held := fun ⟨_, _, hq, _⟩ => nomatch freed.slot.symm.trans hq
        list := fun _ => freed.list
        ends := fun d hk hx => ?_
        own := fun q hq => nomatch freed.slot.symm.trans hq
        opened := fun _ d hd hk hx => absurd ⟨hk, hx⟩ (freed.spans d hd)
        time := by rw [freeGrant_only g s]
        service := by rw [freeGrant_only g s] }
    rw [freed.deadlines, List.mem_filter]
    simp [hk, hx]

theorem not_isExpiring {g : Nat} {r : Grant} {s : State} (hr : s.grant g = some r)
    (h : ∀ why, r.state ≠ .expiring why) : ¬isExpiring s g := by
  rintro ⟨q, why, hq, hw⟩
  obtain rfl := Option.some.inj (hr.symm.trans hq)
  exact h why hw

/-- A record that is not EXPIRING is written in a slot that held none, with a SPAN_END at its X when it is OPEN. -/
theorem recordWritten_settled {g : Nat} {q : Grant} {s t : State} (hlt : g < s.grants.slots.length)
    (hheld : ¬isExpiring s g) (hq : ∀ why, q.state ≠ .expiring why)
    (hgrants : t.grants = { s.grants with slots := s.grants.slots.set g (some q) })
    (hends : ∀ d, d.kind = .spanEnd → d.ref ≠ g → (d ∈ t.deadlines ↔ d ∈ s.deadlines))
    (hown : q.state = .opened → { due := q.x, kind := .spanEnd, ref := g } ∈ t.deadlines)
    (hopened : ExpiryListed s → ∀ d ∈ t.deadlines, d.kind = .spanEnd → d.ref = g → q.state = .opened)
    (htime : t.clock.timeState = s.clock.timeState) (hservice : t.control.service = s.control.service) :
    SlotSettled g s t := by
  have hself : t.grant g = some q := by
    unfold State.grant; rw [hgrants]; exact slotGet_set_self hlt
  have hlist : t.grants.expireList = s.grants.expireList := by rw [hgrants]
  exact
    { others := fun x hx => by unfold State.grant; rw [hgrants]; exact slotGet_set_ne (Ne.symm hx)
      held := not_isExpiring hself hq
      list := fun h => hlist.trans (h.filter_eq hheld)
      ends := hends
      own := fun p hp hopen => by
        obtain rfl := Option.some.inj (hself.symm.trans hp)
        exact hown hopen
      opened := fun h d hd hk hx => ⟨q, hself, hopened h d hd hk hx⟩
      time := htime
      service := hservice }

/-- A commit makes an OPENING record OPEN and inserts its SPAN_END (05 R83). -/
theorem commitGrant_spansKept {g : Nat} {r : Grant} {who : Requester} {s : State} (hr : s.grant g = some r)
    (hopening : r.state = .opening who) : SpansKept s (commitGrant g r s) := by
  refine (recordWritten_settled (q := { r with state := .opened, used := 0 }) (State.grant_lt hr)
    (not_isExpiring hr (by simp [hopening])) nofun (t := commitGrant g r s) rfl (fun d _ hx => ?_)
    (fun _ => mem_insertDeadline.mpr (.inl rfl)) (fun _ _ _ _ _ => rfl) rfl rfl).spansKept
  refine mem_insertDeadline.trans (or_iff_right ?_)
  rintro rfl
  exact hx rfl

/-- An EXTEND moves an OPEN record's SPAN_END with its X (06 R107). -/
theorem moveSpanEnd_spansKept {g : Nat} {r : Grant} {s : State} (hr : s.grant g = some r) (hopen : r.state = .opened)
    (x : Nat) : SpansKept s (moveSpanEnd g r x s) := by
  have hheld : ∀ why, r.state ≠ .expiring why := by simp [hopen]
  refine (recordWritten_settled (q := { r with x := x, used := r.used + (x - r.x) }) (State.grant_lt hr)
    (not_isExpiring hr hheld) hheld (t := moveSpanEnd g r x s) rfl (fun d _ hx => ?_)
    (fun _ => mem_insertDeadline.mpr (.inl rfl)) (fun _ _ _ _ _ => hopen) rfl rfl).spansKept
  refine mem_insertDeadline.trans (.trans (or_iff_right ?_) (.trans List.mem_filter (and_iff_left ?_)))
  · rintro rfl
    exact hx rfl
  · simp [hx]

/-- A selected open's record is OPENING, in a slot that was free (05 R80). -/
theorem startRewrap_spansKept {g : Nat} (w : OpenReq) (p : OpenPlan) {s : State}
    (hg : lowestFree s.grants.slots = some g) : SpansKept s (startRewrap g w p s) := by
  obtain ⟨hlt, hnone, -⟩ := lowestFree_eq_some.mp hg
  have hfree : s.grant g = none := hnone
  refine (SlotSettled.spansKept (g := g) ?_).trans ((countUp_spansKept p.parcel _).trans (.of_view rfl))
  refine recordWritten_settled hlt ?_ ?_ rfl (fun _ _ _ => .rfl) nofun (fun h d hd hk hx => ?_) rfl rfl
  · rintro ⟨r, _, hr, _⟩
    exact nomatch hfree.symm.trans hr
  · exact nofun
  · obtain ⟨r, hr, -⟩ := h.spans d hd hk
    rw [hx, hfree] at hr
    exact nomatch hr

/-! ## Records that expire -/

/-- OPEN records expire, each once (06 R99, R100). -/
theorem foldl_expireGrant_expiry {hit : List Nat} (why : Reason) {s : State} (h : ExpiryListed s) (hn : hit.Nodup)
    (hopen : ∀ g ∈ hit, ∃ r, s.grant g = some r ∧ r.state = .opened) :
    ExpiryListed (hit.foldl (fun t g => expireGrant g why t) s) := by
  obtain ⟨hgrant, hlist, -, hends, -⟩ :=
    foldl_expire hit why s hn fun g hg => (hopen g hg).imp fun _ hr => hr.1
  have hnot : ∀ g ∈ hit, ¬isExpiring s g := fun g hg => by
    obtain ⟨r, hr, ho⟩ := hopen g hg
    exact not_isExpiring hr (by simp [ho])
  generalize hit.foldl (fun t g => expireGrant g why t) s = t at hgrant hlist hends
  refine ⟨?_, fun g => ?_, fun d hd hk => ?_⟩
  · rw [hlist]
    exact h.once.append hn fun g hg hit => hnot g hit ((h.exact g).mp hg)
  · rw [hlist, List.mem_append, h.exact g]
    by_cases hg : g ∈ hit
    · obtain ⟨r, hr, -⟩ := hopen g hg
      refine iff_of_true (.inr hg) ⟨{ r with state := .expiring why }, why, ?_, rfl⟩
      rw [hgrant, if_pos hg, hr]; rfl
    · rw [isExpiring_congr ((hgrant g).trans (if_neg hg))]
      exact or_iff_left hg
  · obtain ⟨hs, hne⟩ := (hends d).mp hd
    rw [hgrant, if_neg fun hg => hne ⟨hk, hg⟩]
    exact h.spans d hs hk

/-- Records that are not among those that expire keep their SPAN_END, when only deadlines of expiring records had left
the list before. -/
theorem foldl_expireGrant_spans {hit : List Nat} (why : Reason) {s t : State} (h : SpansListed s) (hn : hit.Nodup)
    (hin : ∀ g ∈ hit, ∃ r, s.grant g = some r) (hgrants : t.grants = s.grants) (hclock : t.clock = s.clock)
    (hcontrol : t.control = s.control) (hd : ∀ d ∈ s.deadlines, d.ref ∉ hit → d ∈ t.deadlines) :
    SpansListed (hit.foldl (fun t g => expireGrant g why t) t) := by
  have hgrant' := State.grant_congr hgrants
  obtain ⟨hgrant, -, -, hends, hframe⟩ := foldl_expire hit why t hn fun g hg => by rw [hgrant']; exact hin g hg
  intro ht hs g r hr hopen
  rw [hframe] at ht hs
  by_cases hg : g ∈ hit
  · obtain ⟨q, hq⟩ := hin g hg
    rw [hgrant, if_pos hg, hgrant', hq] at hr
    obtain rfl := Option.some.inj hr
    exact nomatch hopen
  · rw [hgrant, if_neg hg, hgrant'] at hr
    have hlisted := h (hclock ▸ ht) (hcontrol ▸ hs) g r hr hopen
    exact (hends _).mpr ⟨hd _ hlisted hg, fun hx => hg hx.2⟩

theorem forceExpiry_spansKept (pick : Grant → Bool) (why : Reason) (s : State) :
    SpansKept s (forceExpiry pick why s) := by
  have hn : (reached pick s).Nodup := (reached_ascending pick s).imp Nat.ne_of_lt
  have hopen : ∀ g ∈ reached pick s, ∃ r, s.grant g = some r ∧ r.state = .opened := fun g hg => by
    obtain ⟨r, hr, ho, -⟩ := mem_reached.mp hg
    exact ⟨r, hr, ho⟩
  have hfold : SpansKept s ((reached pick s).foldl (fun t g => expireGrant g why t) s) :=
    ⟨fun h => foldl_expireGrant_expiry why h hn hopen, fun h => foldl_expireGrant_spans why h hn
      (fun g hg => (hopen g hg).imp fun _ hr => hr.1) rfl rfl rfl fun _ hd _ => hd⟩
  unfold forceExpiry
  split
  · exact .refl s
  · exact hfold.trans (.of_view rfl)

end Sys2Proof.Machine
end

section
/-! PROOFS. Firing, a backward trim, a rebuild and a commit keep the expire list and the SPAN_ENDs (O9). -/

namespace Sys2Proof.Machine

/-! ## Firing -/

/-- A deadline of a parcel entry leaves the list. -/
theorem dropHead_spansKept {d : Deadline} {rest : List Deadline} {s : State} (h : s.deadlines = d :: rest)
    (hk : d.kind ≠ .spanEnd) : SpansKept s { s with deadlines := rest } := by
  refine .of_grants rfl (fun q hq => ?_) id id
  rw [h, List.mem_cons]
  refine (or_iff_right ?_).symm
  rintro rfl
  exact hk hq

theorem fireWindowStart_spansKept (i : Nat) (s : State) : SpansKept s (fireWindowStart i s) := by
  unfold fireWindowStart
  split
  · split
    · exact setEntryState_spansKept ..
    · exact .refl s
  · exact .refl s

theorem fireWindowEnd_spansKept (i : Nat) (s : State) : SpansKept s (fireWindowEnd i s) := by
  unfold fireWindowEnd
  split
  · split
    · refine (lapseEntry_spansKept i s).trans (addDeadline_spansKept ?_ _)
      exact nofun
    · exact .refl s
  · exact .refl s

theorem firePurge_spansKept (i : Nat) (s : State) : SpansKept s (firePurge i s) := by
  unfold firePurge
  split
  · split
    · split
      · exact freeEntry_spansKept i s
      · exact setEntry_spansKept ..
    · exact .refl s
  · exact .refl s

/-- A SPAN_END that leaves the list takes its OPEN record out of OPEN (06 R99). -/
theorem fireSpanEnd_spansKept {d : Deadline} {rest : List Deadline} {s : State} (h : s.deadlines = d :: rest) :
    SpansKept s (fireSpanEnd d.ref { s with deadlines := rest }) := by
  have htail : ExpiryListed s → ExpiryListed { s with deadlines := rest } := fun hs =>
    hs.of_grants rfl fun q hq _ => h ▸ List.mem_cons_of_mem d hq
  have hother : ∀ q ∈ s.deadlines, q.ref ≠ d.ref → q ∈ rest := fun q hq hne => by
    rw [h] at hq
    exact (List.mem_cons.mp hq).resolve_left fun hqd => hne (congrArg Deadline.ref hqd)
  by_cases hopen : ∃ r, s.grant d.ref = some r ∧ r.state = .opened
  · obtain ⟨r, hr, ho⟩ := hopen
    have hfire : fireSpanEnd d.ref { s with deadlines := rest } =
        raisePulse Src.grantExpired (expireGrant d.ref .span { s with deadlines := rest }) := by
      have hr' : State.grant { s with deadlines := rest } d.ref = some r := hr
      simp only [fireSpanEnd, hr']
      exact if_pos ho
    rw [hfire]
    refine SpansKept.trans (t := expireGrant d.ref .span { s with deadlines := rest })
      ⟨fun hs => ?_, fun hs => ?_⟩ (.of_view rfl)
    · exact foldl_expireGrant_expiry (hit := [d.ref]) .span (htail hs) (List.nodup_singleton _)
        fun g hg => ⟨r, List.mem_singleton.mp hg ▸ hr, ho⟩
    · exact foldl_expireGrant_spans (hit := [d.ref]) .span hs (List.nodup_singleton _)
        (fun g hg => ⟨r, List.mem_singleton.mp hg ▸ hr⟩) rfl rfl rfl
        fun q hq hne => hother q hq fun hqd => hne (List.mem_singleton.mpr hqd)
  · have hfire : fireSpanEnd d.ref { s with deadlines := rest } = { s with deadlines := rest } := by
      unfold fireSpanEnd
      split
      · rename_i r hr
        exact if_neg fun ho => hopen ⟨r, hr, ho⟩
      · rfl
    rw [hfire]
    refine ⟨htail, fun hs ht hserv g r hr ho => hother _ (hs ht hserv g r hr ho) ?_⟩
    rintro rfl
    exact hopen ⟨r, hr, ho⟩

theorem fireHead_spansKept {d : Deadline} {rest : List Deadline} {s : State} (h : s.deadlines = d :: rest) :
    SpansKept s (fireOne d { s with deadlines := rest }) := by
  have hdrop : d.kind ≠ .spanEnd → SpansKept s { s with deadlines := rest } := dropHead_spansKept h
  unfold fireOne
  split <;> rename_i hk
  · exact (hdrop (by simp [hk])).trans (fireWindowStart_spansKept ..)
  · exact (hdrop (by simp [hk])).trans (fireWindowEnd_spansKept ..)
  · exact (hdrop (by simp [hk])).trans (firePurge_spansKept ..)
  · exact fireSpanEnd_spansKept h

theorem fireDue_spansKept (fuel n : Nat) (s : State) : SpansKept s (fireDue fuel n s) := by
  induction fuel generalizing s with
  | zero => exact .refl s
  | succ fuel ih =>
    unfold fireDue
    split
    · exact .refl s
    · rename_i d rest h
      split
      · exact (fireHead_spansKept h).trans (ih _)
      · exact .refl s

theorem runDeadlines_spansKept (n : Nat) (s : State) : SpansKept s (runDeadlines n s) := fireDue_spansKept ..

/-! ## Deadlines of parcel entries -/

/-- A backward trim inserts WINDOW_STARTs alone (07 R119). -/
theorem returnLatent_spansKept (n : Nat) (s : State) : SpansKept s (returnLatent n s) := by
  have hframe := returnLatent_entries n s
  unfold OnlyEntries at hframe
  refine .of_grants (by rw [hframe]) (fun d hk => ?_) (by rw [hframe]; exact id) (by rw [hframe]; exact id)
  rw [mem_returnLatent_deadlines]
  refine or_iff_left ?_
  rintro ⟨i, e, -, -, -, rfl⟩
  exact nomatch hk

/-- No deadline of a parcel entry is a SPAN_END (07 Table 7.1). -/
theorem entryDeadlines_kind {s : State} {i : Nat} {e : ParcelEntry} {d : Deadline} (h : d ∈ entryDeadlines s i e) :
    d.kind ≠ .spanEnd := by
  revert d
  unfold entryDeadlines
  split <;> simp

/-- A rebuild is made from the parcel table alone (07 R121). -/
theorem rebuildList_kind {n : Nat} {s : State} {d : Deadline} (h : d ∈ (rebuildList n s).deadlines) :
    d.kind ≠ .spanEnd := by
  rcases mem_rebuildInsert_deadlines.mp h with hold | ⟨i, e, -, hd⟩
  · exact nomatch (rebuildSteps_rebuildWork n { s with deadlines := [] }).deadlines d hold
  · exact entryDeadlines_kind hd

theorem rebuildList_expiryListed (n : Nat) {s : State} (h : ExpiryListed s) : ExpiryListed (rebuildList n s) :=
  h.of_grants (rebuildList_grants n s) fun _ hd hk => absurd hk (rebuildList_kind hd)

theorem rebuildList_noGrants (n : Nat) {s : State} (h : NoGrants s) : NoGrants (rebuildList n s) :=
  fun g => (State.grant_congr (rebuildList_grants n s) g).trans (h g)

theorem committed_spansKept (i : Nat) (p : Parcel) (ks : List Key) (s : State) : SpansKept s (committed i p ks s) := by
  refine .of_grants rfl (fun d hk => ?_) id id
  refine mem_foldl_insertDeadline.trans (or_iff_right fun hd => entryDeadlines_kind hd hk)

end Sys2Proof.Machine
end

section
/-! PROOFS. Every request keeps the expire list and the SPAN_ENDs (O9). -/

namespace Sys2Proof.Machine

/-! ## Requests -/

/-- An owner keeps the expire list and the SPAN_ENDs. -/
def OwnerKeepsSpans (owner : Owner) : Prop := ∀ who f s, SpansKeptCounted s (owner who f s)

theorem SpansKept.reply {s t : State} (h : SpansKept s t) {f : Frame} {r : Reply} : SpansKept s (reply f r t) :=
  h.trans (.of_view rfl)

theorem SpansKept.replyLater {s t : State} (h : SpansKept s t) {who : Requester} {k : Kind} {r : Reply} :
    SpansKept s (replyLater who k r t) := h.trans (.of_view rfl)

/-- A checked request, by what it does when its checks pass. -/
theorem checked_spansKeptCounted {f : Frame} {cs : List (Bool × Reply)} {act : State → State} {s : State}
    (hact : (∀ c ∈ cs, c.1 = false) → SpansKeptCounted s (act s)) : SpansKeptCounted s (checked f cs act s) := by
  rcases checked_passed f cs act s with ⟨r, he⟩ | ⟨hpass, he⟩ <;> rw [he]
  · exact (SpansKept.refl s).reply.counted
  · exact hact hpass

/-- A request whose act keeps them whatever its checks found. -/
theorem ownChecked_spansKept {cs : Sender → Frame → State → List (Bool × Reply)} {act : Sender → Frame → State → State}
    (h : ∀ who f s, SpansKept s (act who f s)) : OwnerKeepsSpans fun who f s => checked f (cs who f s) (act who f) s :=
  fun who f s => checked_spansKeptCounted fun _ => (h who f s).counted

theorem settle_spansKept {owner : Owner} (h : OwnerKeepsSpans owner) (f : Frame) (s : State) :
    SpansKeptCounted s (settle owner f s) := by
  unfold settle
  split
  · exact SpansKept.counted (.of_view rfl)
  · exact h _ f s

theorem takeRequest_spansKept (k : Kind) (src : Addr) (tag : Byte) (body : List Byte) {owner : Owner}
    (h : OwnerKeepsSpans owner) (s : State) : SpansKeptCounted s (takeRequest k src tag body owner s) := by
  unfold takeRequest
  split
  · exact settle_spansKept h _ s
  · exact (SpansKept.refl s).counted

/-! ### Parcels -/

theorem withdrawStaged_spansKept (i : Nat) (p : StagingPlace) (f : Frame) (s : State) :
    SpansKept s (withdrawStaged i p f s) := by
  unfold withdrawStaged
  split
  · refine SpansKept.reply ?_
    split <;> exact .of_view rfl
  · exact .of_view rfl
  · exact .refl s

theorem withdrawEntry_spansKept (i : Nat) (e : ParcelEntry) (s : State) : SpansKept s (withdrawEntry i e s) :=
  ((setEntry_spansKept ..).trans (eraseEntry_spansKept i _)).trans (dropParcelDeadlines_spansKept ..)

theorem withdrawCommitted_spansKept (i : Nat) (e : ParcelEntry) (force : Bool) (f : Frame) (s : State) :
    SpansKept s (withdrawCommitted i e force f s) := by
  unfold withdrawCommitted
  split
  · exact (freeEntry_spansKept i s).reply
  · exact ((withdrawEntry_spansKept i e s).trans (forceExpiry_spansKept ..)).reply

theorem withdraw_spansKept (f : Frame) (s : State) : SpansKept s (withdraw f s) := by
  unfold withdraw
  dsimp only
  split
  · split
    · exact withdrawStaged_spansKept ..
    · exact .refl s
  · split
    · exact withdrawCommitted_spansKept ..
    · exact (SpansKept.refl s).reply

/-! ### Opens and grants -/

theorem admitOpen_spansKept (slot : Nat) (e : Station) (f : Frame) (s : State) :
    SpansKept s (admitOpen slot e f s) := by
  unfold admitOpen
  dsimp only
  split
  · exact .of_view rfl
  · split <;> exact .of_view rfl

theorem closeGrant_spansKept (who : Sender) (f : Frame) (s : State) : SpansKept s (closeGrant who f s) := by
  unfold closeGrant
  dsimp only
  split
  · exact .refl s
  · exact (freeGrant_spansKept ..).reply

/-- A record that is named and passes the EXPIRED check of EXTEND is OPEN (06 R96, R106). -/
theorem namedGrant_isOpened {who : Sender} {h : Handle} {s : State} {r : Grant} (hn : namedGrant who h s = some r)
    (hx : (extendExpired h (some r)).1 = false) : r.state = .opened := by
  cases hstate : r.state with
  | opened => rfl
  | expiring why => simp [extendExpired, hstate] at hx
  | opening q => simp [namedGrant, namedGrant_some hn, hstate] at hn

theorem ownExtend_spansKept : OwnerKeepsSpans ownExtend := fun who f s =>
  checked_spansKeptCounted fun hpass => by
    have hx : (extendExpired (handleAt f.body 0) (namedGrant who (handleAt f.body 0) s)).1 = false :=
      hpass _ (by simp [extendChecks])
    refine SpansKept.counted ?_
    unfold extendGrant
    dsimp only
    split
    · exact .refl s
    · rename_i r hn
      split
      · exact (moveSpanEnd_spansKept (namedGrant_some hn) (namedGrant_isOpened hn (hn ▸ hx)) _).reply
      · exact (SpansKept.refl s).reply

/-! ### Booth time -/

theorem applyTrim_spansKept (d : Int) (s : State) : SpansKept s (applyTrim d s) := by
  have hmoved (a : Int) : SpansKept s (moveBooth a s) := by rw [moveBooth_eq]; exact .of_view rfl
  have hhanded (a : Int) (t : State) : SpansKept t (handTrim a t) := by
    unfold handTrim
    split
    · exact runDeadlines_spansKept ..
    · split
      · exact returnLatent_spansKept ..
      · exact .refl t
  unfold applyTrim
  dsimp only
  split
  · exact (hmoved _).trans (hhanded ..)
  · exact ((hmoved _).trans (hhanded ..)).trans (.of_view rfl)

theorem establishTime_eq (v : Nat) (s : State) :
    establishTime v s = rebuildList (max v s.clock.floor) (timeTaken (max v s.clock.floor) s) := rfl

/-- Time is set in SERVICE, where no grant is without an end because there is none (03 R48). -/
theorem establishTime_spansKept (v : Nat) {s : State} (hmode : s.stations.mode = .service) :
    SpansKeptCounted s (establishTime v s) := by
  have hset : (timeTaken (max v s.clock.floor) s).grants = s.grants := rfl
  rw [establishTime_eq]
  refine ⟨fun h => rebuildList_expiryListed _ (h.of_grants hset fun _ hd _ => hd), fun c _ => ?_⟩
  have hn : NoGrants (timeTaken (max v s.clock.floor) s) := fun g =>
    (State.grant_congr hset g).trans ((c.empty (.inr hmode)).1 g)
  exact (rebuildList_noGrants _ hn).spansListed

theorem ownTimeSet_spansKept : OwnerKeepsSpans ownTimeSet := fun who f s =>
  checked_spansKeptCounted fun hpass => by
    have hservice : (serviceOnly s).1 = false := hpass _ (by simp [setTimeChecks])
    have hmode : s.stations.mode = .service := by
      cases hm : s.stations.mode with
      | service => rfl
      | showing => simp [serviceOnly, hm] at hservice
    exact (establishTime_spansKept _ hmode).followed (SpansKept.refl _).reply

/-! ### Stations and modes -/

theorem enrol_spansKept (f : Frame) (s : State) : SpansKept s (enrol f s) := by
  unfold enrol
  dsimp only
  split
  · exact .of_view rfl
  · exact .refl s

theorem suspend_spansKept (f : Frame) (s : State) : SpansKept s (suspend f s) := by
  unfold suspend
  split
  · rename_i e _
    have hset : SpansKept s (s.setStation (slotField f.body) (some { e with state := .suspended })) := .of_view rfl
    unfold suspendStation
    split
    · exact (SpansKept.refl s).reply
    · dsimp only
      split
      · refine (hset.trans (SpansKept.trans ?_ (forceExpiry_spansKept ..))).reply
        exact .of_view rfl
      · exact hset.reply
  · exact .refl s

theorem resume_spansKept (f : Frame) (s : State) : SpansKept s (resume f s) := by
  unfold resume
  split
  · exact .of_view rfl
  · exact .refl s

theorem giveRank_spansKept (f : Frame) (s : State) : SpansKept s (giveRank f s) := by
  unfold giveRank
  split
  · exact .of_view rfl
  · exact .refl s

theorem enterMode_spansKept (m : Mode) (s : State) : SpansKept s (enterMode m s).1 := by
  unfold enterMode
  split
  · exact .refl s
  · split
    · split
      · exact .refl s
      · exact .of_view rfl
    · split
      · exact .refl s
      · split
        · exact .refl s
        · exact .of_view rfl

theorem evaluateModeChange_spansKept (m : Mode) (s : State) : SpansKept s (evaluateModeChange m s).1 := by
  have hempty : SpansKept s (setMismatch 0 (setHolder none s)) := .of_view rfl
  unfold evaluateModeChange
  split
  · exact .of_view rfl
  · split
    · exact hempty.trans (enterMode_spansKept ..)
    · exact .of_view rfl

/-- ZEROIZE empties the tables (08 R144). -/
theorem eraseAll_spansKept (s : State) : SpansKept s (eraseAll s) :=
  .of_cleared (fun _ => slotGet_map_none ..) rfl rfl

theorem readNotices_spansKept (f : Frame) (s : State) : SpansKept s (readNotices f s) := by
  unfold readNotices
  dsimp only
  split <;> exact .of_view rfl

/-! ### Every request -/

theorem ownerOf_spansKept (k : Kind) : OwnerKeepsSpans (ownerOf k) := by
  cases k with
  | status | parcelLoad | parcelList | grantList | stationRetire | stationList | modeKey | settingWrite | settingRead
  | noticeConfig | selfTest | restart => exact ownChecked_spansKept fun _ _ _ => .of_view rfl
  | parcelWithdraw => exact ownChecked_spansKept fun _ => withdraw_spansKept
  | openKeys =>
    refine ownChecked_spansKept fun who f s => ?_
    cases who with
    | station slot e => exact admitOpen_spansKept slot e f s
    | boot => exact .refl s
  | close => exact ownChecked_spansKept closeGrant_spansKept
  | extend => exact ownExtend_spansKept
  | timeTrim => exact ownChecked_spansKept fun _ _ s => (applyTrim_spansKept _ s).reply
  | timeSet => exact ownTimeSet_spansKept
  | stationEnrol => exact ownChecked_spansKept fun _ => enrol_spansKept
  | stationSuspend => exact ownChecked_spansKept fun _ => suspend_spansKept
  | stationResume => exact ownChecked_spansKept fun _ => resume_spansKept
  | stationRank => exact ownChecked_spansKept fun _ => giveRank_spansKept
  | modeChange =>
    refine ownChecked_spansKept fun _ f s => ?_
    split
    · exact (evaluateModeChange_spansKept _ s).reply
    · exact .refl s
  | zeroize =>
    refine ownChecked_spansKept fun _ f s => ?_
    exact ((SpansKept.refl s).reply (f := f) (r := refuse .ok)).trans (eraseAll_spansKept _)
  | noticeRead => exact ownChecked_spansKept fun _ => readNotices_spansKept

theorem ownUnknownKind_spansKept : OwnerKeepsSpans ownUnknownKind := fun _ _ s => (SpansKept.refl s).reply.counted

theorem requestRow_spansKept (k : Kind) (src : Addr) (tag : Byte) (body : List Byte) (s : State) :
    ∃ t, exec (requestRow k src tag body) s = .next t ∧ SpansKeptCounted s t :=
  ⟨_, exec_requestRow k src tag body s, takeRequest_spansKept k src tag body (ownerOf_spansKept k) s⟩

end Sys2Proof.Machine
end

section
/-! PROOFS. Time, the engine, the postings and the start-up keep the expire list and the SPAN_ENDs (O9). -/

namespace Sys2Proof.Machine

/-! ## The Link Port -/

theorem judgeHeader_spansKept (dst src : Addr) (s : State) : SpansKept s (judgeHeader dst src s) := by
  unfold judgeHeader
  split
  · exact .refl s
  · split
    · exact .of_view rfl
    · split
      · exact .of_view rfl
      · rw [occupancyRose_frame]; exact .of_view rfl

theorem endFrame_spansKept (h : Header) (rest : List Byte) (s : State) : SpansKept s (endFrame h rest s) := by
  unfold endFrame
  dsimp only
  split
  · exact .of_view rfl
  · rw [occupancyFell_frame]; exact .of_view rfl

/-- The EXPIRE frame of a record is taken, and the record freed (06 R105). -/
theorem sendExpireFor_spansKept (g : Nat) (s : State) : SpansKept s (sendExpireFor g s) := by
  unfold sendExpireFor
  split
  · refine SpansKept.trans ?_ (freeGrant_spansKept ..)
    exact .of_view rfl
  · exact .refl s

/-! ## Time -/

theorem raiseLevel_spansKept (n : Nat) (s : State) : SpansKept s (raiseLevel n s) := by
  rw [raiseLevel_frame]; exact .of_view rfl

/-- With the time lost every OPEN record expires, and the Deadline List empties (03 R39). -/
theorem timeGone_spansKept (s : State) : SpansKept s (timeGone s) := by
  refine ⟨fun h => ?_, fun _ ht => ?_⟩
  · have hlost : ExpiryListed { s with clock := { s.clock with timeState := .lost, driftRun := 0 } } :=
      h.of_grants rfl fun _ hd _ => hd
    exact ((forceExpiry_spansKept (fun _ => true) .clock _).expiry hlost).of_grants rfl nofun
  · rw [timeGone_frame] at ht
    exact nomatch ht

theorem loseTime_spansKept (s : State) : SpansKept s (loseTime s) :=
  (timeGone_spansKept s).trans (raiseLevel_spansKept ..)

theorem reachDriftLimit_spansKept (s : State) : SpansKept s (reachDriftLimit s) := by
  have hclear : SpansKept s (clearLevel Src.clockDrift { s with clock := { s.clock with driftRun := 0 } }) :=
    .of_view rfl
  unfold reachDriftLimit
  dsimp only
  split
  · exact hclear.trans (loseTime_spansKept _)
  · exact hclear

theorem measure_spansKept (deviation : Nat) (s : State) : SpansKept s (measure deviation s) := by
  rcases measure_cases deviation s with ⟨-, -, he⟩ | ⟨-, -, he⟩ | ⟨-, -, he⟩ <;> rw [he]
  · exact .of_view rfl
  · refine SpansKept.trans ?_ (raiseLevel_spansKept ..)
    exact .of_view rfl
  · refine SpansKept.trans ?_ (reachDriftLimit_spansKept _)
    exact .of_view rfl

theorem timeOutOpens_spansKept (s : State) : SpansKept s (timeOutOpens s) := by
  rw [timeOutOpens_frame]; exact .of_view rfl

theorem examineTestInterval_spansKept (s : State) : SpansKept s (examineTestInterval s) := by
  rw [examineTestInterval_eq]; exact .of_view rfl

theorem tickBooth_spansKept (s : State) : SpansKept s (tickBooth s) := by
  have hadvanced : SpansKept s (advanceBooth s) := by rw [advanceBooth_eq]; exact .of_view rfl
  unfold tickBooth
  split
  · dsimp only
    split
    · exact hadvanced.trans (runDeadlines_spansKept ..)
    · exact hadvanced
  · exact .refl s

theorem countTrimYear_spansKept (s : State) : SpansKept s (countTrimYear s) := by
  unfold countTrimYear
  split <;> exact .of_view rfl

/-! ## The engine -/

theorem selectOpen_spansKept (i : Nat) (w : OpenReq) (s : State) : SpansKept s (selectOpen i w s).1 := by
  have hremoved : SpansKept s (removeWaiting i s) := .of_view rfl
  unfold selectOpen
  split
  · exact .of_view rfl
  · split
    · rename_i hg
      exact hremoved.trans (startRewrap_spansKept w _ hg)
    · exact .refl s

theorem arbitrate_spansKept (fuel : Nat) (s : State) : SpansKept s (arbitrate fuel s) := by
  induction fuel generalizing s with
  | zero => exact .refl s
  | succ fuel ih =>
    unfold arbitrate
    split
    · exact .refl s
    · exact .of_view rfl
    · exact .of_view rfl
    · rename_i i w _
      have hcounted : SpansKept s (countPassOver s) := by rw [countPassOver_eq]; exact .of_view rfl
      have hselected := hcounted.trans (selectOpen_spansKept i w _)
      dsimp only
      split
      · exact hselected
      · exact hselected.trans (ih _)

theorem enterFault_spansKept (s : State) : SpansKept s (enterFault s) := by
  refine SpansKept.trans ?_ (raiseLevel_spansKept ..)
  exact .of_view rfl

theorem completeKat_spansKept (pass : Bool) (s : State) : SpansKept s (completeKat pass s) := by
  have hend : SpansKept s (endKat s) := .of_view rfl
  have hfault : SpansKept s (enterFault (endKat s)) := hend.trans (enterFault_spansKept _)
  have hdone : SpansKept s (if pass then endKat s else enterFault (endKat s)) := by
    split
    · exact hend
    · exact hfault
  unfold completeKat
  split
  · dsimp only
    split
    · exact hdone
    · cases pass
      · exact hfault.trans (.of_view rfl)
      · exact hend.trans (.of_view rfl)
    · exact hdone.trans (.of_view rfl)
  · exact .refl s

theorem completeVerify_spansKept (s : State) : SpansKept s (completeVerify s) := by
  unfold completeVerify
  split
  · exact .of_view rfl
  · exact .refl s

theorem completeRewrap_spansKept (s : State) : SpansKept s (completeRewrap s) := by
  unfold completeRewrap
  split
  · exact .of_view rfl
  · exact .refl s

/-! ## Postings -/

/-- A REWRAP result commits its OPENING record, or frees it, or finds it gone (05 R82, R83). -/
theorem postRewrap_spansKept (s : State) : SpansKept s (postRewrap s) := by
  unfold postRewrap
  split
  · have hdone : SpansKept s { s with engine := { s.engine with held := none } } := .of_view rfl
    dsimp only
    split
    · rename_i r hg
      split
      · rename_i who hopening
        split
        · split
          · exact (hdone.trans (freeGrant_spansKept ..)).replyLater
          · refine (hdone.trans ?_).replyLater
            exact commitGrant_spansKept (who := who) hg hopening
        · exact hdone
      · exact hdone
    · exact hdone
  · exact .refl s

theorem postSelfTest_spansKept (s : State) : SpansKept s (postSelfTest s) := by
  unfold postSelfTest
  split <;> exact .of_view rfl

theorem answerOpenDue_spansKept (s : State) : SpansKept s (answerOpenDue s) := by
  unfold answerOpenDue
  split <;> exact .of_view rfl

theorem answerStaging_spansKept (s : State) : SpansKept s (answerStaging s) := by
  unfold answerStaging
  split
  · exact .refl s
  · dsimp only
    split <;> exact .of_view rfl

theorem makeRoom_spansKept (s : State) : SpansKept s (makeRoom s) := by
  unfold makeRoom reclaim
  split
  · split
    · exact freeEntry_spansKept ..
    · exact .refl s
  · exact .refl s

theorem storeParcel_spansKept (p : Parcel) (ks : List Key) (s : State) : SpansKept s (storeParcel p ks s).1 := by
  refine (makeRoom_spansKept s).trans ?_
  unfold storeParcel
  generalize makeRoom s = t
  dsimp only
  split
  · exact .of_view rfl
  · rename_i i _
    split
    · exact .of_view rfl
    · rw [commitParcel_eq]
      exact (committed_spansKept i p ks t).trans (.of_view rfl)

theorem settleVerify_spansKept (p : StagingPlace) (o : Option (List Key)) (s : State) :
    SpansKept s (settleVerify p o s).1 := by
  unfold settleVerify
  split
  · exact .of_view rfl
  · split
    · exact .refl s
    · split
      · exact .refl s
      · split
        · exact .refl s
        · exact storeParcel_spansKept ..

theorem postVerify_spansKept (s : State) : SpansKept s (postVerify s) := by
  unfold postVerify
  split
  · have htaken : SpansKept s (withoutResult s) := .of_view rfl
    exact (htaken.trans (settleVerify_spansKept _ _ _)).trans (.of_view rfl)
  · exact .refl s

/-! ## Power and start-up -/

theorem haltPart_spansKept (s : State) : SpansKept s (haltPart s) := .of_cleared (fun _ => slotGet_map_none ..) rfl rfl

theorem beginStartUp_spansKept (cause : StartCause) (s : State) : SpansKept s (beginStartUp cause s) :=
  .of_cleared (fun _ => slotGet_map_none ..) rfl rfl

theorem setPhase_spansKept (p : StartPhase) (s : State) : SpansKept s (setPhase p s) := .of_view rfl

theorem readFuses_spansKept (s : State) : SpansKept s (readFuses s) := by
  unfold readFuses
  dsimp only
  split <;> split
  · exact .of_view rfl
  · exact .of_view rfl
  · refine SpansKept.trans ?_ (raiseLevel_spansKept ..)
    exact .of_view rfl
  · refine SpansKept.trans ?_ (raiseLevel_spansKept ..)
    exact .of_view rfl

theorem correctStore_spansKept (s : State) : SpansKept s (correctStore s) :=
  (foldl_chain .refl .trans (fun t (p : Nat × ParcelEntry) =>
    (setEntry_spansKept p.1 _ t).trans (freeAtZero_spansKept ..)) _ s).trans (.of_view rfl)

/-- A lost store loses the time too (11 R171). -/
theorem loseStore_spansKept (s : State) : SpansKept s (loseStore s) := by
  refine SpansKept.trans ?_ (raiseLevel_spansKept ..)
  exact .of_grants rfl (fun _ _ => .rfl) nofun id

/-- There is no grant until STARTING ends (06 R110). -/
theorem GrantsCounted.noGrants_of_phase {s : State} (h : GrantsCounted s) (hp : s.control.phase ≠ .none) : NoGrants s :=
  (h.empty (.inl (h.phase hp))).1

theorem endNotices_spansKept (s : State) : SpansKept s (endNotices s) := by
  refine .of_view ?_
  simp only [spanView, endNotices, evaluateLevel, State.modSource_grants, State.modSource_deadlines,
    State.modSource_clock, State.modSource_control]

/-- STARTING ends with no grant, and the deadlines that are due are taken (07 R115). -/
theorem endStartUp_spansKept {s : State} (hp : s.control.phase = .finish) : SpansKeptCounted s (endStartUp s) := by
  have hdue : ∀ t, SpansKeptCounted s t → SpansKeptCounted s (if rebuildRuns t then runDeadlines t.now t else t) := by
    intro t ht
    split
    · exact ht.followed (runDeadlines_spansKept ..)
    · exact ht
  refine hdue _ (SpansKeptCounted.followed ?_ (endNotices_spansKept _))
  exact ⟨fun h => h.of_grants rfl fun _ hd _ => hd,
    fun c _ => NoGrants.spansListed (c.noGrants_of_phase (by rw [hp]; decide))⟩

end Sys2Proof.Machine
end

section
/-! PROOFS. Every command and every step: O9. -/

namespace Sys2Proof.Machine

/-! ## Commands that may do nothing -/

/-- A command whose condition does not hold changes nothing (log 5). -/
theorem SpansKept.ite {s t : State} {c : Prop} [Decidable c] (h : SpansKept s t) :
    SpansKept s (if c then t else s) := by
  split
  · exact h
  · exact .refl s

/-! ## Every command -/

theorem execFrameEnd_spansKept (rest : List Byte) (s : State) : ∃ t, execFrameEnd rest s = .next t ∧ SpansKept s t := by
  refine ⟨_, rfl, ?_⟩
  split
  · exact .ite (endFrame_spansKept ..)
  · exact .refl s

theorem execHoldRepeatTimer_spansKept (s : State) : ∃ t, execHoldRepeatTimer s = .next t ∧ SpansKept s t := by
  refine ⟨_, rfl, .ite ?_⟩
  split <;> exact .of_view rfl

/-- FRAME_TAKE frees a slot of the receive store, and then is the row of the frame it took (09 R152). -/
theorem execFrameTake_spansKept (s : State) : ∃ t, execFrameTake s = .next t ∧ SpansKeptCounted s t := by
  refine ⟨_, rfl, ?_⟩
  split
  · rename_i f rest _
    have htaken : Unmoved s { s with link := { s.link with stored := s.link.stored.drop 1 } } := .of_view rfl
    have hspans : SpansKept s (occupancyFell { s with link := { s.link with stored := s.link.stored.drop 1 } }) := by
      rw [occupancyFell_frame]; exact .of_view rfl
    have howner : OwnerKeepsSpans (ownerOfFrame f) := by
      unfold ownerOfFrame
      split
      · exact ownerOf_spansKept _
      · exact ownUnknownKind_spansKept
    split
    · exact .after hspans (htaken.trans (occupancyFell_unmoved _)).orderly (settle_spansKept howner f _)
    · exact (SpansKept.refl s).counted
  · exact (SpansKept.refl s).counted

theorem execUnknownKind_spansKept (src : Addr) (tag kind : Byte) (body : List Byte) (s : State) :
    ∃ t, execUnknownKind src tag kind body s = .next t ∧ SpansKeptCounted s t := by
  refine ⟨_, rfl, ?_⟩
  split
  · exact settle_spansKept ownUnknownKind_spansKept _ s
  · exact (SpansKept.refl s).counted

theorem execSendHold_spansKept (s : State) : ∃ t, execSendHold s = .next t ∧ SpansKept s t := by
  refine ⟨_, rfl, ?_⟩
  split
  · exact .ite (.of_view rfl)
  · exact .refl s

theorem execSendExpire_spansKept (s : State) : ∃ t, execSendExpire s = .next t ∧ SpansKept s t := by
  refine ⟨_, rfl, ?_⟩
  split
  · exact .ite (sendExpireFor_spansKept ..)
  · exact .refl s

theorem execSendAnswer_spansKept (s : State) : ∃ t, execSendAnswer s = .next t ∧ SpansKept s t := by
  refine ⟨_, rfl, ?_⟩
  split
  · exact .ite (.of_view rfl)
  · exact .refl s

theorem execSendNotice_spansKept (s : State) : ∃ t, execSendNotice s = .next t ∧ SpansKept s t := by
  refine ⟨_, rfl, ?_⟩
  split
  · exact .ite (.of_view rfl)
  · exact .refl s

theorem execTransmitFrameEnd_spansKept (s : State) : ∃ t, execTransmitFrameEnd s = .next t ∧ SpansKept s t := by
  refine ⟨_, rfl, ?_⟩
  split
  · have hsent : SpansKept s { s with link := { s.link with sending := none } } := .of_view rfl
    refine .ite ?_
    unfold finishSending
    dsimp only
    split
    · exact hsent.trans (beginStartUp_spansKept ..)
    · exact hsent
  · exact .refl s

theorem execCrystalSecond_spansKept (s : State) : ∃ t, execCrystalSecond s = .next t ∧ SpansKept s t := by
  have hnoted : SpansKept s (noteTick s) := .of_view rfl
  refine ⟨_, rfl, ?_⟩
  split
  · exact (hnoted.trans (countTrimYear_spansKept _)).trans (tickBooth_spansKept _)
  · exact hnoted

theorem execMainClockSecond_spansKept (deviation : Nat) (s : State) :
    ∃ t, execMainClockSecond deviation s = .next t ∧ SpansKept s t := by
  have hcounted : SpansKept s (countUptime s) := .of_view rfl
  exact ⟨_, rfl, .ite (((hcounted.trans (timeOutOpens_spansKept _)).trans
    (examineTestInterval_spansKept _)).trans (measure_spansKept ..))⟩

theorem execDriftRunLimit_spansKept (s : State) : ∃ t, execDriftRunLimit s = .next t ∧ SpansKept s t := by
  have hopen : SpansKept s (openWindow s) := .of_view rfl
  exact ⟨_, rfl, .ite (hopen.trans (reachDriftLimit_spansKept _))⟩

theorem execPowerOn_spansKept (s : State) : ∃ t, execPowerOn s = .next t ∧ SpansKept s t := by
  have hon : SpansKept s { s with control := { s.control with power := true } } := .of_view rfl
  refine ⟨_, rfl, ?_⟩
  split
  · exact .refl s
  · dsimp only
    split
    · exact hon.trans (haltPart_spansKept _)
    · exact hon.trans (beginStartUp_spansKept ..)

theorem execPowerLoss_spansKept (s : State) : ∃ t, execPowerLoss s = .next t ∧ SpansKept s t := by
  have hoff : SpansKept s { s with control := { s.control with power := false } } := .of_view rfl
  exact ⟨_, rfl, .ite (hoff.trans (haltPart_spansKept _))⟩

theorem execResetLineAssert_spansKept (s : State) : ∃ t, execResetLineAssert s = .next t ∧ SpansKept s t := by
  have hlow : SpansKept s { s with control := { s.control with resetLow := true } } := .of_view rfl
  refine ⟨_, rfl, ?_⟩
  split
  · exact .refl s
  · dsimp only
    split
    · exact hlow.trans (haltPart_spansKept _)
    · exact hlow

theorem execResetLineRelease_spansKept (s : State) : ∃ t, execResetLineRelease s = .next t ∧ SpansKept s t := by
  have hhigh : SpansKept s { s with control := { s.control with resetLow := false } } := .of_view rfl
  refine ⟨_, rfl, .ite ?_⟩
  dsimp only
  split
  · exact hhigh.trans (beginStartUp_spansKept ..)
  · exact hhigh

theorem execRetainedLoss_spansKept (s : State) : ∃ t, execRetainedLoss s = .next t ∧ SpansKept s t := by
  refine ⟨_, rfl, ?_⟩
  split
  · exact .refl s
  · exact .of_view rfl

theorem execRetainedCheck_spansKept (damaged : Bool) (s : State) :
    ∃ t, execRetainedCheck damaged s = .next t ∧ SpansKept s t := by
  refine ⟨_, rfl, .ite (SpansKept.trans ?_ (setPhase_spansKept ..))⟩
  split
  · exact correctStore_spansKept s
  · exact loseStore_spansKept s

theorem execClockCheck_spansKept (deviation : Nat) (s : State) :
    ∃ t, execClockCheck deviation s = .next t ∧ SpansKept s t := by
  refine ⟨_, rfl, .ite (SpansKept.trans ?_ (setPhase_spansKept ..))⟩
  rw [followLevel_frame]
  exact .of_view rfl

/-- REBUILD runs in STARTING, where there is no grant whose SPAN_END it could lose (06 R110, 07 R121). -/
theorem execRebuild_spansKept (s : State) : ∃ t, execRebuild s = .next t ∧ SpansKeptCounted s t := by
  refine ⟨_, rfl, ?_⟩
  split
  · rename_i hp
    have hrebuilt : SpansKeptCounted s (rebuildList s.now s) :=
      ⟨rebuildList_expiryListed _, fun c _ =>
        (rebuildList_noGrants _ (c.noGrants_of_phase (by rw [hp]; decide))).spansListed⟩
    exact hrebuilt.followed (setPhase_spansKept ..)
  · exact (SpansKept.refl s).counted

theorem execStartUpEnd_spansKept (s : State) : ∃ t, execStartUpEnd s = .next t ∧ SpansKeptCounted s t := by
  refine ⟨_, rfl, ?_⟩
  split
  · rename_i hp
    exact endStartUp_spansKept hp
  · exact (SpansKept.refl s).counted

/-- A command that keeps them whether or not the grants are counted. -/
theorem counted_of_spansKept {o : Host.Outcome State Fault Refusal} {s : State} (h : ∃ t, o = .next t ∧ SpansKept s t) :
    ∃ t, o = .next t ∧ SpansKeptCounted s t := h.imp fun _ ht => ⟨ht.1, ht.2.counted⟩

/-- Every command keeps the expire list and the SPAN_ENDs. -/
theorem exec_spansKept (c : Instr) (s : State) : ∃ t, exec c s = .next t ∧ SpansKeptCounted s t := by
  cases c with
  | frameTake => exact execFrameTake_spansKept s
  | unknownKind src tag kind body => exact execUnknownKind_spansKept src tag kind body s
  | status src tag body => exact requestRow_spansKept .status src tag body s
  | parcelLoad src tag body => exact requestRow_spansKept .parcelLoad src tag body s
  | parcelWithdraw src tag body => exact requestRow_spansKept .parcelWithdraw src tag body s
  | parcelList src tag body => exact requestRow_spansKept .parcelList src tag body s
  | openKeys src tag body => exact requestRow_spansKept .openKeys src tag body s
  | close src tag body => exact requestRow_spansKept .close src tag body s
  | extend src tag body => exact requestRow_spansKept .extend src tag body s
  | grantList src tag body => exact requestRow_spansKept .grantList src tag body s
  | timeTrim src tag body => exact requestRow_spansKept .timeTrim src tag body s
  | timeSet src tag body => exact requestRow_spansKept .timeSet src tag body s
  | stationEnrol src tag body => exact requestRow_spansKept .stationEnrol src tag body s
  | stationRetire src tag body => exact requestRow_spansKept .stationRetire src tag body s
  | stationSuspend src tag body => exact requestRow_spansKept .stationSuspend src tag body s
  | stationResume src tag body => exact requestRow_spansKept .stationResume src tag body s
  | stationRank src tag body => exact requestRow_spansKept .stationRank src tag body s
  | stationList src tag body => exact requestRow_spansKept .stationList src tag body s
  | modeKey src tag body => exact requestRow_spansKept .modeKey src tag body s
  | modeChange src tag body => exact requestRow_spansKept .modeChange src tag body s
  | settingWrite src tag body => exact requestRow_spansKept .settingWrite src tag body s
  | settingRead src tag body => exact requestRow_spansKept .settingRead src tag body s
  | zeroize src tag body => exact requestRow_spansKept .zeroize src tag body s
  | noticeRead src tag body => exact requestRow_spansKept .noticeRead src tag body s
  | noticeConfig src tag body => exact requestRow_spansKept .noticeConfig src tag body s
  | selfTest src tag body => exact requestRow_spansKept .selfTest src tag body s
  | restart src tag body => exact requestRow_spansKept .restart src tag body s
  | rebuild => exact execRebuild_spansKept s
  | startUpEnd => exact execStartUpEnd_spansKept s
  | frameHeader dst src => exact counted_of_spansKept ⟨_, rfl, .ite (judgeHeader_spansKept dst src s)⟩
  | frameEnd rest => exact counted_of_spansKept (execFrameEnd_spansKept rest s)
  | holdRepeatTimer => exact counted_of_spansKept (execHoldRepeatTimer_spansKept s)
  | crystalSecond => exact counted_of_spansKept (execCrystalSecond_spansKept s)
  | trimYearWrap => exact counted_of_spansKept ⟨_, rfl, .ite (.of_view rfl)⟩
  | mainClockSecond deviation => exact counted_of_spansKept (execMainClockSecond_spansKept deviation s)
  | driftRunLimit => exact counted_of_spansKept (execDriftRunLimit_spansKept s)
  | openWaitTimeout => exact counted_of_spansKept ⟨_, rfl, .ite (timeOutOpens_spansKept s)⟩
  | periodicTestDue => exact counted_of_spansKept ⟨_, rfl, .ite (examineTestInterval_spansKept s)⟩
  | engineArbiterChoice => exact counted_of_spansKept ⟨_, rfl, arbitrate_spansKept _ s⟩
  | katComplete pass => exact counted_of_spansKept ⟨_, rfl, completeKat_spansKept pass s⟩
  | verifyComplete done => exact counted_of_spansKept ⟨_, rfl, completeVerify_spansKept s⟩
  | rewrapComplete => exact counted_of_spansKept ⟨_, rfl, completeRewrap_spansKept s⟩
  | verifyPosting => exact counted_of_spansKept ⟨_, rfl, .ite (postVerify_spansKept s)⟩
  | rewrapPosting => exact counted_of_spansKept ⟨_, rfl, .ite (postRewrap_spansKept s)⟩
  | selfTestPosting => exact counted_of_spansKept ⟨_, rfl, .ite (postSelfTest_spansKept s)⟩
  | openAnswerDue => exact counted_of_spansKept ⟨_, rfl, .ite (answerOpenDue_spansKept s)⟩
  | stagingAnswerDue => exact counted_of_spansKept ⟨_, rfl, .ite (answerStaging_spansKept s)⟩
  | sendHold => exact counted_of_spansKept (execSendHold_spansKept s)
  | sendExpire => exact counted_of_spansKept (execSendExpire_spansKept s)
  | sendAnswer => exact counted_of_spansKept (execSendAnswer_spansKept s)
  | sendNotice => exact counted_of_spansKept (execSendNotice_spansKept s)
  | linkDown => exact counted_of_spansKept ⟨_, rfl, .of_view rfl⟩
  | linkUp => exact counted_of_spansKept ⟨_, rfl, .of_view rfl⟩
  | powerOn => exact counted_of_spansKept (execPowerOn_spansKept s)
  | powerLoss => exact counted_of_spansKept (execPowerLoss_spansKept s)
  | resetLineAssert => exact counted_of_spansKept (execResetLineAssert_spansKept s)
  | resetLineRelease => exact counted_of_spansKept (execResetLineRelease_spansKept s)
  | startUpBegin =>
    exact counted_of_spansKept ⟨_, rfl, .ite ((beginStartUp_spansKept ..).trans (setPhase_spansKept ..))⟩
  | fuseLoad => exact counted_of_spansKept ⟨_, rfl, .ite ((readFuses_spansKept s).trans (setPhase_spansKept ..))⟩
  | retainedCheck damaged => exact counted_of_spansKept (execRetainedCheck_spansKept damaged s)
  | clockCheck deviation => exact counted_of_spansKept (execClockCheck_spansKept deviation s)
  | transmitFrameEnd => exact counted_of_spansKept (execTransmitFrameEnd_spansKept s)
  | retainedLoss => exact counted_of_spansKept (execRetainedLoss_spansKept s)

/-- A step takes the front command from the queue and runs it; with none waiting it changes nothing. -/
theorem step_spansKept {s t : State} (h : step s = .next t) : SpansKeptCounted s t := by
  unfold step at h
  split at h
  · cases h; exact (SpansKept.refl s).counted
  · rename_i c rest _
    obtain ⟨u, hu, hkept⟩ := exec_spansKept c { s with pending := rest }
    rw [hu] at h
    cases h
    have htaken : Unmoved s { s with pending := rest } := .of_view rfl
    have hspans : SpansKept s { s with pending := rest } := .of_view rfl
    exact .after hspans htaken.orderly hkept

/-- Settles O9: every command keeps list and records together, and leaves no OPEN record without its SPAN_END. -/
theorem expiryListKept : Obligations.ExpiryListKept :=
  ⟨fun _ _ h hs => (step_spansKept hs).expiry h, fun _ _ c h hs => (step_spansKept hs).spans c h⟩

end Sys2Proof.Machine
end

section
/-! PROOFS. One event of the Deadline List, firing by firing (O15). -/

namespace Sys2Proof.Machine

/-! ## The order of the firings (07 R114) -/

/-- Once the fuel covers every firing the list can bring, more of it changes nothing. -/
theorem fireDue_fuel {f₁ f₂ n : Nat} {s : State} (h₁ : firingsIn s.deadlines ≤ f₁) (h₂ : firingsIn s.deadlines ≤ f₂) :
    fireDue f₁ n s = fireDue f₂ n s := by
  induction f₁ generalizing f₂ s with
  | zero =>
    cases f₂ with
    | zero => rfl
    | succ f₂ =>
      cases hs : s.deadlines with
      | nil => simp [fireDue, hs]
      | cons d rest =>
        have := firingsOf_pos d
        rw [hs, firingsIn_cons] at h₁; omega
  | succ f₁ ih =>
    cases hs : s.deadlines with
    | nil => cases f₂ <;> simp [fireDue, hs]
    | cons d rest =>
      have hpos := firingsOf_pos d
      have hspent := firingsIn_fireOne_lt d { s with deadlines := rest }
      rw [hs, firingsIn_cons] at h₁ h₂
      cases f₂ with
      | zero => omega
      | succ f₂ =>
        simp only [fireDue, hs]
        split
        · exact ih (by simp only at hspent; omega) (by simp only at hspent; omega)
        · rfl

/-- A head that is due leaves the list, its owner acts, and the rest is taken from the state as it then stands. -/
theorem runDeadlines_of_due {n : Nat} {s : State} {d : Deadline} {rest : List Deadline} (hs : s.deadlines = d :: rest)
    (hd : d.due ≤ n) : runDeadlines n s = runDeadlines n (fireOne d { s with deadlines := rest }) := by
  have hspent := firingsIn_fireOne_lt d { s with deadlines := rest }
  have hrest := firingsIn_le rest
  have hone : firingsOf d ≤ 2 := by unfold firingsOf; split <;> decide
  have hfirst : runDeadlines n s = fireDue (2 * rest.length + 1) n (fireOne d { s with deadlines := rest }) := by
    unfold runDeadlines
    rw [hs, List.length_cons, Nat.mul_succ]
    simp only [fireDue, hs, if_pos hd]
  exact hfirst.trans (fireDue_fuel (by simp only at hspent; omega) (firingsIn_le _))

/-- With nothing due at the head, nothing fires. -/
theorem runDeadlines_of_ahead {n : Nat} {s : State} (h : ∀ d rest, s.deadlines = d :: rest → n < d.due) :
    runDeadlines n s = s := by
  cases hs : s.deadlines with
  | nil => simp [runDeadlines, hs, fireDue]
  | cons d rest =>
    unfold runDeadlines
    rw [hs, List.length_cons, Nat.mul_succ]
    simp only [fireDue, hs, if_neg (Nat.not_le.mpr (h d rest hs))]

theorem fireDue_inOrder (fuel n : Nat) {s : State} (h : InOrder s.deadlines) :
    InOrder (fireDue fuel n s).deadlines := by
  induction fuel generalizing s with
  | zero => exact h
  | succ fuel ih =>
    unfold fireDue
    split
    · exact h
    · rename_i d rest hs
      split
      · rw [hs] at h
        exact ih (fireOne_inOrder (List.pairwise_cons.mp h).2)
      · exact h

theorem runDeadlines_inOrder (n : Nat) {s : State} (h : InOrder s.deadlines) : InOrder (runDeadlines n s).deadlines :=
  fireDue_inOrder _ n h

/-! ## What each kind of deadline does (07 R116 to R118, 06 R99) -/

theorem fireWindowStart_eq {i : Nat} {e : ParcelEntry} {s : State} (he : s.entry i = some e)
    (hl : e.state = .latent) : fireWindowStart i s = s.setEntry i (some { e with state := .live }) := by
  simp only [fireWindowStart, he, if_pos hl, setEntryState_eq _ he]

theorem fireWindowEnd_eq {i : Nat} {e : ParcelEntry} {s : State} (he : s.entry i = some e)
    (hk : e.holdsKeys = true) : fireWindowEnd i s = raisePulse Src.parcelLapsed { s with
      deadlines := insertDeadline
        { due := min (e.es + s.stations.settings.purgeDelay * 60) 4294967295, kind := .purge, ref := i } s.deadlines
      store := { s.store with
        table := s.store.table.set i (some { e with state := .lapsed, refs := [] })
        keys := eraseKeys e.refs s.store.keys } } := by
  simp only [fireWindowEnd, he, if_pos hk, lapseEntry_eq he]
  rfl

theorem firePurge_eq_free {i : Nat} {e : ParcelEntry} {s : State} (he : s.entry i = some e) (hl : e.state = .lapsed)
    (h0 : e.grantCount = 0) : firePurge i s = freeEntry i s := by
  simp only [firePurge, he, if_pos hl, if_pos h0]

theorem firePurge_eq_mark {i : Nat} {e : ParcelEntry} {s : State} (he : s.entry i = some e) (hl : e.state = .lapsed)
    (h0 : 0 < e.grantCount) : firePurge i s = s.setEntry i (some { e with purgeDue := true }) := by
  simp only [firePurge, he, if_pos hl, if_neg (Nat.ne_of_gt h0)]

/-- The state in which a record expires (06 R99, R100). -/
theorem expireGrant_eq {g : Nat} {r : Grant} {s : State} (why : Reason) (hr : s.grant g = some r) :
    expireGrant g why s = { s with
      deadlines := s.deadlines.filter fun q => !(q.kind == .spanEnd && q.ref == g)
      grants := { s.grants with
        slots := s.grants.slots.set g (some { r with state := .expiring why })
        expireList := s.grants.expireList ++ [g] } } := by
  simp only [expireGrant, hr]
  rfl

theorem fireSpanEnd_eq {g : Nat} {r : Grant} {s : State} (hr : s.grant g = some r) (ho : r.state = .opened) :
    fireSpanEnd g s = raisePulse Src.grantExpired (expireGrant g .span s) := by
  simp only [fireSpanEnd, hr, if_pos ho]

/-- Settles O15: the list keeps its order and comes to lie ahead; its head fires by its kind. -/
theorem firingLeavesNothingDue : Obligations.FiringLeavesNothingDue := by
  intro n s
  refine ⟨fun ho => ⟨runDeadlines_inOrder n ho, runDeadlines_ahead ho⟩, runDeadlines_of_ahead, ?_⟩
  intro d rest hs hd
  refine ⟨fun e he => ?_, fun r hk hr ho => ?_⟩
  · have he' : State.entry { s with deadlines := rest } d.ref = some e := he
    refine ⟨fun hk hl => ?_, fun hk hh => ⟨?_, fun _ => slotGet_eraseKeys ..⟩, fun hk hl h0 => ?_, fun hk hl h0 => ?_⟩ <;>
      rw [runDeadlines_of_due hs hd] <;> simp only [fireOne, hk]
    · rw [fireWindowStart_eq he' hl]; rfl
    · rw [fireWindowEnd_eq he' hh]
    · rw [firePurge_eq_free he' hl h0, freeEntry_eq he']
    · rw [firePurge_eq_mark he' hl h0]; rfl
  · have hr' : State.grant { s with deadlines := rest } d.ref = some r := hr
    rw [runDeadlines_of_due hs hd]
    simp only [fireOne, hk]
    rw [fireSpanEnd_eq hr' ho, expireGrant_eq _ hr']

end Sys2Proof.Machine
end

section
/-! PROOFS. PARCEL_WITHDRAW (O29, O30). -/

namespace Sys2Proof.Machine

/-! ## The parcel that the identifier names (07 R124, R125) -/

/-- Every check of PARCEL_WITHDRAW passes (07 R123). -/
theorem exec_parcelWithdraw {src : Addr} {tag : Byte} {body : List Byte} {s : State} {who : Sender}
    (h : ServedProgrammer s src who) (hb : body.length = 9) (hforce : num body 8 1 < 2) :
    exec (.parcelWithdraw src tag body) s =
      .next (withdraw { src := src, kind := Kind.parcelWithdraw.value, tag := tag, body := body } s) := by
  refine (exec_served h.toServed .parcelWithdraw tag body).trans (congrArg _ (checked_of_passed ?_ _ s))
  simp only [withdrawChecks, List.forall_mem_cons]
  exact ⟨sealedCheck_passed h.toServed, roleCheck_programmer h.role, suspendedCheck_passed h.enrolled,
    by simp [lengthThen, hb, hforce], nofun⟩

/-- No staging place in WAITING or VERIFYING carries the identifier. -/
theorem stagedPlace_eq_none {id : ParcelId} {s : State}
    (h : ∀ p ∈ s.store.staging, p.parcel.id = id → ∃ c, p.phase = .answerDue c) : stagedPlace id s = none := by
  refine List.findIdx?_eq_none_iff.mpr fun p hp => ?_
  by_cases hid : p.parcel.id = id
  · obtain ⟨c, hc⟩ := h p hp hid
    simp [hc]
  · simp [hid]

/-- A staged parcel that carries the identifier is withdrawn at its place. -/
theorem withdraw_staged {f : Frame} {s : State} {i : Nat} {p : StagingPlace}
    (hi : stagedPlace (str 64 f.body 0) s = some i) (hp : s.store.staging[i]? = some p) :
    withdraw f s = withdrawStaged i p f s := by
  simp only [withdraw, hi, hp]

/-- The one entry that carries the identifier is withdrawn. -/
theorem withdraw_committed {f : Frame} {s : State} {i : Nat} {e : ParcelEntry}
    (hstaged : stagedPlace (str 64 f.body 0) s = none) (he : s.entry i = some e) (hid : e.id = str 64 f.body 0)
    (hone : ∀ j f', s.entry j = some f' → f'.id = str 64 f.body 0 → j = i) :
    withdraw f s = withdrawCommitted i e (num f.body 8 1 == 1) f s := by
  have hfound : (listUsed s.store.table).find? (fun p => p.2.id == str 64 f.body 0) = some (i, e) := by
    cases hfind : (listUsed s.store.table).find? (fun p => p.2.id == str 64 f.body 0) with
    | none =>
      have hmiss := List.find?_eq_none.mp hfind (i, e) (mem_listUsed.mpr he)
      simp [hid] at hmiss
    | some p =>
      have hp : s.entry p.1 = some p.2 := mem_listUsed.mp (List.mem_of_find?_eq_some hfind)
      have hpid : p.2.id = str 64 f.body 0 := by simpa using List.find?_some hfind
      obtain rfl : p.1 = i := hone _ _ hp hpid
      rw [Option.some.inj (he.symm.trans hp)]
  simp only [withdraw, hstaged, hfound]

/-- An identifier that is held nowhere. -/
theorem withdraw_unknown {f : Frame} {s : State} (hstaged : stagedPlace (str 64 f.body 0) s = none)
    (hnone : ∀ j e, s.entry j = some e → e.id ≠ str 64 f.body 0) :
    withdraw f s = reply f (refuse .unknownParcel) s := by
  have hfind : (listUsed s.store.table).find? (fun p => p.2.id == str 64 f.body 0) = none :=
    List.find?_eq_none.mpr fun p hp => by simpa using hnone p.1 p.2 (mem_listUsed.mp hp)
  simp only [withdraw, hstaged, hfind]

/-! ## A staged parcel (07 R124) -/

/-- Settles O30, by the place that holds the parcel and its phase. -/
theorem withdrawalOfAStagedParcel : Obligations.WithdrawalOfAStagedParcel := by
  intro src tag body s who h hb hforce
  refine ⟨fun p rest hs hid => ?_, fun p q hs hp hq hw => ?_, fun hdue hnone => ?_⟩ <;>
    rw [exec_parcelWithdraw h hb hforce]
  · have hhead : s.store.staging[0]? = some p := by rw [hs]; rfl
    refine ⟨fun hw => ?_, fun mark hv => ?_⟩
    · have hplace : stagedPlace (str 64 body 0) s = some 0 := by simp [stagedPlace, List.findIdx?_cons, hs, hid, hw]
      rw [withdraw_staged hplace hhead]
      simp only [withdrawStaged, hw, hs]
      rfl
    · have hplace : stagedPlace (str 64 body 0) s = some 0 := by simp [stagedPlace, List.findIdx?_cons, hs, hid, hv]
      rw [withdraw_staged hplace hhead]
      simp only [withdrawStaged, hv, hs]
      rfl
  · have hplace : stagedPlace (str 64 body 0) s = some 1 := by simp [stagedPlace, List.findIdx?_cons, hs, hp, hq, hw]
    rw [withdraw_staged hplace (p := q) (by rw [hs]; rfl)]
    simp only [withdrawStaged, hw, hs]
    rfl
  · rw [withdraw_unknown (stagedPlace_eq_none hdue) hnone]
    rfl

/-! ## A forced expiry in the Deadline List and the notice sources (06 R100) -/

theorem foldl_expireGrant_deadlines {hit : List Nat} (why : Reason) {s : State}
    (hs : ∀ g ∈ hit, ∃ r, s.grant g = some r) : (hit.foldl (fun t g => expireGrant g why t) s).deadlines =
      s.deadlines.filter fun d => !(d.kind == .spanEnd && hit.contains d.ref) := by
  induction hit generalizing s with
  | nil => simp
  | cons g hit ih =>
    obtain ⟨r, hr⟩ := hs g List.mem_cons_self
    have hrest : ∀ x ∈ hit, ∃ q, (expireGrant g why s).grant x = some q := fun x hx => by
      obtain ⟨q, hq⟩ := hs x (List.mem_cons_of_mem _ hx)
      rw [expireGrant_grant, hq]
      split <;> exact ⟨_, rfl⟩
    rw [List.foldl_cons, ih hrest, expireGrant_eq why hr, List.filter_filter]
    refine List.filter_congr fun d _ => ?_
    rw [List.contains_cons]
    cases d.kind == .spanEnd <;> cases d.ref == g <;> simp

/-- The SPAN_END of each record that is made EXPIRING leaves the list, and no other deadline. -/
theorem forceExpiry_deadlines (pick : Grant → Bool) (why : Reason) (s : State) :
    (forceExpiry pick why s).deadlines =
      s.deadlines.filter fun d => !(d.kind == .spanEnd && (reached pick s).contains d.ref) := by
  have hs : ∀ g ∈ reached pick s, ∃ r, s.grant g = some r := fun g hg => (mem_reached.mp hg).imp fun _ hr => hr.1
  unfold forceExpiry
  cases hr : reached pick s with
  | nil => simp
  | cons g rest => rw [← foldl_expireGrant_deadlines why (hr ▸ hs)]; rfl

/-- FORCED_EXPIRY is raised when a record was reached. -/
theorem forceExpiry_attention {pick : Grant → Bool} {s : State} (why : Reason) (h : reached pick s ≠ []) :
    (forceExpiry pick why s).attention = (raisePulse Src.forcedExpiry s).attention := by
  unfold forceExpiry
  split
  · exact absurd (by assumption) h
  · have hcontrol := (foldl_work _ (fun t g => expireGrant_work g why t) (reached pick s) s).control
    simp only [raisePulse, raiseOne, State.modSource]
    rw [foldl_expireGrant_attention, hcontrol]

theorem forceExpiry_work (pick : Grant → Bool) (why : Reason) (s : State) :
    OnlyDeadlineWork s (forceExpiry pick why s) := by
  unfold forceExpiry
  split
  · rfl
  · exact (foldl_work _ (fun t g => expireGrant_work g why t) _ s).trans (raisePulse_work ..)

/-! ## A committed parcel (07 R125, R126) -/

theorem slotGet_eraseKeys_of_mem {refs : List KeyRef} {r : KeyRef} (h : r ∈ refs) (keys : List (Option Key)) :
    slotGet (eraseKeys refs keys) r.slot = none := by
  rw [slotGet_eraseKeys, if_pos (List.mem_map_of_mem h)]

theorem slotGet_eraseKeys_of_forall_ne {refs : List KeyRef} {k : Nat} (h : ∀ r ∈ refs, r.slot ≠ k)
    (keys : List (Option Key)) : slotGet (eraseKeys refs keys) k = slotGet keys k := by
  rw [slotGet_eraseKeys, if_neg]
  intro hk
  obtain ⟨r, hr, hrk⟩ := List.mem_map.mp hk
  exact h r hr hrk

/-- An entry that records name is WITHDRAWN without keys and purge due; the others stay (07 R126). -/
theorem withdrawEntry_entry {i : Nat} {e : ParcelEntry} {s : State} (he : s.entry i = some e) (j : Nat) :
    (withdrawEntry i e s).entry j =
      if i = j then some { e with state := .withdrawn, refs := [], purgeDue := false } else s.entry j := by
  rw [withdrawEntry_eq he]
  refine (State.entry_setEntry s i j _).trans ?_
  simp only [State.entry_lt he, and_true]

theorem withdrawEntry_keys {i : Nat} {e : ParcelEntry} {s : State} (he : s.entry i = some e) :
    (withdrawEntry i e s).store.keys = eraseKeys e.refs s.store.keys := by rw [withdrawEntry_eq he]; rfl

theorem withdrawEntry_deadlines {i : Nat} {e : ParcelEntry} {s : State} (he : s.entry i = some e) :
    (withdrawEntry i e s).deadlines = s.deadlines.filter fun d => !(d.kind != .spanEnd && d.ref == i) := by
  rw [withdrawEntry_eq he]; rfl

theorem withdrawEntry_only (i : Nat) (e : ParcelEntry) (s : State) : OnlyParcels s (withdrawEntry i e s) :=
  ((setEntry_only ..).trans (eraseEntry_only ..)).trans (dropParcelDeadlines_only ..)

/-- An entry that no record names is freed (07 R125). -/
theorem withdrawCommitted_unnamed {i : Nat} {e : ParcelEntry} (force : Bool) (f : Frame) {s : State}
    (h0 : e.grantCount = 0) : withdrawCommitted i e force f s =
      reply f { code := .ok, detail := withdrawDetail 3 0 0 } (freeEntry i s) := if_pos h0

/-- The state in which an entry that records name is WITHDRAWN, and with FORCE its OPEN records expire (07 R126). -/
def withdrawn (i : Nat) (e : ParcelEntry) (force : Bool) (s : State) : State :=
  forceExpiry (fun g => force && g.parcel == i) .withdrawn (withdrawEntry i e s)

theorem withdrawCommitted_named {i : Nat} {e : ParcelEntry} (force : Bool) (f : Frame) {s : State}
    (h0 : 0 < e.grantCount) : withdrawCommitted i e force f s =
      reply f { code := .ok, detail :=
        withdrawDetail 4 (reached (fun g => force && g.parcel == i) s).length e.grantCount }
        (withdrawn i e force s) := if_neg (Nat.ne_of_gt h0)

/-- All that the withdrawal of an entry that records name does. -/
theorem withdrawn_spec (i : Nat) (e : ParcelEntry) (force : Bool) (s : State) :
    (withdrawn i e force s).store = (withdrawEntry i e s).store ∧
    (withdrawn i e force s).deadlines = (withdrawEntry i e s).deadlines.filter (fun d =>
      !(d.kind == .spanEnd && (reached (fun g => force && g.parcel == i) s).contains d.ref)) ∧
    (∀ g, (withdrawn i e force s).grant g = (s.grant g).map fun r =>
      if r.state = .opened ∧ (force && r.parcel == i) = true then { r with state := .expiring .withdrawn } else r) ∧
    (withdrawn i e force s).grants.gens = s.grants.gens ∧
    (withdrawn i e force s).grants.expireList =
      s.grants.expireList ++ reached (fun g => force && g.parcel == i) s ∧
    OnlyDeadlineWork s (withdrawn i e force s) := by
  have honly := withdrawEntry_only i e s
  have hreached := reached_congr honly.grants fun g => force && g.parcel == i
  obtain ⟨hgrant, hlist, hgens, -, hframe⟩ :=
    forceExpiry_grants (fun g => force && g.parcel == i) .withdrawn (withdrawEntry i e s)
  rw [hreached, honly.grants] at hlist
  rw [honly.grants] at hgens
  refine ⟨(congrArg State.store hframe :), ?_, fun g => (hgrant g).trans ?_, hgens, hlist, ?_⟩
  · rw [← hreached]; exact forceExpiry_deadlines ..
  · rw [State.grant_congr honly.grants]
  · exact honly.deadlineWork.trans (forceExpiry_work ..)

theorem withdrawn_reached (i : Nat) (e : ParcelEntry) (force : Bool) (s : State) :
    reached (fun g => force && g.parcel == i) (withdrawEntry i e s) =
      reached (fun g => force && g.parcel == i) s := reached_congr (withdrawEntry_only i e s).grants _

theorem withdrawEntry_attention {i : Nat} {e : ParcelEntry} {s : State} (he : s.entry i = some e) :
    (withdrawEntry i e s).attention = s.attention := by rw [withdrawEntry_eq he]; rfl

theorem withdrawn_attention_of_none {i : Nat} {e : ParcelEntry} {force : Bool} {s : State} (he : s.entry i = some e)
    (h : reached (fun g => force && g.parcel == i) s = []) : (withdrawn i e force s).attention = s.attention := by
  rw [withdrawn, forceExpiry_of_none _ ((withdrawn_reached i e force s).trans h), withdrawEntry_attention he]

/-- FORCED_EXPIRY is raised when a record was made EXPIRING (06 R100). -/
theorem withdrawn_attention {i : Nat} {e : ParcelEntry} {force : Bool} {s : State} (he : s.entry i = some e)
    (h : reached (fun g => force && g.parcel == i) s ≠ []) :
    (withdrawn i e force s).attention = (raisePulse Src.forcedExpiry s).attention := by
  rw [withdrawn, forceExpiry_attention _ ((withdrawn_reached i e force s).trans_ne h), withdrawEntry_eq he]
  rfl

/-- What a request changes that does deadline work and answers. -/
theorem OnlyDeadlineWork.reply {s u : State} (h : OnlyDeadlineWork s u) (f : Frame) (r : Reply) :
    reply f r u = { s with
      store := { s.store with table := u.store.table, keys := u.store.keys }
      deadlines := u.deadlines
      grants := u.grants
      attention := u.attention
      link := (reply f r s).link } := by
  unfold OnlyDeadlineWork at h; rw [h]; rfl

/-- Settles O29: the entry is freed when no record names it, and else WITHDRAWN, with FORCE its OPEN records EXPIRING. -/
theorem withdrawalOfACommittedParcel : Obligations.WithdrawalOfACommittedParcel := by
  intro src tag body s who i e h hb hforce hstaged he hid hone
  have hnone : stagedPlace (str 64 body 0) s = none :=
    stagedPlace_eq_none fun p hp hpid => absurd hpid (hstaged p hp)
  rw [exec_parcelWithdraw h hb hforce, withdraw_committed hnone he hid hone]
  dsimp only
  by_cases h0 : e.grantCount = 0
  · have hreply := (freeEntry_only i s).deadlineWork.reply
      { src := src, kind := Kind.parcelWithdraw.value, tag := tag, body := body }
      { code := .ok, detail := withdrawDetail 3 0 0 }
    rw [withdrawCommitted_unnamed _ _ h0]
    refine ⟨_, rfl, fun j hj => ?_, fun r hr => ?_, fun k hk => ?_, ?_, fun _ => ⟨?_, ?_, ?_, ?_⟩,
      fun hpos => absurd h0 (Nat.ne_of_gt hpos), ?_⟩
    · exact (freeEntry_entry i j s).trans (if_neg (Ne.symm hj))
    · exact (congrArg (slotGet · r.slot) (freeEntry_keys he)).trans (slotGet_eraseKeys_of_mem hr _)
    · exact (congrArg (slotGet · k) (freeEntry_keys he)).trans (slotGet_eraseKeys_of_forall_ne hk _)
    · refine (freeEntry_deadlines i s).trans (List.filter_congr fun d _ => ?_)
      simp [h0]
    · exact (freeEntry_entry i i s).trans (if_pos rfl)
    · exact (freeEntry_only i s).grants
    · exact freeEntry_attention i s
    · rw [hreply]; rfl
    · rw [hreply]
  · have hpos := Nat.pos_of_ne_zero h0
    obtain ⟨hstore, hdeadlines, hgrant, hgens, hlist, hwork⟩ := withdrawn_spec i e (num body 8 1 == 1) s
    have hreply := hwork.reply { src := src, kind := Kind.parcelWithdraw.value, tag := tag, body := body }
      { code := .ok, detail :=
        withdrawDetail 4 (reached (fun g => num body 8 1 == 1 && g.parcel == i) s).length e.grantCount }
    rw [withdrawCommitted_named _ _ hpos]
    have hentry : ∀ j, (withdrawn i e (num body 8 1 == 1) s).entry j = (withdrawEntry i e s).entry j := fun j => by
      unfold State.entry; rw [hstore]
    have hkeys : (withdrawn i e (num body 8 1 == 1) s).store.keys = eraseKeys e.refs s.store.keys := by
      rw [hstore, withdrawEntry_keys he]
    refine ⟨_, rfl, fun j hj => ?_, fun r hr => ?_, fun k hk => ?_, ?_, fun hz => absurd hz h0,
      fun _ => ⟨?_, fun g => ?_, hgens, hlist, fun hno => ?_, fun hsome => ⟨?_, fun hsrc => ?_⟩, ?_⟩, ?_⟩
    · exact ((hentry j).trans (withdrawEntry_entry he j)).trans (if_neg (Ne.symm hj))
    · exact (congrArg (slotGet · r.slot) hkeys).trans (slotGet_eraseKeys_of_mem hr _)
    · exact (congrArg (slotGet · k) hkeys).trans (slotGet_eraseKeys_of_forall_ne hk _)
    · refine hdeadlines.trans ?_
      rw [withdrawEntry_deadlines he, List.filter_filter]
      refine List.filter_congr fun d _ => ?_
      by_cases hf : num body 8 1 = 1 <;> simp [hf, hpos, reached, Bool.and_comm]
    · exact ((hentry i).trans (withdrawEntry_entry he i)).trans (if_pos rfl)
    · refine (hgrant g).trans (congrArg (Option.map · _) (funext fun r => ?_))
      simp [and_left_comm]
    · exact withdrawn_attention_of_none he hno
    · exact withdrawn_attention he hsome
    · show ((withdrawn i e _ s).source Src.forcedExpiry).status = true
      unfold State.source
      rw [withdrawn_attention he hsome]
      exact raisePulse_source_self (by rw [hsrc]; decide)
    · rw [hreply]; rfl
    · rw [hreply]

end Sys2Proof.Machine
end

section
/-! PROOFS. A rebuild, entry by entry and key by key (O16). -/

namespace Sys2Proof.Machine

/-! ## What becomes of an entry (07 Table 7.3) -/

/-- Step 1 on one entry: it lapses when its window has ended. -/
def lapsedEntry (n : Nat) (e : ParcelEntry) : ParcelEntry :=
  if e.holdsKeys = true ∧ e.es ≤ n then { e with state := .lapsed, refs := [] } else e

/-- Step 2 on one entry: it is LIVE from its window start on, and LATENT before it. -/
def classedEntry (n : Nat) (e : ParcelEntry) : ParcelEntry :=
  if e.holdsKeys then { e with state := if e.ss ≤ n then .live else .latent } else e

/-- What the steps of a rebuild at `n` make of an entry; step 3 frees it when its purge due has passed. -/
def rebuiltEntry (n : Nat) (s : State) (e : ParcelEntry) : Option ParcelEntry :=
  if (classedEntry n (lapsedEntry n e)).state = .lapsed ∧ purgeAt s e ≤ n then none
  else some (classedEntry n (lapsedEntry n e))

theorem classedEntry_of_due {n : Nat} {e : ParcelEntry} (hk : e.holdsKeys = true) (hend : e.es ≤ n) :
    classedEntry n (lapsedEntry n e) = { e with state := .lapsed, refs := [] } := by
  rw [lapsedEntry, if_pos ⟨hk, hend⟩]; rfl

theorem classedEntry_of_ahead {n : Nat} {e : ParcelEntry} (hk : e.holdsKeys = true) (hend : n < e.es) :
    classedEntry n (lapsedEntry n e) = { e with state := if e.ss ≤ n then .live else .latent } := by
  rw [lapsedEntry, if_neg fun h => Nat.not_le.mpr hend h.2, classedEntry, if_pos hk]

theorem classedEntry_of_keyless {n : Nat} {e : ParcelEntry} (hk : e.holdsKeys = false) :
    classedEntry n (lapsedEntry n e) = e := by
  simp [lapsedEntry, classedEntry, hk]

/-- A rebuild leaves an entry its window. -/
theorem classedEntry_window (n : Nat) (e : ParcelEntry) :
    (classedEntry n (lapsedEntry n e)).winStart = e.winStart ∧ (classedEntry n (lapsedEntry n e)).winEnd = e.winEnd := by
  unfold classedEntry lapsedEntry
  split <;> split <;> exact ⟨rfl, rfl⟩

/-- The lapses of a list reach the entries of its indices, each to one effect however often. -/
theorem foldl_lapseEntry_entry (l : List (Nat × ParcelEntry)) (s : State) (i : Nat) :
    (l.foldl (fun t p => lapseEntry p.1 t) s).entry i = if ∃ p ∈ l, p.1 = i
      then (s.entry i).map (fun e => { e with state := .lapsed, refs := [] }) else s.entry i := by
  induction l generalizing s with
  | nil => simp
  | cons q l ih =>
    rw [List.foldl_cons, ih, lapseEntry_entry]
    simp only [List.mem_cons, exists_eq_or_imp]
    by_cases hq : q.1 = i
    · simp [hq, Function.comp_def]
    · simp only [hq, if_false, false_or]

theorem rebuildLapse_entry (n : Nat) (s : State) (i : Nat) :
    (rebuildLapse n s).entry i = (s.entry i).map (lapsedEntry n) := by
  rw [rebuildLapse, foldl_lapseEntry_entry]
  have hmem : (∃ p ∈ byEnd ((listUsed s.store.table).filter fun p => p.2.holdsKeys && p.2.es ≤ n), p.1 = i) ↔
      ∃ e, s.entry i = some e ∧ e.holdsKeys = true ∧ e.es ≤ n := by
    simp only [mem_byEnd, List.mem_filter, mem_listUsed, Bool.and_eq_true, decide_eq_true_eq]
    constructor
    · rintro ⟨p, ⟨hp, hdue⟩, rfl⟩
      exact ⟨p.2, hp, hdue⟩
    · rintro ⟨e, he, hdue⟩
      exact ⟨(i, e), ⟨he, hdue⟩, rfl⟩
  simp only [hmem]
  cases he : s.entry i with
  | none => simp
  | some e =>
    simp only [Option.some.injEq, exists_eq_left', Option.map_some, lapsedEntry, apply_ite some]

theorem rebuildInsert_entry (s : State) (i : Nat) : (rebuildInsert s).entry i = s.entry i := by
  unfold State.entry; rw [(rebuildInsert_unmoved s).table]

/-- The steps before the deadlines are inserted leave the settings, by which purge due is reckoned. -/
theorem rebuildClassify_stations (n : Nat) (s : State) :
    (rebuildClassify n (rebuildLapse n s)).stations = s.stations :=
  ((rebuildLapse_work n s).trans (rebuildClassify_work n _)).stations

theorem purgeAt_congr {s t : State} (h : t.stations = s.stations) (e : ParcelEntry) : purgeAt t e = purgeAt s e := by
  unfold purgeAt; rw [h]

/-- The four steps make of each entry what Table 7.3 says. -/
theorem rebuildList_entry (n : Nat) (s : State) (i : Nat) :
    (rebuildList n s).entry i = (s.entry i).bind (rebuiltEntry n s) := by
  have hstations := rebuildClassify_stations n { s with deadlines := [] }
  have hentry : State.entry { s with deadlines := [] } i = s.entry i := rfl
  rw [rebuildList, rebuildInsert_entry, rebuildPurge_entry, rebuildClassify_entry, rebuildLapse_entry, hentry]
  cases s.entry i with
  | none => rfl
  | some e =>
    have hpurge : purgeAt (rebuildClassify n (rebuildLapse n { s with deadlines := [] }))
        (classedEntry n (lapsedEntry n e)) = purgeAt s e := by
      unfold purgeAt ParcelEntry.es
      rw [hstations, (classedEntry_window n e).2]
    exact if_congr (by rw [← hpurge]; rfl) rfl rfl

/-! ## What becomes of a key slot (02 R22) -/

/-- The key slots that entry `i` refers to. -/
def slotsOf (s : State) (i : Nat) : List Nat := (((s.entry i).map fun e => e.refs).getD []).map fun r => r.slot

theorem mem_slotsOf {s : State} {i k : Nat} :
    k ∈ slotsOf s i ↔ ∃ e, s.entry i = some e ∧ ∃ r ∈ e.refs, r.slot = k := by
  unfold slotsOf
  cases s.entry i <;> simp

/-- Work on each of a list that erases the slots of some of its indices, and of no other entry, frees those slots. -/
theorem foldl_erase_key {c : Nat × ParcelEntry → Bool} {f : State → Nat × ParcelEntry → State}
    (hslots : ∀ t p j, slotsOf (f t p) j = if c p = true ∧ p.1 = j then [] else slotsOf t j)
    (hkey : ∀ t p k, slotGet (f t p).store.keys k =
      if c p = true ∧ k ∈ slotsOf t p.1 then none else slotGet t.store.keys k)
    (l : List (Nat × ParcelEntry)) (s : State) (k : Nat) : slotGet (l.foldl f s).store.keys k =
      if ∃ p ∈ l, c p = true ∧ k ∈ slotsOf s p.1 then none else slotGet s.store.keys k := by
  induction l generalizing s with
  | nil => simp
  | cons q l ih =>
    rw [List.foldl_cons, ih, hkey]
    simp only [List.mem_cons, exists_eq_or_imp]
    by_cases hq : c q = true ∧ k ∈ slotsOf s q.1
    · simp [hq]
    · have hrest : (∃ p ∈ l, c p = true ∧ k ∈ slotsOf (f s q) p.1) ↔ ∃ p ∈ l, c p = true ∧ k ∈ slotsOf s p.1 := by
        refine exists_congr fun p => and_congr_right fun _ => and_congr_right fun _ => ?_
        rw [hslots]
        split
        · rename_i hqp
          exact iff_of_false List.not_mem_nil fun hk => hq ⟨hqp.1, hqp.2 ▸ hk⟩
        · exact .rfl
      simp only [hrest, hq, false_or, if_false]

theorem lapseEntry_slotsOf (i j : Nat) (s : State) : slotsOf (lapseEntry i s) j = if i = j then [] else slotsOf s j := by
  unfold slotsOf
  rw [lapseEntry_entry]
  split
  · cases s.entry j <;> rfl
  · rfl

theorem lapseEntry_key (i k : Nat) (s : State) :
    slotGet (lapseEntry i s).store.keys k = if k ∈ slotsOf s i then none else slotGet s.store.keys k := by
  unfold slotsOf
  cases he : s.entry i with
  | none => simp [lapseEntry, eraseEntry_key, setEntryState, he]
  | some e => rw [lapseEntry_eq he]; exact slotGet_eraseKeys ..

theorem freeEntry_slotsOf (i j : Nat) (s : State) : slotsOf (freeEntry i s) j = if i = j then [] else slotsOf s j := by
  unfold slotsOf
  rw [freeEntry_entry]
  split <;> rfl

open Classical in
/-- Step 1 frees the slots of the entries that lapse. -/
theorem rebuildLapse_key (n k : Nat) (s : State) : slotGet (rebuildLapse n s).store.keys k =
    if ∃ i e, s.entry i = some e ∧ (e.holdsKeys = true ∧ e.es ≤ n) ∧ k ∈ slotsOf s i then none
    else slotGet s.store.keys k := by
  rw [rebuildLapse, foldl_erase_key (c := fun _ => true) (fun t p j => by simp [lapseEntry_slotsOf])
    fun t p k => by simp [lapseEntry_key]]
  refine if_congr ?_ rfl rfl
  simp only [mem_byEnd, List.mem_filter, mem_listUsed, Bool.and_eq_true, decide_eq_true_eq, true_and, Prod.exists,
    and_assoc]
  rfl

theorem rebuildClassify_keys (n : Nat) (s : State) : (rebuildClassify n s).store.keys = s.store.keys :=
  foldl_chain (R := fun s t => t.store.keys = s.store.keys) (fun _ => rfl) (fun h k => k.trans h) (fun t p => by
    split
    · rw [setEntryState_entries]
    · rfl) _ s

open Classical in
/-- Step 3 frees the slots of the entries it frees. -/
theorem rebuildPurge_key (n k : Nat) (s : State) : slotGet (rebuildPurge n s).store.keys k =
    if ∃ i e, s.entry i = some e ∧ (e.state = .lapsed ∧ purgeAt s e ≤ n) ∧ k ∈ slotsOf s i then none
    else slotGet s.store.keys k := by
  rw [rebuildPurge, foldl_erase_key (c := fun p => decide (p.2.state = .lapsed ∧ purgeAt s p.2 ≤ n))]
  · refine if_congr ?_ rfl rfl
    simp only [mem_listUsed, decide_eq_true_eq, Prod.exists]
    rfl
  · intro t p j
    simp only [decide_eq_true_eq]
    by_cases h : p.2.state = .lapsed ∧ purgeAt s p.2 ≤ n
    · rw [if_pos h, freeEntry_slotsOf]; simp [h]
    · rw [if_neg h, if_neg fun hp => h hp.1]
  · intro t p k
    simp only [decide_eq_true_eq]
    by_cases h : p.2.state = .lapsed ∧ purgeAt s p.2 ≤ n
    · rw [if_pos h, freeEntry_key]; simp only [h, true_and]; rfl
    · rw [if_neg h, if_neg fun hp => h hp.1]

/-- The deadlines are inserted without a change of the key store. -/
theorem rebuildList_keys (n : Nat) (s : State) : (rebuildList n s).store.keys =
    (rebuildPurge n (rebuildClassify n (rebuildLapse n { s with deadlines := [] }))).store.keys :=
  (rebuildInsert_unmoved _).keys

/-- The slots of an entry that lapses in a rebuild are free after it. -/
theorem rebuildList_erases {n i : Nat} {s : State} {e : ParcelEntry} (he : s.entry i = some e)
    (hk : e.holdsKeys = true) (hend : e.es ≤ n) {r : KeyRef} (hr : r ∈ e.refs) :
    slotGet (rebuildList n s).store.keys r.slot = none := by
  have hlapsed : slotGet (rebuildLapse n { s with deadlines := [] }).store.keys r.slot = none := by
    rw [rebuildLapse_key, if_pos ⟨i, e, he, ⟨hk, hend⟩, mem_slotsOf.mpr ⟨e, he, r, hr, rfl⟩⟩]
  rw [rebuildList_keys, rebuildPurge_key, rebuildClassify_keys, hlapsed, ite_self]

/-- A slot to which no entry refers that lapses in a rebuild or is freed by it stays. -/
theorem rebuildList_keeps_key {n k : Nat} {s : State} (h : ∀ i e, s.entry i = some e →
    (e.holdsKeys = true ∧ e.es ≤ n) ∨ (e.state = .lapsed ∧ purgeAt s e ≤ n) → ∀ r ∈ e.refs, r.slot ≠ k) :
    slotGet (rebuildList n s).store.keys k = slotGet s.store.keys k := by
  have hstations := rebuildClassify_stations n { s with deadlines := [] }
  rw [rebuildList_keys, rebuildPurge_key, rebuildClassify_keys, rebuildLapse_key, if_neg, if_neg]
  · rintro ⟨i, e, he, hdue, hk⟩
    obtain ⟨e', he', r, hr, hrk⟩ := mem_slotsOf.mp hk
    obtain rfl := Option.some.inj (he.symm.trans he')
    exact h i e he (.inl hdue) r hr hrk
  · rintro ⟨i, e', he', ⟨hl, hp⟩, hk⟩
    obtain ⟨e'', he'', r, hr, hrk⟩ := mem_slotsOf.mp hk
    obtain rfl := Option.some.inj (he'.symm.trans he'')
    rw [rebuildClassify_entry, rebuildLapse_entry] at he'
    obtain ⟨e, he, rfl⟩ : ∃ e, s.entry i = some e ∧ classedEntry n (lapsedEntry n e) = e' := by
      obtain ⟨e₁, he₁, h₁⟩ := Option.bind_eq_some_iff.mp he'
      obtain ⟨e, he, rfl⟩ := Option.map_eq_some_iff.mp he₁
      exact ⟨e, he, Option.some.inj h₁⟩
    cases hkeys : e.holdsKeys with
    | true =>
      by_cases hend : e.es ≤ n
      · rw [classedEntry_of_due hkeys hend] at hr
        exact nomatch hr
      · rw [classedEntry_of_ahead hkeys (Nat.not_le.mp hend)] at hl
        dsimp only at hl
        split at hl <;> exact nomatch hl
    | false =>
      rw [classedEntry_of_keyless hkeys] at hl hp hr
      rw [purgeAt_congr hstations] at hp
      exact h i e he (.inr ⟨hl, hp⟩) r hr hrk

/-! ## PARCEL_LAPSED, and the deadlines inserted (07 Table 7.4) -/

theorem raisePulse_attention_congr {n : Nat} {s t : State} (ha : t.attention = s.attention)
    (hc : t.control = s.control) : (raisePulse n t).attention = (raisePulse n s).attention := by
  simp only [raisePulse, raiseOne, State.modSource, ha, hc]

/-- A raise that is made again changes nothing. -/
theorem raisePulse_attention_again (n : Nat) (s : State) :
    (raisePulse n (raisePulse n s)).attention = (raisePulse n s).attention := by
  simp only [raisePulse, raiseOne, State.modSource, List.modify_modify_eq, Function.comp_def, Bool.or_assoc,
    Bool.or_self]

theorem lapseEntry_attention (i : Nat) (s : State) :
    (lapseEntry i s).attention = (raisePulse Src.parcelLapsed s).attention :=
  raisePulse_attention_congr (by rw [eraseEntry_attention, setEntryState_attention])
    ((setEntryState_only ..).trans (eraseEntry_only ..)).deadlineWork.control

/-- Several lapses raise PARCEL_LAPSED as one does. -/
theorem foldl_lapseEntry_attention (l : List (Nat × ParcelEntry)) (s : State) :
    (l.foldl (fun t p => lapseEntry p.1 t) s).attention =
      if l = [] then s.attention else (raisePulse Src.parcelLapsed s).attention := by
  induction l generalizing s with
  | nil => rfl
  | cons q l ih =>
    rw [List.foldl_cons, ih, lapseEntry_attention, if_neg (List.cons_ne_nil q l)]
    split
    · rfl
    · rw [raisePulse_attention_congr (s := raisePulse Src.parcelLapsed s) (lapseEntry_attention q.1 s)
        (lapseEntry_only q.1 s).deadlineWork.control, raisePulse_attention_again]

/-- The steps after the lapses raise nothing. -/
theorem rebuildList_attention (n : Nat) (s : State) :
    (rebuildList n s).attention = (rebuildLapse n { s with deadlines := [] }).attention := by
  have hclassify (t : State) : (rebuildClassify n t).attention = t.attention :=
    foldl_chain (R := fun s t => t.attention = s.attention) (fun _ => rfl) (fun h k => k.trans h) (fun t p => by
      split
      · exact setEntryState_attention ..
      · rfl) _ t
  have hpurge (t : State) : (rebuildPurge n t).attention = t.attention :=
    foldl_chain (R := fun s t => t.attention = s.attention) (fun _ => rfl) (fun h k => k.trans h) (fun t p => by
      split
      · exact freeEntry_attention ..
      · rfl) _ t
  have hinsert (t : State) : (rebuildInsert t).attention = t.attention :=
    foldl_chain (R := fun s t => t.attention = s.attention) (fun _ => rfl) (fun h k => k.trans h) (fun t p => by
      rw [foldl_addDeadline]) _ t
  rw [rebuildList, hinsert, hpurge, hclassify]

/-- A rebuild that lapses an entry raises PARCEL_LAPSED (07 R117). -/
theorem rebuildList_attention_of_due {n i : Nat} {s : State} {e : ParcelEntry} (he : s.entry i = some e)
    (hk : e.holdsKeys = true) (hend : e.es ≤ n) :
    (rebuildList n s).attention = (raisePulse Src.parcelLapsed s).attention := by
  rw [rebuildList_attention, rebuildLapse, foldl_lapseEntry_attention, if_neg]
  · exact raisePulse_attention_congr rfl rfl
  · refine List.ne_nil_of_mem (a := (i, e)) (mem_byEnd.mpr (List.mem_filter.mpr ⟨mem_listUsed.mpr he, ?_⟩))
    simp [hk, hend]

theorem rebuildList_attention_of_none {n : Nat} {s : State}
    (h : ∀ i e, s.entry i = some e → e.holdsKeys = true → n < e.es) :
    (rebuildList n s).attention = s.attention := by
  rw [rebuildList_attention, rebuildLapse, foldl_lapseEntry_attention, if_pos]
  refine List.eq_nil_iff_forall_not_mem.mpr fun p hp => ?_
  obtain ⟨hmem, hdue⟩ := List.mem_filter.mp (mem_byEnd.mp hp)
  simp only [Bool.and_eq_true, decide_eq_true_eq] at hdue
  exact Nat.not_le.mpr (h p.1 p.2 (mem_listUsed.mp hmem) hdue.1) hdue.2

theorem entryDeadlines_congr {s t : State} (h : t.stations = s.stations) (i : Nat) (e : ParcelEntry) :
    entryDeadlines t i e = entryDeadlines s i e := by
  unfold entryDeadlines; rw [purgeAt_congr h]

/-- The deadlines after a rebuild are those of the entries it leaves (07 R122 step 4). -/
theorem mem_rebuildList_deadlines {n : Nat} {s : State} {q : Deadline} : q ∈ (rebuildList n s).deadlines ↔
    ∃ i e, (rebuildList n s).entry i = some e ∧ q ∈ entryDeadlines s i e := by
  have hstations : (rebuildPurge n (rebuildClassify n (rebuildLapse n { s with deadlines := [] }))).stations =
      s.stations := ((rebuildPurge_work ..).stations).trans (rebuildClassify_stations ..)
  rw [rebuildList, mem_rebuildInsert_deadlines, or_iff_right]
  · simp only [rebuildInsert_entry, entryDeadlines_congr hstations]
  · exact fun hq => nomatch (rebuildSteps_rebuildWork n { s with deadlines := [] }).deadlines q hq

theorem foldl_insertDeadline_inOrder {l ds : List Deadline} (h : InOrder ds) :
    InOrder (l.foldl (fun ds d => insertDeadline d ds) ds) := by
  induction l generalizing ds with
  | nil => exact h
  | cons d l ih => exact ih (insertDeadline_inOrder h)

theorem rebuildInsert_inOrder {s : State} (h : InOrder s.deadlines) : InOrder (rebuildInsert s).deadlines :=
  foldl_chain (R := fun s t => InOrder s.deadlines → InOrder t.deadlines) (fun _ => id) (fun h k => k ∘ h)
    (fun t p ht => by rw [foldl_addDeadline]; exact foldl_insertDeadline_inOrder ht) _ s h

theorem rebuildList_inOrder (n : Nat) (s : State) : InOrder (rebuildList n s).deadlines := by
  refine rebuildInsert_inOrder ?_
  have hnone : (rebuildPurge n (rebuildClassify n (rebuildLapse n { s with deadlines := [] }))).deadlines = [] :=
    List.eq_nil_iff_forall_not_mem.mpr fun q hq =>
      nomatch (rebuildSteps_rebuildWork n { s with deadlines := [] }).deadlines q hq
  rw [hnone]
  exact List.Pairwise.nil

/-! ## O16 -/

theorem entryDeadlines_latent {s : State} {i : Nat} {e : ParcelEntry} (h : e.state = .latent) :
    entryDeadlines s i e =
      [{ due := e.ss, kind := .windowStart, ref := i }, { due := e.es, kind := .windowEnd, ref := i }] := by
  simp only [entryDeadlines, h]

theorem entryDeadlines_live {s : State} {i : Nat} {e : ParcelEntry} (h : e.state = .live) :
    entryDeadlines s i e = [{ due := e.es, kind := .windowEnd, ref := i }] := by
  simp only [entryDeadlines, h]

theorem entryDeadlines_lapsed {s : State} {i : Nat} {e : ParcelEntry} (h : e.state = .lapsed) :
    entryDeadlines s i e = [{ due := purgeAt s e, kind := .purge, ref := i }] := by
  simp only [entryDeadlines, h]

/-- The deadlines of an entry refer to it. -/
theorem entryDeadlines_ref {s : State} {i : Nat} {e : ParcelEntry} {d : Deadline} (h : d ∈ entryDeadlines s i e) :
    d.ref = i := by
  revert d
  unfold entryDeadlines
  split <;> simp

/-- An entry that is LIVE after a rebuild at `n` has had its window start by `n`. -/
theorem rebuildList_live {n i : Nat} {s : State} {e : ParcelEntry} (he : (rebuildList n s).entry i = some e)
    (hl : e.state = .live) : e.ss ≤ n := by
  rw [rebuildList_entry] at he
  obtain ⟨f, -, hf⟩ := Option.bind_eq_some_iff.mp he
  unfold rebuiltEntry at hf
  split at hf
  · exact nomatch hf
  · obtain rfl := Option.some.inj hf
    generalize lapsedEntry n f = q at hl
    by_cases hk : q.holdsKeys = true
    · simp only [classedEntry, hk, if_true] at hl ⊢
      by_contra hss
      exact nomatch (if_neg hss).symm.trans hl
    · rw [classedEntry, if_neg hk] at hl
      exact absurd (by simp [ParcelEntry.holdsKeys, hl]) hk

/-- What a rebuild leaves of the entries that it finds. -/
theorem rebuildList_entry_of_some {n i : Nat} {s : State} {e : ParcelEntry} (he : s.entry i = some e) :
    (rebuildList n s).entry i = rebuiltEntry n s e := by rw [rebuildList_entry, he]; rfl

/-- Settles O16, from the entries, the key slots, the deadlines and the notice source after the four steps. -/
theorem rebuildAgreesWithTime : Obligations.RebuildAgreesWithTime := by
  intro n s
  refine ⟨fun i e he => ⟨fun hk hend => ?_, fun hk hend => ⟨fun r hr => rebuildList_erases he hk hend hr,
      rebuildList_attention_of_due he hk hend, fun hsrc => ?_, ?_⟩, fun hl => ?_, fun hw => ?_⟩, fun i hi => ?_,
    rebuildList_attention_of_none, fun k => rebuildList_keeps_key, ?_, fun d hd => ?_, rebuildList_ahead n s,
    rebuildList_inOrder n s, fun i e he => ?_⟩
  · rw [rebuildList_entry_of_some he, rebuiltEntry, classedEntry_of_ahead hk hend, if_neg]
    dsimp only
    split <;> exact fun h => nomatch h.1
  · unfold State.source
    rw [rebuildList_attention_of_due he hk hend]
    exact raisePulse_source_self (by rw [hsrc]; decide)
  · rw [rebuildList_entry_of_some he, rebuiltEntry, classedEntry_of_due hk hend]
    simp only [true_and]
    rfl
  · rw [rebuildList_entry_of_some he, rebuiltEntry, classedEntry_of_keyless (by simp [ParcelEntry.holdsKeys, hl])]
    simp only [hl, true_and]
    rfl
  · rw [rebuildList_entry_of_some he, rebuiltEntry, classedEntry_of_keyless (by simp [ParcelEntry.holdsKeys, hw]),
      if_neg (by simp [hw])]
  · rw [rebuildList_entry, hi]; rfl
  · have hwork := rebuildList_work n s
    unfold OnlyDeadlineWork at hwork
    rw [rebuildList_grants] at hwork
    exact hwork
  · obtain ⟨i, e, he, hq⟩ := mem_rebuildList_deadlines.mp hd
    obtain rfl := entryDeadlines_ref hq
    exact ⟨e, he, hq⟩
  · have hlisted : ∀ q ∈ entryDeadlines s i e, q ∈ (rebuildList n s).deadlines ∧ n < q.due := fun q hq => by
      have hmem := mem_rebuildList_deadlines.mpr ⟨i, e, he, hq⟩
      exact ⟨hmem, rebuildList_ahead n s q hmem⟩
    refine ⟨fun hl => ?_, fun hl => ?_, fun hl => ?_⟩
    · rw [entryDeadlines_latent hl] at hlisted
      obtain ⟨hstart, hend⟩ := List.forall_mem_cons.mp hlisted
      obtain ⟨hendin, hendat⟩ := hend _ List.mem_cons_self
      exact ⟨hstart.2, hendat, hstart.1, hendin⟩
    · rw [entryDeadlines_live hl] at hlisted
      obtain ⟨hendin, hendat⟩ := hlisted _ List.mem_cons_self
      exact ⟨rebuildList_live he hl, hendat, hendin⟩
    · rw [entryDeadlines_lapsed hl] at hlisted
      obtain ⟨hin, hat⟩ := hlisted _ List.mem_cons_self
      exact ⟨hat, hin⟩

end Sys2Proof.Machine
end

section
/-! PROOFS. The Deadline List in agreement with the tables (O8): the agreement owner by owner, the relation `ListKept`, and
the bound of 176 entries. -/

namespace Sys2Proof.Machine

/-! ## Each deadline once -/

/-- Each deadline stands once, by its kind and what it refers to (07 Table 7.1). -/
def ListedOnce (l : List Deadline) : Prop := (l.map fun d => (d.kind, d.ref)).Nodup

theorem ListedOnce.sublist {l m : List Deadline} (h : ListedOnce m) (hs : l.Sublist m) : ListedOnce l :=
  List.Nodup.sublist (hs.map _) h

theorem ListedOnce.perm {l m : List Deadline} (h : ListedOnce m) (hp : l.Perm m) : ListedOnce l :=
  (hp.map _).nodup_iff.mpr h

theorem listedOnce_cons {d : Deadline} {l : List Deadline} :
    ListedOnce (d :: l) ↔ (∀ q ∈ l, q.kind = d.kind → q.ref ≠ d.ref) ∧ ListedOnce l := by
  simp only [ListedOnce, List.map_cons, List.nodup_cons, List.mem_map, Prod.mk.injEq, not_exists, not_and]

theorem insertDeadline_perm (d : Deadline) (l : List Deadline) : (insertDeadline d l).Perm (d :: l) := by
  induction l with
  | nil => exact .refl _
  | cons h l ih =>
    unfold insertDeadline
    split
    · exact .refl _
    · exact (ih.cons h).trans (.swap ..)

theorem foldl_insertDeadline_perm (l ds : List Deadline) :
    (l.foldl (fun ds d => insertDeadline d ds) ds).Perm (l ++ ds) := by
  induction l generalizing ds with
  | nil => exact .refl _
  | cons d l ih =>
    exact (ih _).trans (((insertDeadline_perm d ds).append_left l).trans List.perm_middle)

/-- A deadline that is not listed yet is inserted. -/
theorem ListedOnce.insert {d : Deadline} {l : List Deadline} (h : ListedOnce l)
    (hd : ∀ q ∈ l, q.kind = d.kind → q.ref ≠ d.ref) : ListedOnce (insertDeadline d l) :=
  (listedOnce_cons.mpr ⟨hd, h⟩).perm (insertDeadline_perm d l)

/-! ## The agreement, owner by owner -/

/-- The deadlines of parcel index `i` in the list `l` are those of the entry there (07 Table 7.1): the clauses of
`DeadlinesMatch` about one entry. -/
structure EntryAgrees (serves : Prop) (l : List Deadline) (i : Nat) (o : Option ParcelEntry) : Prop where
  starts : ∀ d ∈ l, d.kind = .windowStart → d.ref = i → ∃ e, o = some e ∧ e.state = .latent ∧ d.due = e.ss
  ends : ∀ d ∈ l, d.kind = .windowEnd → d.ref = i → ∃ e, o = some e ∧ e.holdsKeys = true ∧ d.due = e.es
  purges : ∀ d ∈ l, d.kind = .purge → d.ref = i → ∃ e, o = some e ∧ e.state = .lapsed
  listed : serves → ∀ e, o = some e →
    (e.state = .latent → { due := e.ss, kind := .windowStart, ref := i } ∈ l) ∧
    (e.holdsKeys = true → { due := e.es, kind := .windowEnd, ref := i } ∈ l) ∧
    (e.state = .lapsed → e.purgeDue = false → ∃ d ∈ l, d.kind = .purge ∧ d.ref = i)
  window : ∀ e, o = some e → e.winStart < e.winEnd

/-- The SPAN_END of grant slot `g` in the list `l` is that of the OPEN record there. -/
def GrantAgrees (l : List Deadline) (g : Nat) (o : Option Grant) : Prop :=
  ∀ d ∈ l, d.kind = .spanEnd → d.ref = g → ∃ r, o = some r ∧ r.state = .opened ∧ d.due = r.x

/-- What of the state, besides list and tables, the agreement is judged by. -/
def guardView (s : State) : TimeState × Control × List StagingPlace :=
  (s.clock.timeState, s.control, s.store.staging)

theorem listServes_congr {s t : State} (h : guardView t = guardView s) : ListServes t ↔ ListServes s := by
  simp only [guardView, Prod.mk.injEq] at h
  obtain ⟨htime, hcontrol, -⟩ := h
  unfold ListServes
  rw [htime, hcontrol]

theorem DeadlinesMatch.entryAgrees {s : State} (h : DeadlinesMatch s) (i : Nat) :
    EntryAgrees (ListServes s) s.deadlines i (s.entry i) where
  starts d hd hk hi := hi ▸ h.starts d hd hk
  ends d hd hk hi := hi ▸ h.ends d hd hk
  purges d hd hk hi := hi ▸ h.purges d hd hk
  listed hs e he := h.listed hs i e he
  window e he := h.windows i e he

theorem DeadlinesMatch.grantAgrees {s : State} (h : DeadlinesMatch s) (g : Nat) :
    GrantAgrees s.deadlines g (s.grant g) := fun d hd hk hg => hg ▸ h.spans d hd hk

/-- The agreement of every entry and of every record, with the order of the list. -/
theorem deadlinesMatch_of_owners {t : State} (horder : InOrder t.deadlines) (honce : ListedOnce t.deadlines)
    (hearly : t.control.phase ≠ .none → t.control.phase ≠ .finish → t.deadlines = [])
    (hentries : ∀ i, EntryAgrees (ListServes t) t.deadlines i (t.entry i))
    (hgrants : ∀ g, GrantAgrees t.deadlines g (t.grant g))
    (hstaged : ∀ q ∈ t.store.staging, q.parcel.winStart < q.parcel.winEnd) : DeadlinesMatch t where
  order := horder
  once := honce
  starts d hd hk := (hentries d.ref).starts d hd hk rfl
  ends d hd hk := (hentries d.ref).ends d hd hk rfl
  purges d hd hk := (hentries d.ref).purges d hd hk rfl
  spans d hd hk := hgrants d.ref d hd hk rfl
  listed hs i e he := (hentries i).listed hs e he
  early := hearly
  windows i e he := (hentries i).window e he
  staged := hstaged

/-- Work that leaves time, service, phase and staging: the agreement of each owner is all there is to see. -/
theorem DeadlinesMatch.of_owners {s t : State} (h : DeadlinesMatch s) (hv : guardView t = guardView s)
    (horder : InOrder t.deadlines) (honce : ListedOnce t.deadlines)
    (hearly : s.control.phase = .none ∨ (s.deadlines = [] → t.deadlines = []))
    (hentries : ∀ i, EntryAgrees (ListServes s) t.deadlines i (t.entry i))
    (hgrants : ∀ g, GrantAgrees t.deadlines g (t.grant g)) : DeadlinesMatch t := by
  have hserves := listServes_congr hv
  simp only [guardView, Prod.mk.injEq] at hv
  obtain ⟨-, hcontrol, hstaging⟩ := hv
  refine deadlinesMatch_of_owners horder honce (fun hp hf => ?_) (fun i => propext hserves ▸ hentries i) hgrants
    (hstaging ▸ h.staged)
  rw [hcontrol] at hp hf
  exact hearly.elim (fun hnone => absurd hnone hp) fun hkeep => hkeep (h.early hp hf)

/-- An entry agrees with every list that holds the same of its deadlines. -/
theorem EntryAgrees.of_list {serves : Prop} {l m : List Deadline} {i : Nat} {o : Option ParcelEntry}
    (h : EntryAgrees serves l i o) (hm : ∀ d, d.kind ≠ .spanEnd → d.ref = i → (d ∈ m ↔ d ∈ l)) :
    EntryAgrees serves m i o where
  starts d hd hk hi := h.starts d ((hm d (by simp [hk]) hi).mp hd) hk hi
  ends d hd hk hi := h.ends d ((hm d (by simp [hk]) hi).mp hd) hk hi
  purges d hd hk hi := h.purges d ((hm d (by simp [hk]) hi).mp hd) hk hi
  listed hs e he := by
    obtain ⟨hstart, hend, hpurge⟩ := h.listed hs e he
    refine ⟨fun hl => (hm _ (by simp) rfl).mpr (hstart hl), fun hk => (hm _ (by simp) rfl).mpr (hend hk),
      fun hl hp => ?_⟩
    obtain ⟨d, hd, hk, hi⟩ := hpurge hl hp
    exact ⟨d, (hm d (by simp [hk]) hi).mpr hd, hk, hi⟩
  window := h.window

theorem GrantAgrees.of_list {l m : List Deadline} {g : Nat} {o : Option Grant} (h : GrantAgrees l g o)
    (hm : ∀ d, d.kind = .spanEnd → d.ref = g → d ∈ m → d ∈ l) : GrantAgrees m g o :=
  fun d hd hk hg => h d (hm d hk hg hd) hk hg

/-- An entry is written with its state and its window, and with purge due where it was. -/
theorem EntryAgrees.rewrite {serves : Prop} {l : List Deadline} {i : Nat} {e f : ParcelEntry}
    (h : EntryAgrees serves l i (some e)) (hstate : f.state = e.state) (hstart : f.winStart = e.winStart)
    (hend : f.winEnd = e.winEnd) (hpurge : f.purgeDue = false → e.purgeDue = false) :
    EntryAgrees serves l i (some f) := by
  have hss : f.ss = e.ss := by unfold ParcelEntry.ss; rw [hstart]
  have hes : f.es = e.es := by unfold ParcelEntry.es; rw [hend]
  have hkeys : f.holdsKeys = e.holdsKeys := by unfold ParcelEntry.holdsKeys; rw [hstate]
  have hown : ∀ {q : ParcelEntry → Prop}, (∃ x, some e = some x ∧ q x) → q e := fun ⟨x, hx, hq⟩ =>
    Option.some.inj hx ▸ hq
  refine ⟨fun d hd hk hi => ⟨f, rfl, ?_⟩, fun d hd hk hi => ⟨f, rfl, ?_⟩, fun d hd hk hi => ⟨f, rfl, ?_⟩,
    fun hs x hx => ?_, fun x hx => ?_⟩
  · rw [hstate, hss]; exact hown (h.starts d hd hk hi)
  · rw [hkeys, hes]; exact hown (h.ends d hd hk hi)
  · rw [hstate]; exact hown (h.purges d hd hk hi)
  · obtain rfl := Option.some.inj hx
    obtain ⟨hl, hk, hp⟩ := h.listed hs e rfl
    rw [hstate, hkeys, hss, hes]
    exact ⟨hl, hk, fun hlapsed hdue => hp hlapsed (hpurge hdue)⟩
  · obtain rfl := Option.some.inj hx
    rw [hstart, hend]; exact h.window e rfl

/-- A place that is free, or holds an entry that is WITHDRAWN, has no deadline. -/
theorem entryAgrees_bare {serves : Prop} {l : List Deadline} {i : Nat} {o : Option ParcelEntry}
    (hl : ∀ d ∈ l, d.ref = i → d.kind = .spanEnd)
    (ho : ∀ e, o = some e → e.state = .withdrawn ∧ e.winStart < e.winEnd) : EntryAgrees serves l i o where
  starts d hd hk hi := nomatch (hl d hd hi).symm.trans hk
  ends d hd hk hi := nomatch (hl d hd hi).symm.trans hk
  purges d hd hk hi := nomatch (hl d hd hi).symm.trans hk
  listed _ e he := by
    have hw := (ho e he).1
    simp [ParcelEntry.holdsKeys, hw]
  window e he := (ho e he).2

/-! ## Work on one entry, and on some records -/

/-- Work on the entry of index `i` and its deadlines alone. -/
structure EntryWork (i : Nat) (s t : State) : Prop where
  guards : guardView t = guardView s
  slots : t.grants.slots = s.grants.slots
  others : ∀ j, j ≠ i → t.entry j = s.entry j
  rest : ∀ d, d.kind = .spanEnd ∨ d.ref ≠ i → (d ∈ t.deadlines ↔ d ∈ s.deadlines)

theorem EntryWork.matches {i : Nat} {s t : State} (w : EntryWork i s t) (h : DeadlinesMatch s)
    (horder : InOrder t.deadlines) (honce : ListedOnce t.deadlines)
    (hearly : s.control.phase = .none ∨ (s.deadlines = [] → t.deadlines = []))
    (hown : EntryAgrees (ListServes s) t.deadlines i (t.entry i)) : DeadlinesMatch t := by
  refine h.of_owners w.guards horder honce hearly (fun j => ?_) fun g => ?_
  · by_cases hj : j = i
    · exact hj ▸ hown
    · rw [w.others j hj]
      exact (h.entryAgrees j).of_list fun d _ hd => w.rest d (.inr (hd ▸ hj))
  · have hgrant : t.grant g = s.grant g := by unfold State.grant; rw [w.slots]
    rw [hgrant]
    exact (h.grantAgrees g).of_list fun d hk _ => (w.rest d (.inl hk)).mp

/-- Work on the records of the slots of `p` and their SPAN_ENDs alone. -/
structure RecordWork (p : Nat → Prop) (s t : State) : Prop where
  guards : guardView t = guardView s
  table : t.store.table = s.store.table
  others : ∀ g, ¬p g → t.grant g = s.grant g
  rest : ∀ d, d.kind ≠ .spanEnd ∨ ¬p d.ref → (d ∈ t.deadlines ↔ d ∈ s.deadlines)

theorem RecordWork.matches {p : Nat → Prop} {s t : State} (w : RecordWork p s t) (h : DeadlinesMatch s)
    (horder : InOrder t.deadlines) (honce : ListedOnce t.deadlines)
    (hearly : s.control.phase = .none ∨ (s.deadlines = [] → t.deadlines = []))
    (hown : ∀ g, p g → GrantAgrees t.deadlines g (t.grant g)) : DeadlinesMatch t := by
  refine h.of_owners w.guards horder honce hearly (fun i => ?_) fun g => ?_
  · have hentry : t.entry i = s.entry i := by unfold State.entry; rw [w.table]
    rw [hentry]
    exact (h.entryAgrees i).of_list fun d hk _ => w.rest d (.inl hk)
  · by_cases hg : p g
    · exact hown g hg
    · rw [w.others g hg]
      exact (h.grantAgrees g).of_list fun d _ hd => (w.rest d (.inr (hd ▸ hg))).mp

/-! ## What a command keeps -/

/-- Work that keeps the Deadline List in order, and, where `p` holds, in agreement with the tables. -/
structure ListKept (p : Prop) (s t : State) : Prop where
  order : InOrder s.deadlines → InOrder t.deadlines
  agrees : p → DeadlinesMatch s → DeadlinesMatch t

variable {p : Prop}

theorem ListKept.trans {s t u : State} (h : ListKept p s t) (k : ListKept p t u) : ListKept p s u :=
  ⟨k.order ∘ h.order, fun hp hs => k.agrees hp (h.agrees hp hs)⟩

theorem ListKept.mono {q : Prop} {s t : State} (h : ListKept q s t) (hpq : p → q) : ListKept p s t :=
  ⟨h.order, fun hp => h.agrees (hpq hp)⟩

/-- Work that leaves list and tables, and lets the list serve only where it served. -/
theorem ListKept.of_tables {s t : State} (hdeadlines : t.deadlines = s.deadlines)
    (htable : t.store.table = s.store.table) (hslots : t.grants.slots = s.grants.slots)
    (hserves : ListServes t → ListServes s)
    (hearly : t.control.phase ≠ .none → t.control.phase ≠ .finish →
      s.control.phase ≠ .none ∧ s.control.phase ≠ .finish)
    (hst : (∀ q ∈ s.store.staging, q.parcel.winStart < q.parcel.winEnd) →
      ∀ q ∈ t.store.staging, q.parcel.winStart < q.parcel.winEnd) : ListKept p s t := by
  have hentry : ∀ i, t.entry i = s.entry i := fun i => by unfold State.entry; rw [htable]
  have hgrant : ∀ g, t.grant g = s.grant g := fun g => by unfold State.grant; rw [hslots]
  refine ⟨fun ho => hdeadlines ▸ ho, fun _ hs => ?_⟩
  exact
    { order := hdeadlines ▸ hs.order
      once := hdeadlines ▸ hs.once
      starts := fun d hd => by rw [hentry]; exact hs.starts d (hdeadlines ▸ hd)
      ends := fun d hd => by rw [hentry]; exact hs.ends d (hdeadlines ▸ hd)
      purges := fun d hd => by rw [hentry]; exact hs.purges d (hdeadlines ▸ hd)
      spans := fun d hd => by rw [hgrant]; exact hs.spans d (hdeadlines ▸ hd)
      listed := fun hl i e he => by rw [hdeadlines]; exact hs.listed (hserves hl) i e (hentry i ▸ he)
      early := fun hp hf => by
        obtain ⟨hnone, hfinish⟩ := hearly hp hf
        exact hdeadlines.trans (hs.early hnone hfinish)
      windows := fun i e he => hs.windows i e (hentry i ▸ he)
      staged := hst hs.staged }

/-- What of the state order and agreement read, but for the staging queue. -/
def listView (s : State) : List Deadline × List (Option ParcelEntry) × List (Option Grant) × TimeState × Service ×
    StartPhase × Bool :=
  (s.deadlines, s.store.table, s.grants.slots, s.clock.timeState, s.control.service, s.control.phase,
    s.control.sealing)

/-- Work that touches nothing the agreement reads but the staging queue, and stages no parcel with an empty window. -/
theorem ListKept.of_staging {s t : State} (h : listView t = listView s)
    (hst : (∀ q ∈ s.store.staging, q.parcel.winStart < q.parcel.winEnd) →
      ∀ q ∈ t.store.staging, q.parcel.winStart < q.parcel.winEnd) : ListKept p s t := by
  simp only [listView, Prod.mk.injEq] at h
  obtain ⟨hdeadlines, htable, hslots, htime, hservice, hphase, hsealing⟩ := h
  refine .of_tables hdeadlines htable hslots (fun hl => ?_) (fun hp hf => ?_) hst
  · unfold ListServes at hl ⊢
    rwa [htime, hservice, hphase, hsealing] at hl
  · rw [hphase] at hp hf
    exact ⟨hp, hf⟩

/-- Work that touches nothing order and agreement read. -/
theorem ListKept.of_view {s t : State} (h : (listView t, t.store.staging) = (listView s, s.store.staging)) :
    ListKept p s t := by
  obtain ⟨hview, hstaging⟩ := Prod.mk.inj h
  exact .of_staging hview fun hs => hstaging ▸ hs

theorem ListKept.refl (s : State) : ListKept p s s := .of_view rfl

/-- Work on one entry that takes no deadline into the list. -/
theorem EntryWork.listKept {i : Nat} {s t : State} (w : EntryWork i s t) (hsub : t.deadlines.Sublist s.deadlines)
    (hown : DeadlinesMatch s → EntryAgrees (ListServes s) t.deadlines i (t.entry i)) : ListKept p s t where
  order ho := ho.sublist hsub
  agrees _ h := w.matches h (h.order.sublist hsub) (ListedOnce.sublist h.once hsub)
    (.inr fun hnil => List.sublist_nil.mp (hnil ▸ hsub)) (hown h)

/-- Work on some records that takes no deadline into the list. -/
theorem RecordWork.listKept {q : Nat → Prop} {s t : State} (w : RecordWork q s t)
    (hsub : t.deadlines.Sublist s.deadlines)
    (hown : DeadlinesMatch s → ∀ g, q g → GrantAgrees t.deadlines g (t.grant g)) : ListKept p s t where
  order ho := ho.sublist hsub
  agrees _ h := w.matches h (h.order.sublist hsub) (ListedOnce.sublist h.once hsub)
    (.inr fun hnil => List.sublist_nil.mp (hnil ▸ hsub)) (hown h)

/-- With an empty list there is nothing to agree with where the list does not serve, or no entry is in use. -/
theorem deadlinesMatch_of_empty {t : State} (hd : t.deadlines = []) (hserves : ListServes t → ∀ i, t.entry i = none)
    (hw : ∀ i e, t.entry i = some e → e.winStart < e.winEnd)
    (hst : ∀ q ∈ t.store.staging, q.parcel.winStart < q.parcel.winEnd) : DeadlinesMatch t where
  order := by rw [hd]; exact List.Pairwise.nil
  once := by rw [hd]; exact List.nodup_nil
  starts d hm := by rw [hd] at hm; exact nomatch hm
  ends d hm := by rw [hd] at hm; exact nomatch hm
  purges d hm := by rw [hd] at hm; exact nomatch hm
  spans d hm := by rw [hd] at hm; exact nomatch hm
  listed hs i e he := nomatch (hserves hs i).symm.trans he
  early _ _ := hd
  windows := hw
  staged := hst

end Sys2Proof.Machine
end

section
/-! PROOFS. Parcel entries, records, firing, a backward trim, a rebuild and a commit keep order and agreement (O8). -/

namespace Sys2Proof.Machine

variable {p : Prop}

theorem OnlyDeadlineWork.guardView {s t : State} (h : OnlyDeadlineWork s t) : guardView t = guardView s := by
  unfold OnlyDeadlineWork at h; rw [h]; rfl

/-! ## Parcel entries -/

/-- An entry in use is written, with no deadline moved. -/
theorem setEntry_entryWork (i : Nat) (o : Option ParcelEntry) (s : State) : EntryWork i s (s.setEntry i o) where
  guards := rfl
  slots := rfl
  others j hj := by rw [State.entry_setEntry, if_neg fun h => hj h.1.symm]
  rest _ _ := .rfl

/-- An entry is written with its state and its window, and with purge due where it was. -/
theorem rewriteEntry_listKept {i : Nat} {e f : ParcelEntry} {s : State} (he : s.entry i = some e)
    (hstate : f.state = e.state) (hstart : f.winStart = e.winStart) (hend : f.winEnd = e.winEnd)
    (hpurge : f.purgeDue = false → e.purgeDue = false) : ListKept p s (s.setEntry i (some f)) := by
  refine (setEntry_entryWork i (some f) s).listKept (List.Sublist.refl _) fun h => ?_
  have hself : (s.setEntry i (some f)).entry i = some f := by
    rw [State.entry_setEntry, if_pos ⟨rfl, State.entry_lt he⟩]
  rw [hself]
  exact (he ▸ h.entryAgrees i).rewrite hstate hstart hend hpurge

/-- The deadlines of an index that leave the list are those of its entry (02 R26). -/
theorem mem_filter_parcel {l : List Deadline} {i : Nat} {d : Deadline} :
    d ∈ l.filter (fun d => !(d.kind != .spanEnd && d.ref == i)) ↔ d ∈ l ∧ (d.kind = .spanEnd ∨ d.ref ≠ i) := by
  rw [List.mem_filter]
  simp only [Bool.not_eq_true', Bool.and_eq_false_iff, bne_eq_false_iff_eq, beq_eq_false_iff_ne]

/-- After work that takes the deadlines of index `i` out of the list only SPAN_ENDs have that reference. -/
theorem spanEnd_of_filter_parcel {l : List Deadline} {i : Nat} {d : Deadline}
    (h : d ∈ l.filter fun d => !(d.kind != .spanEnd && d.ref == i)) (hi : d.ref = i) : d.kind = .spanEnd :=
  (mem_filter_parcel.mp h).2.resolve_right fun hne => hne hi

/-- An entry is freed with its deadlines, whatever of its own deadlines had left the list before. -/
theorem freeEntry_entryWork {i : Nat} {s u : State} (hv : guardView u = guardView s)
    (hslots : u.grants.slots = s.grants.slots) (htable : u.store.table = s.store.table)
    (hrest : ∀ d, d.kind = .spanEnd ∨ d.ref ≠ i → (d ∈ u.deadlines ↔ d ∈ s.deadlines)) :
    EntryWork i s (freeEntry i u) where
  guards := (freeEntry_only i u).deadlineWork.guardView.trans hv
  slots := by rw [(freeEntry_only i u).grants, hslots]
  others j hj := by
    rw [freeEntry_entry, if_neg (Ne.symm hj)]
    unfold State.entry; rw [htable]
  rest d hd := by
    rw [freeEntry_deadlines, mem_filter_parcel, hrest d hd]
    exact and_iff_left hd

theorem freeEntry_agrees (i : Nat) (serves : Prop) (u : State) :
    EntryAgrees serves (freeEntry i u).deadlines i ((freeEntry i u).entry i) := by
  refine entryAgrees_bare (fun d hd hi => spanEnd_of_filter_parcel (freeEntry_deadlines i u ▸ hd) hi) fun e he => ?_
  rw [freeEntry_entry, if_pos rfl] at he
  exact nomatch he

theorem freeEntry_deadlines_sublist (i : Nat) (s : State) : (freeEntry i s).deadlines.Sublist s.deadlines := by
  rw [freeEntry_deadlines]; exact List.filter_sublist

theorem freeEntry_listKept (i : Nat) (s : State) : ListKept p s (freeEntry i s) :=
  (freeEntry_entryWork rfl rfl rfl fun _ _ => .rfl).listKept (freeEntry_deadlines_sublist i s)
    fun _ => freeEntry_agrees i _ s

theorem freeAtZero_listKept (i : Nat) (s : State) : ListKept p s (freeAtZero i s) := by
  unfold freeAtZero
  split
  · exact .refl s
  · split
    · exact freeEntry_listKept i s
    · exact .refl s

theorem countDown_listKept (i : Nat) (s : State) : ListKept p s (countDown i s) := by
  unfold countDown
  split
  · exact .refl s
  · rename_i e he
    refine ListKept.trans ?_ (freeAtZero_listKept ..)
    exact rewriteEntry_listKept he rfl rfl rfl id

theorem countUp_listKept (i : Nat) (s : State) : ListKept p s (countUp i s) := by
  unfold countUp
  split
  · exact .refl s
  · rename_i e he
    exact rewriteEntry_listKept he rfl rfl rfl id

/-- An entry that is WITHDRAWN loses its deadlines (07 R126). -/
theorem withdrawEntry_listKept {i : Nat} {e : ParcelEntry} {s : State} (he : s.entry i = some e) :
    ListKept p s (withdrawEntry i e s) := by
  have honly := withdrawEntry_only i e s
  have hdeadlines := withdrawEntry_deadlines he
  refine EntryWork.listKept (i := i) ⟨honly.deadlineWork.guardView, by rw [honly.grants], fun j hj => ?_, fun d hd => ?_⟩
    (hdeadlines ▸ List.filter_sublist) fun h => ?_
  · rw [withdrawEntry_entry he, if_neg (Ne.symm hj)]
  · rw [hdeadlines, mem_filter_parcel]
    exact and_iff_left hd
  · refine entryAgrees_bare (fun d hd hi => spanEnd_of_filter_parcel (hdeadlines ▸ hd) hi) fun f hf => ?_
    rw [withdrawEntry_entry he, if_pos rfl] at hf
    obtain rfl := Option.some.inj hf
    exact ⟨rfl, h.windows i e he⟩

/-! ## Records -/

theorem mem_filter_span {l : List Deadline} {g : Nat} {d : Deadline} :
    d ∈ l.filter (fun d => !(d.kind == .spanEnd && d.ref == g)) ↔ d ∈ l ∧ (d.kind ≠ .spanEnd ∨ d.ref ≠ g) := by
  rw [List.mem_filter]
  simp only [Bool.not_eq_true', Bool.and_eq_false_iff, beq_eq_false_iff_ne, ne_eq]

/-- A record that is freed takes its SPAN_END with it (06 R93). -/
theorem withoutGrant_listKept (g : Nat) (s : State) : ListKept p s (withoutGrant g s) := by
  have hsub : (withoutGrant g s).deadlines.Sublist s.deadlines := List.filter_sublist
  refine RecordWork.listKept (q := (· = g)) ⟨rfl, rfl, fun x hx => slotGet_set_ne (Ne.symm hx), fun d hd => ?_⟩ hsub
    fun _ x hx d hd hk hxd => ?_
  · refine mem_filter_span.trans (and_iff_left ?_)
    exact hd
  · have hout := (mem_filter_span.mp hd).2
    exact absurd (hxd.trans hx) (hout.resolve_left fun hne => hne hk)

theorem freeGrant_listKept (g : Nat) (s : State) : ListKept p s (freeGrant g s) := by
  cases hr : s.grant g with
  | none => simp only [freeGrant, hr]; exact .refl s
  | some r =>
    rw [freeGrant_eq hr]
    exact (withoutGrant_listKept g s).trans (countDown_listKept ..)

/-- Records that expire lose their SPAN_END (06 R99, R100). -/
theorem forceExpiry_listKept (pick : Grant → Bool) (why : Reason) (s : State) :
    ListKept p s (forceExpiry pick why s) := by
  obtain ⟨hgrant, -, -, hmem, hframe⟩ := forceExpiry_grants pick why s
  have hsub : (forceExpiry pick why s).deadlines.Sublist s.deadlines := by
    rw [forceExpiry_deadlines]; exact List.filter_sublist
  refine RecordWork.listKept (q := (· ∈ reached pick s)) ⟨(forceExpiry_work ..).guardView, ?_, fun g hg => ?_,
    fun d hd => ?_⟩ hsub fun _ g hg d hd hk hdg => ?_
  · rw [hframe]
  · rw [hgrant]
    cases hr : s.grant g with
    | none => rfl
    | some r => exact congrArg some (if_neg fun h => hg (mem_reached.mpr ⟨r, hr, h⟩))
  · rw [hmem]
    exact and_iff_left fun h => hd.elim (fun hne => hne h.1) fun hne => hne h.2
  · exact absurd ⟨hk, hdg ▸ hg⟩ ((hmem d).mp hd).2

/-! ## Firing -/

section
variable {d : Deadline} {rest : List Deadline} {s : State}

/-- The head that fires is the only one of its kind for its owner. -/
theorem DeadlinesMatch.head_ne (h : DeadlinesMatch s) (hs : s.deadlines = d :: rest) :
    ∀ q ∈ rest, q.kind = d.kind → q.ref ≠ d.ref := (listedOnce_cons.mp (hs ▸ h.once : ListedOnce (d :: rest))).1

theorem DeadlinesMatch.tail_once (h : DeadlinesMatch s) (hs : s.deadlines = d :: rest) : ListedOnce rest :=
  (listedOnce_cons.mp (hs ▸ h.once : ListedOnce (d :: rest))).2

theorem DeadlinesMatch.tail_order (h : DeadlinesMatch s) (hs : s.deadlines = d :: rest) :
    (∀ q ∈ rest, d.due ≤ q.due) ∧ InOrder rest :=
  List.pairwise_cons.mp (hs ▸ h.order : InOrder (d :: rest))

/-- The other deadlines stay behind the head. -/
theorem mem_tail_iff {q : Deadline} (hs : s.deadlines = d :: rest) (hq : q ≠ d) : q ∈ rest ↔ q ∈ s.deadlines := by
  rw [hs, List.mem_cons]; exact (or_iff_right hq).symm

/-- The state in which the head has left the list, and its entry, if it has one, is written as `o`. -/
theorem writeHead_entryWork (hs : s.deadlines = d :: rest) (hk : d.kind ≠ .spanEnd) (o : Option ParcelEntry) :
    EntryWork d.ref s (State.setEntry { s with deadlines := rest } d.ref o) where
  guards := rfl
  slots := rfl
  others := (setEntry_entryWork d.ref o { s with deadlines := rest }).others
  rest q hq := by
    refine mem_tail_iff hs ?_
    rintro rfl
    exact hq.elim hk fun hne => hne rfl

/-- A WINDOW_START that fires leaves a LIVE entry with its WINDOW_END (07 R116). -/
theorem fireWindowStart_matches (h : DeadlinesMatch s) (hs : s.deadlines = d :: rest) (hk : d.kind = .windowStart) :
    DeadlinesMatch (fireWindowStart d.ref { s with deadlines := rest }) := by
  obtain ⟨e, he, hl, -⟩ := h.starts d (hs ▸ List.mem_cons_self) hk
  have hown := he ▸ h.entryAgrees d.ref
  have hkeys : e.holdsKeys = true := by simp [ParcelEntry.holdsKeys, hl]
  have hin : ∀ q ∈ rest, q ∈ s.deadlines := fun q hq => hs ▸ List.mem_cons_of_mem d hq
  rw [fireWindowStart_eq (s := { s with deadlines := rest }) he hl]
  have hself : (State.setEntry { s with deadlines := rest } d.ref (some { e with state := .live })).entry d.ref =
      some { e with state := .live } := by
    rw [State.entry_setEntry, if_pos ⟨rfl, State.entry_lt (s := { s with deadlines := rest }) he⟩]
  refine (writeHead_entryWork hs (by simp [hk]) _).matches h (h.tail_order hs).2 (h.tail_once hs)
    (.inr fun hnil => nomatch hs.symm.trans hnil) ?_
  rw [hself]
  refine EntryAgrees.mk (fun q hq hqk hqr => absurd hqr (h.head_ne hs q hq (hqk.trans hk.symm))) (fun q hq hqk hqr => ?_)
    (fun q hq hqk hqr => ?_) (fun hserves f hf => ?_) fun f hf => ?_
  · obtain ⟨f, hf, -, hdue⟩ := hown.ends q (hin q hq) hqk hqr
    obtain rfl := Option.some.inj hf
    exact ⟨_, rfl, rfl, hdue⟩
  · obtain ⟨f, hf, hlapsed⟩ := hown.purges q (hin q hq) hqk hqr
    obtain rfl := Option.some.inj hf
    exact nomatch hl.symm.trans hlapsed
  · obtain rfl := Option.some.inj hf
    refine ⟨nofun, fun _ => (mem_tail_iff hs ?_).mpr ((hown.listed hserves e rfl).2.1 hkeys), nofun⟩
    exact fun hd => nomatch (congrArg Deadline.kind hd).trans hk
  · obtain rfl := Option.some.inj hf
    exact hown.window e rfl

/-- A WINDOW_END that fires leaves a LAPSED entry with its PURGE (07 R117); its WINDOW_START stood before it. -/
theorem fireWindowEnd_matches (h : DeadlinesMatch s) (hs : s.deadlines = d :: rest) (hk : d.kind = .windowEnd) :
    DeadlinesMatch (fireWindowEnd d.ref { s with deadlines := rest }) := by
  obtain ⟨e, he, hkeys, hdue⟩ := h.ends d (hs ▸ List.mem_cons_self) hk
  have hown := he ▸ h.entryAgrees d.ref
  have hin : ∀ q ∈ rest, q ∈ s.deadlines := fun q hq => hs ▸ List.mem_cons_of_mem d hq
  have hnolapse : e.state ≠ .lapsed := fun hl => by simp [ParcelEntry.holdsKeys, hl] at hkeys
  rw [fireWindowEnd_eq (s := { s with deadlines := rest }) he hkeys]
  refine EntryWork.matches (s := s) (i := d.ref) ⟨rfl, rfl, fun j hj => ?_, fun q hq => ?_⟩ h
    (insertDeadline_inOrder (h.tail_order hs).2) ((h.tail_once hs).insert fun q hq hqk hqr => ?_)
    (.inr fun hnil => nomatch hs.symm.trans hnil) ?_
  · simp only [State.entry, raisePulse_store, slotGet_set_ne (Ne.symm hj)]
  · refine mem_insertDeadline.trans ((or_iff_right ?_).trans (mem_tail_iff hs ?_))
    · rintro rfl
      exact hq.elim nofun fun hne => hne rfl
    · rintro rfl
      exact hq.elim (fun hq => nomatch hk.symm.trans hq) fun hne => hne rfl
  · obtain ⟨f, hf, hlapsed⟩ := hown.purges q (hin q hq) hqk hqr
    exact hnolapse (Option.some.inj hf ▸ hlapsed)
  · have hself : slotGet (s.store.table.set d.ref (some { e with state := .lapsed, refs := [] })) d.ref =
        some { e with state := .lapsed, refs := [] } := slotGet_set_self (State.entry_lt he)
    refine EntryAgrees.mk (fun q hq hqk hqr => ?_) (fun q hq hqk hqr => ?_) (fun q hq hqk hqr => ⟨_, hself, rfl⟩)
      (fun _ f hf => ?_) fun f hf => ?_
    · have hq' : q ∈ rest := (mem_insertDeadline.mp hq).resolve_left (by rintro rfl; exact nomatch hqk)
      obtain ⟨f, hf, -, hqdue⟩ := hown.starts q (hin q hq') hqk hqr
      obtain rfl := Option.some.inj hf
      have hwindow := hown.window e rfl
      have horder := (h.tail_order hs).1 q hq'
      rw [hdue, hqdue] at horder
      unfold ParcelEntry.es ParcelEntry.ss at horder
      omega
    · have hq' : q ∈ rest := (mem_insertDeadline.mp hq).resolve_left (by rintro rfl; exact nomatch hqk)
      exact absurd hqr (h.head_ne hs q hq' (hqk.trans hk.symm))
    · obtain rfl := Option.some.inj (hself.symm.trans hf)
      exact ⟨nofun, nofun, fun _ _ => ⟨_, mem_insertDeadline.mpr (.inl rfl), rfl, rfl⟩⟩
    · obtain rfl := Option.some.inj (hself.symm.trans hf)
      exact hown.window e rfl

/-- A PURGE that fires frees its entry, or leaves it with purge due and no deadline (07 R118). -/
theorem firePurge_matches (h : DeadlinesMatch s) (hs : s.deadlines = d :: rest) (hk : d.kind = .purge) :
    DeadlinesMatch (firePurge d.ref { s with deadlines := rest }) := by
  obtain ⟨e, he, hl⟩ := h.purges d (hs ▸ List.mem_cons_self) hk
  have hown := he ▸ h.entryAgrees d.ref
  have hspan : d.kind ≠ .spanEnd := by simp [hk]
  have hin : ∀ q ∈ rest, q ∈ s.deadlines := fun q hq => hs ▸ List.mem_cons_of_mem d hq
  rcases Nat.eq_zero_or_pos e.grantCount with h0 | h0
  · rw [firePurge_eq_free (s := { s with deadlines := rest }) he hl h0]
    have hsub := freeEntry_deadlines_sublist d.ref { s with deadlines := rest }
    refine (freeEntry_entryWork (s := s) (u := { s with deadlines := rest }) rfl rfl rfl
      (writeHead_entryWork hs hspan none).rest).matches h
      ((h.tail_order hs).2.sublist hsub) ((h.tail_once hs).sublist hsub)
      (.inr fun hnil => nomatch hs.symm.trans hnil) (freeEntry_agrees ..)
  · rw [firePurge_eq_mark (s := { s with deadlines := rest }) he hl h0]
    have hself : (State.setEntry { s with deadlines := rest } d.ref (some { e with purgeDue := true })).entry d.ref =
        some { e with purgeDue := true } := by
      rw [State.entry_setEntry, if_pos ⟨rfl, State.entry_lt (s := { s with deadlines := rest }) he⟩]
    have hkeyless : e.holdsKeys = false := by simp [ParcelEntry.holdsKeys, hl]
    refine (writeHead_entryWork hs hspan _).matches h (h.tail_order hs).2 (h.tail_once hs)
      (.inr fun hnil => nomatch hs.symm.trans hnil) ?_
    rw [hself]
    refine EntryAgrees.mk (fun q hq hqk hqr => ?_) (fun q hq hqk hqr => ?_)
      (fun q hq hqk hqr => absurd hqr (h.head_ne hs q hq (hqk.trans hk.symm))) (fun _ f hf => ?_) fun f hf => ?_
    · obtain ⟨f, hf, hlatent, -⟩ := hown.starts q (hin q hq) hqk hqr
      obtain rfl := Option.some.inj hf
      exact nomatch hl.symm.trans hlatent
    · obtain ⟨f, hf, hkeys, -⟩ := hown.ends q (hin q hq) hqk hqr
      obtain rfl := Option.some.inj hf
      exact nomatch hkeyless.symm.trans hkeys
    · obtain rfl := Option.some.inj hf
      exact ⟨fun hlatent => (nomatch hl.symm.trans hlatent), fun hkeys => (nomatch hkeyless.symm.trans hkeys), nofun⟩
    · obtain rfl := Option.some.inj hf
      exact hown.window e rfl

/-- A SPAN_END that fires takes its record out of OPEN (06 R99). -/
theorem fireSpanEnd_matches (h : DeadlinesMatch s) (hs : s.deadlines = d :: rest) (hk : d.kind = .spanEnd) :
    DeadlinesMatch (fireSpanEnd d.ref { s with deadlines := rest }) := by
  obtain ⟨r, hr, ho, -⟩ := h.spans d (hs ▸ List.mem_cons_self) hk
  have hsub : (rest.filter fun q => !(q.kind == .spanEnd && q.ref == d.ref)).Sublist rest := List.filter_sublist
  rw [fireSpanEnd_eq (s := { s with deadlines := rest }) hr ho,
    expireGrant_eq (s := { s with deadlines := rest }) .span hr]
  refine RecordWork.matches (s := s) (p := (· = d.ref)) ⟨rfl, rfl, fun g hg => ?_, fun q hq => ?_⟩ h
    ((h.tail_order hs).2.sublist hsub) ((h.tail_once hs).sublist hsub)
    (.inr fun hnil => nomatch hs.symm.trans hnil) fun g hg q hq hqk hqg => ?_
  · simp only [State.grant, raisePulse_grants, slotGet_set_ne (Ne.symm hg)]
  · refine mem_filter_span.trans ((and_iff_left hq).trans (mem_tail_iff hs ?_))
    rintro rfl
    exact hq.elim (fun hne => hne hk) fun hne => hne rfl
  · exact absurd (hqg.trans hg) ((mem_filter_span.mp hq).2.resolve_left fun hne => hne hqk)

theorem fireHead_matches (h : DeadlinesMatch s) (hs : s.deadlines = d :: rest) :
    DeadlinesMatch (fireOne d { s with deadlines := rest }) := by
  unfold fireOne
  split <;> rename_i hk
  · exact fireWindowStart_matches h hs hk
  · exact fireWindowEnd_matches h hs hk
  · exact firePurge_matches h hs hk
  · exact fireSpanEnd_matches h hs hk

end

theorem fireDue_matches (fuel n : Nat) {s : State} (h : DeadlinesMatch s) : DeadlinesMatch (fireDue fuel n s) := by
  induction fuel generalizing s with
  | zero => exact h
  | succ fuel ih =>
    unfold fireDue
    split
    · exact h
    · rename_i d rest hs
      split
      · exact ih (fireHead_matches h hs)
      · exact h

theorem runDeadlines_listKept (n : Nat) (s : State) : ListKept p s (runDeadlines n s) :=
  ⟨runDeadlines_inOrder n, fun _ => fireDue_matches _ n⟩

end Sys2Proof.Machine
end

section
/-! PROOFS. What inserts deadlines, a commit, a grant, a backward trim and a rebuild, keeps order and agreement (O8). -/

namespace Sys2Proof.Machine

/-! ## The deadlines an entry is given -/

theorem entryDeadlines_listedOnce (s : State) (i : Nat) (e : ParcelEntry) : ListedOnce (entryDeadlines s i e) := by
  unfold entryDeadlines ListedOnce
  split <;> simp

/-- Table 7.1: the deadlines of an entry, by its state. -/
theorem mem_entryDeadlines {s : State} {i : Nat} {e : ParcelEntry} {d : Deadline} : d ∈ entryDeadlines s i e ↔
    (e.state = .latent ∧ d = { due := e.ss, kind := .windowStart, ref := i }) ∨
    (e.holdsKeys = true ∧ d = { due := e.es, kind := .windowEnd, ref := i }) ∨
    (e.state = .lapsed ∧ d = { due := purgeAt s e, kind := .purge, ref := i }) := by
  unfold entryDeadlines ParcelEntry.holdsKeys
  cases e.state <;> simp

/-- An entry agrees with a list that holds of its index what Table 7.1 gives it. -/
theorem entryAgrees_of_entryDeadlines {serves : Prop} {l : List Deadline} {i : Nat} {e : ParcelEntry} {s : State}
    (hw : e.winStart < e.winEnd)
    (h : ∀ d, d.kind ≠ .spanEnd → d.ref = i → (d ∈ l ↔ d ∈ entryDeadlines s i e)) : EntryAgrees serves l i (some e) := by
  have hin : ∀ d ∈ l, d.kind ≠ .spanEnd → d.ref = i → _ := fun d hd hk hi => mem_entryDeadlines.mp ((h d hk hi).mp hd)
  have hout : ∀ d ∈ entryDeadlines s i e, d ∈ l := fun d hd =>
    (h d (entryDeadlines_kind hd) (entryDeadlines_ref hd)).mpr hd
  refine EntryAgrees.mk (fun d hd hk hi => ⟨e, rfl, ?_⟩) (fun d hd hk hi => ⟨e, rfl, ?_⟩)
    (fun d hd hk hi => ⟨e, rfl, ?_⟩) (fun _ f hf => ?_) fun f hf => Option.some.inj hf ▸ hw
  · rcases hin d hd (by simp [hk]) hi with ⟨hl, rfl⟩ | ⟨-, rfl⟩ | ⟨-, rfl⟩
    · exact ⟨hl, rfl⟩
    · exact nomatch hk
    · exact nomatch hk
  · rcases hin d hd (by simp [hk]) hi with ⟨-, rfl⟩ | ⟨hl, rfl⟩ | ⟨-, rfl⟩
    · exact nomatch hk
    · exact ⟨hl, rfl⟩
    · exact nomatch hk
  · rcases hin d hd (by simp [hk]) hi with ⟨-, rfl⟩ | ⟨-, rfl⟩ | ⟨hl, rfl⟩
    · exact nomatch hk
    · exact nomatch hk
    · exact hl
  · obtain rfl := Option.some.inj hf
    exact ⟨fun hl => hout _ (mem_entryDeadlines.mpr (.inl ⟨hl, rfl⟩)),
      fun hk => hout _ (mem_entryDeadlines.mpr (.inr (.inl ⟨hk, rfl⟩))),
      fun hl _ => ⟨{ due := purgeAt s e, kind := .purge, ref := i },
        hout _ (mem_entryDeadlines.mpr (.inr (.inr ⟨hl, rfl⟩))), rfl, rfl⟩⟩

/-- Where no entry stands there is no deadline of a parcel. -/
theorem DeadlinesMatch.spanEnd_of_free {s : State} (h : DeadlinesMatch s) {d : Deadline} (hd : d ∈ s.deadlines)
    (hfree : s.entry d.ref = none) : d.kind = .spanEnd := by
  have hnone : ∀ {q : ParcelEntry → Prop}, ¬∃ e, s.entry d.ref = some e ∧ q e := by simp [hfree]
  cases hk : d.kind with
  | spanEnd => rfl
  | windowStart => exact absurd (h.starts d hd hk) hnone
  | windowEnd => exact absurd (h.ends d hd hk) hnone
  | purge => exact absurd (h.purges d hd hk) hnone

/-- A parcel is committed at a free index, with its deadlines (01 R15, 07 R113). -/
theorem committed_listKept {i : Nat} {p : Parcel} (ks : List Key) {s : State}
    (hi : lowestFree s.store.table = some i) (hw : DeadlinesMatch s → p.winStart < p.winEnd) :
    ListKept (s.control.phase = .none) s (committed i p ks s) where
  order := foldl_insertDeadline_inOrder
  agrees hp h := by
    have hfree : s.entry i = none := (lowestFree_eq_some.mp hi).2.1
    have hspan : ∀ d ∈ s.deadlines, d.ref = i → d.kind = .spanEnd := fun d hd hdi =>
      h.spanEnd_of_free hd (hdi ▸ hfree)
    have hmem : ∀ d, d ∈ (committed i p ks s).deadlines ↔
        d ∈ entryDeadlines s i (newEntry p (keySlots p s) s) ∨ d ∈ s.deadlines := fun d => mem_foldl_insertDeadline
    refine EntryWork.matches (s := s) (i := i) ⟨rfl, rfl, fun j hj => slotGet_set_ne (Ne.symm hj), fun d hd => ?_⟩ h
      (foldl_insertDeadline_inOrder h.order) (ListedOnce.perm ?_ (foldl_insertDeadline_perm ..)) (.inl hp) ?_
    · rw [hmem]
      exact or_iff_right fun hd' => hd.elim (entryDeadlines_kind hd') fun hne => hne (entryDeadlines_ref hd')
    · unfold ListedOnce
      rw [List.map_append]
      refine (entryDeadlines_listedOnce ..).append h.once fun x hx hx' => ?_
      obtain ⟨d, hd, rfl⟩ := List.mem_map.mp hx
      obtain ⟨q, hq, hqd⟩ := List.mem_map.mp hx'
      obtain ⟨hk, hr⟩ := Prod.mk.inj hqd
      exact entryDeadlines_kind hd (hk ▸ hspan q hq (hr.trans (entryDeadlines_ref hd)))
    · rw [committed_entry p ks hi]
      refine entryAgrees_of_entryDeadlines (s := s) (hw h) fun d hk hd => ?_
      rw [hmem]
      exact or_iff_left fun hd' => hk (hspan d hd' hd)

/-! ## Records -/

/-- A record is written in a slot that has no SPAN_END, with its SPAN_END when it is OPEN. -/
theorem commitGrant_listKept {g : Nat} {r : Grant} {who : Requester} {s : State} (hr : s.grant g = some r)
    (hopening : r.state = .opening who) : ListKept (s.control.phase = .none) s (commitGrant g r s) where
  order := insertDeadline_inOrder
  agrees hp h := by
    have hnone : ∀ d ∈ s.deadlines, d.kind = .spanEnd → d.ref ≠ g := by
      rintro d hd hk rfl
      obtain ⟨q, hq, hopen, -⟩ := h.spans d hd hk
      rw [hr] at hq
      obtain rfl := Option.some.inj hq
      exact nomatch hopening.symm.trans hopen
    refine RecordWork.matches (s := s) (p := (· = g)) ⟨rfl, rfl, fun x hx => slotGet_set_ne (Ne.symm hx), fun d hd => ?_⟩
      h (insertDeadline_inOrder h.order) (ListedOnce.insert h.once fun q hq hqk => hnone q hq hqk) (.inl hp)
      fun x hx d hd hk hdx => ?_
    · refine mem_insertDeadline.trans (or_iff_right ?_)
      rintro rfl
      exact hd.elim (fun hne => hne rfl) fun hne => hne rfl
    · subst hx
      obtain rfl := (mem_insertDeadline.mp hd).resolve_right fun hd => hnone d hd hk hdx
      exact ⟨{ r with state := .opened, used := 0 }, slotGet_set_self (State.grant_lt hr), rfl, rfl⟩

/-- An EXTEND moves an OPEN record's SPAN_END with its X (06 R107). -/
theorem moveSpanEnd_listKept {g : Nat} {r : Grant} {s : State} (hr : s.grant g = some r) (hopen : r.state = .opened)
    (y : Nat) : ListKept (s.control.phase = .none) s (moveSpanEnd g r y s) where
  order ho := insertDeadline_inOrder (ho.sublist List.filter_sublist)
  agrees hp h := by
    have hsub : (s.deadlines.filter fun d => !(d.kind == .spanEnd && d.ref == g)).Sublist s.deadlines :=
      List.filter_sublist
    refine RecordWork.matches (s := s) (p := (· = g)) ⟨rfl, rfl, fun x hx => slotGet_set_ne (Ne.symm hx), fun d hd => ?_⟩
      h (insertDeadline_inOrder (h.order.sublist hsub))
      (ListedOnce.insert (ListedOnce.sublist h.once hsub) fun q hq hqk => ?_) (.inl hp) fun x hx d hd hk hdx => ?_
    · refine mem_insertDeadline.trans ((or_iff_right ?_).trans (mem_filter_span.trans (and_iff_left hd)))
      rintro rfl
      exact hd.elim (fun hne => hne rfl) fun hne => hne rfl
    · exact (mem_filter_span.mp hq).2.resolve_left fun hne => hne hqk
    · subst hx
      obtain rfl := (mem_insertDeadline.mp hd).resolve_right fun hd =>
        ((mem_filter_span.mp hd).2.resolve_left fun hne => hne hk) hdx
      exact ⟨{ r with x := y, used := r.used + (y - r.x) }, slotGet_set_self (State.grant_lt hr), hopen, rfl⟩

/-- A selected open's record is OPENING, in a slot that was free and had no SPAN_END (05 R80). -/
theorem startRewrap_listKept {p : Prop} {g : Nat} (w : OpenReq) (plan : OpenPlan) {s : State}
    (hg : lowestFree s.grants.slots = some g) : ListKept p s (startRewrap g w plan s) := by
  have hfree : s.grant g = none := (lowestFree_eq_some.mp hg).2.1
  unfold startRewrap
  refine ListKept.trans ?_ ((countUp_listKept plan.parcel _).trans (.of_view rfl))
  refine RecordWork.listKept (q := (· = g)) ⟨rfl, rfl, fun x hx => slotGet_set_ne (Ne.symm hx), fun _ _ => .rfl⟩
    (List.Sublist.refl _) fun h x hx d hd hk hdx => ?_
  obtain ⟨r, hr, -⟩ := h.spans d hd hk
  rw [hdx, hx, hfree] at hr
  exact nomatch hr

/-! ## A backward trim -/

/-- One LIVE entry is LATENT again, with its WINDOW_START (07 R119). -/
theorem returnEntry_listKept (n : Nat) {s : State} {p : Nat × ParcelEntry} (he : s.entry p.1 = some p.2) :
    ListKept (s.control.phase = .none) s (returnEntry n s p) := by
  obtain ⟨i, e⟩ := p
  unfold returnEntry
  split
  · rename_i hc
    have hlive : e.state = .live := hc.1
    rw [setEntryState_eq _ he]
    refine ⟨insertDeadline_inOrder, fun hp h => ?_⟩
    have hown : EntryAgrees _ _ i (some e) := he ▸ h.entryAgrees i
    have hnone : ∀ q ∈ s.deadlines, q.kind = .windowStart → q.ref ≠ i := fun q hq hqk hqi => by
      obtain ⟨f, hf, hl, -⟩ := hown.starts q hq hqk hqi
      obtain rfl := Option.some.inj hf
      exact nomatch hlive.symm.trans hl
    have hkeys : e.holdsKeys = true := by simp [ParcelEntry.holdsKeys, hlive]
    have hself : (addDeadline { due := e.ss, kind := .windowStart, ref := i }
        (s.setEntry i (some { e with state := .latent }))).entry i = some { e with state := .latent } :=
      slotGet_set_self (State.entry_lt he)
    have hmem : ∀ q, q.kind ≠ .windowStart → (q ∈ insertDeadline { due := e.ss, kind := .windowStart, ref := i }
        s.deadlines ↔ q ∈ s.deadlines) := fun q hq =>
      mem_insertDeadline.trans (or_iff_right fun hd => hq (congrArg Deadline.kind hd))
    refine EntryWork.matches (s := s) (i := i) ⟨rfl, rfl, fun j hj => slotGet_set_ne (Ne.symm hj), fun d hd => ?_⟩ h
      (insertDeadline_inOrder h.order) (ListedOnce.insert h.once hnone) (.inl hp) ?_
    · refine mem_insertDeadline.trans (or_iff_right ?_)
      rintro rfl
      exact hd.elim nofun fun hne => hne rfl
    · rw [hself]
      refine EntryAgrees.mk (fun q hq hqk hqi => ⟨_, rfl, rfl, ?_⟩) (fun q hq hqk hqi => ?_) (fun q hq hqk hqi => ?_)
        (fun hserves f hf => ?_) fun f hf => ?_
      · obtain rfl := (mem_insertDeadline.mp hq).resolve_right fun hq => hnone q hq hqk hqi
        rfl
      · obtain ⟨f, hf, -, hdue⟩ := hown.ends q ((hmem q (by simp [hqk])).mp hq) hqk hqi
        obtain rfl := Option.some.inj hf
        exact ⟨_, rfl, rfl, hdue⟩
      · obtain ⟨f, hf, hl⟩ := hown.purges q ((hmem q (by simp [hqk])).mp hq) hqk hqi
        obtain rfl := Option.some.inj hf
        exact nomatch hlive.symm.trans hl
      · obtain rfl := Option.some.inj hf
        exact ⟨fun _ => mem_insertDeadline.mpr (.inl rfl),
          fun _ => (hmem _ (by simp)).mpr ((hown.listed hserves e rfl).2.1 hkeys), nofun⟩
      · obtain rfl := Option.some.inj hf
        exact hown.window e rfl
  · exact .refl s

theorem returnLatent_listKept (n : Nat) (s : State) : ListKept (s.control.phase = .none) s (returnLatent n s) := by
  have hentries := returnEntry_entries n
  rw [returnLatent_eq]
  refine (foldl_listUsed_chain (R := fun s t => t.control = s.control ∧ ListKept (s.control.phase = .none) s t)
    (fun t p j hj => ?_) (fun t => ⟨rfl, .refl t⟩) (fun hst htu => ?_) (fun t p hp => ?_) s).2
  · unfold returnEntry
    split
    · exact setEntryState_entry_ne _ t hj
    · rfl
  · exact ⟨htu.1.trans hst.1, hst.2.trans (htu.2.mono fun h => hst.1 ▸ h)⟩
  · exact ⟨by rw [hentries t p], returnEntry_listKept n hp⟩

/-! ## A rebuild -/

theorem rebuildInsert_perm (s : State) : (rebuildInsert s).deadlines.Perm
    (((listUsed s.store.table).flatMap fun p => entryDeadlines s p.1 p.2) ++ s.deadlines) := by
  have hfold : ∀ (l : List (Nat × ParcelEntry)) (t : State),
      (l.foldl (fun t p => (entryDeadlines s p.1 p.2).foldl (fun u d => addDeadline d u) t) t).deadlines.Perm
        ((l.flatMap fun p => entryDeadlines s p.1 p.2) ++ t.deadlines) := by
    intro l
    induction l with
    | nil => exact fun t => .refl _
    | cons p l ih =>
      intro t
      rw [List.foldl_cons, foldl_addDeadline, List.flatMap_cons]
      refine (ih _).trans (((foldl_insertDeadline_perm ..).append_left _).trans ?_)
      rw [← List.append_assoc]
      exact List.perm_append_comm.append_right _
  exact hfold _ s

/-- The deadlines of different entries refer to different indices. -/
theorem rebuildInsert_listedOnce {s : State} (h : s.deadlines = []) : ListedOnce (rebuildInsert s).deadlines := by
  refine ListedOnce.perm ?_ (rebuildInsert_perm s)
  rw [h, List.append_nil, ListedOnce, List.map_flatMap, List.nodup_flatMap]
  refine ⟨fun p _ => entryDeadlines_listedOnce .., (listUsed_ascending _).imp fun hpq x hx hx' => ?_⟩
  obtain ⟨d, hd, rfl⟩ := List.mem_map.mp hx
  obtain ⟨q, hq, hqd⟩ := List.mem_map.mp hx'
  have href := (Prod.mk.inj hqd).2
  rw [entryDeadlines_ref hd, entryDeadlines_ref hq] at href
  omega

theorem rebuildList_listedOnce (n : Nat) (s : State) : ListedOnce (rebuildList n s).deadlines :=
  rebuildInsert_listedOnce (List.eq_nil_iff_forall_not_mem.mpr fun q hq =>
    nomatch (rebuildSteps_rebuildWork n { s with deadlines := [] }).deadlines q hq)

/-- A rebuild leaves an entry the window it had. -/
theorem rebuildList_window {n i : Nat} {s : State} {e : ParcelEntry} (he : (rebuildList n s).entry i = some e)
    (hw : ∀ i e, s.entry i = some e → e.winStart < e.winEnd) : e.winStart < e.winEnd := by
  rw [rebuildList_entry] at he
  obtain ⟨f, hf, hfe⟩ := Option.bind_eq_some_iff.mp he
  obtain ⟨hstart, hend⟩ := classedEntry_window n f
  unfold rebuiltEntry at hfe
  split at hfe
  · exact nomatch hfe
  · obtain rfl := Option.some.inj hfe
    rw [hstart, hend]
    exact hw i f hf

/-- Every entry agrees with the list that a rebuild leaves (07 R122). -/
theorem rebuildList_entryAgrees (n i : Nat) {s : State} (serves : Prop)
    (hw : ∀ i e, s.entry i = some e → e.winStart < e.winEnd) :
    EntryAgrees serves (rebuildList n s).deadlines i ((rebuildList n s).entry i) := by
  cases he : (rebuildList n s).entry i with
  | none =>
    refine entryAgrees_bare (fun d hd hdi => ?_) fun e h => nomatch h
    obtain ⟨j, e, hj, hdj⟩ := mem_rebuildList_deadlines.mp hd
    rw [← entryDeadlines_ref hdj, hdi, he] at hj
    exact nomatch hj
  | some e =>
    refine entryAgrees_of_entryDeadlines (s := s) (rebuildList_window he hw) fun d hk hdi => ?_
    rw [mem_rebuildList_deadlines]
    refine ⟨?_, fun hd => ⟨i, e, he, hd⟩⟩
    rintro ⟨j, f, hf, hd⟩
    obtain rfl := (entryDeadlines_ref hd).symm.trans hdi
    rw [he] at hf
    exact Option.some.inj hf ▸ hd

theorem rebuildList_staging (n : Nat) (s : State) : (rebuildList n s).store.staging = s.store.staging :=
  congrArg (fun v => v.2.2) (rebuildList_work n s).guardView

/-- A state with the store and the list that a rebuild leaves agrees with itself, once REBUILD has run (07 R122). -/
theorem rebuildList_matches {n : Nat} {s t : State} (hstore : t.store = (rebuildList n s).store)
    (hdeadlines : t.deadlines = (rebuildList n s).deadlines)
    (hphase : t.control.phase = .none ∨ t.control.phase = .finish)
    (hw : ∀ i e, s.entry i = some e → e.winStart < e.winEnd)
    (hst : ∀ q ∈ s.store.staging, q.parcel.winStart < q.parcel.winEnd) : DeadlinesMatch t := by
  have hentry : ∀ i, t.entry i = (rebuildList n s).entry i := fun i => by unfold State.entry; rw [hstore]
  refine deadlinesMatch_of_owners ?_ ?_ (fun hp hf => absurd hphase (not_or.mpr ⟨hp, hf⟩)) (fun i => ?_)
    (fun g d hd hk => ?_) ?_
  · rw [hdeadlines]; exact rebuildList_inOrder n s
  · rw [hdeadlines]; exact rebuildList_listedOnce n s
  · rw [hdeadlines, hentry]; exact rebuildList_entryAgrees n i _ hw
  · rw [hdeadlines] at hd; exact absurd hk (rebuildList_kind hd)
  · rw [hstore, rebuildList_staging]; exact hst

end Sys2Proof.Machine
end

section
/-! PROOFS. Every request keeps the Deadline List in order and in agreement (O8). -/

namespace Sys2Proof.Machine

/-! ## Requests -/

variable {p : Prop}

/-- An owner keeps order and agreement once the start-up has ended. -/
def OwnerKeepsList (owner : Owner) : Prop := ∀ who f s, ListKept (s.control.phase = .none) s (owner who f s)

theorem ListKept.reply {s t : State} (h : ListKept p s t) {f : Frame} {r : Reply} : ListKept p s (reply f r t) :=
  h.trans (.of_view rfl)

theorem ListKept.replyLater {s t : State} (h : ListKept p s t) {who : Requester} {k : Kind} {r : Reply} :
    ListKept p s (replyLater who k r t) := h.trans (.of_view rfl)

/-- A checked request, by what it does when its checks pass. -/
theorem checked_listKept {f : Frame} {cs : List (Bool × Reply)} {act : State → State} {s : State}
    (hact : (∀ c ∈ cs, c.1 = false) → ListKept p s (act s)) : ListKept p s (checked f cs act s) := by
  rcases checked_passed f cs act s with ⟨r, he⟩ | ⟨hpass, he⟩ <;> rw [he]
  · exact (ListKept.refl s).reply
  · exact hact hpass

/-- A request whose act keeps them whatever its checks found. -/
theorem ownChecked_listKept {cs : Sender → Frame → State → List (Bool × Reply)} {act : Sender → Frame → State → State}
    (h : ∀ who f s, ListKept (s.control.phase = .none) s (act who f s)) :
    OwnerKeepsList fun who f s => checked f (cs who f s) (act who f) s :=
  fun who f s => checked_listKept fun _ => h who f s

theorem settle_listKept {owner : Owner} (h : OwnerKeepsList owner) (f : Frame) (s : State) :
    ListKept (s.control.phase = .none) s (settle owner f s) := by
  unfold settle
  split
  · exact .of_view rfl
  · exact h _ f s

/-- Where a frame can be taken STARTING has ended, and with it the start-up (11 R174). -/
theorem GrantsCounted.phase_of_canTake {s : State} (c : GrantsCounted s) (h : canTake s = true) :
    s.control.phase = .none := by
  by_contra hp
  simp [canTake, State.awake, c.phase hp] at h

theorem takeRequest_listKept (k : Kind) (src : Addr) (tag : Byte) (body : List Byte) {owner : Owner}
    (h : OwnerKeepsList owner) (s : State) :
    ListKept (GrantsCounted s) s (takeRequest k src tag body owner s) := by
  unfold takeRequest
  split
  · rename_i htake
    exact (settle_listKept h _ s).mono fun c => c.phase_of_canTake htake
  · exact .refl s

/-! ### Parcels -/

/-- A parcel whose form is in order has a window that ends after it starts (01 Table 1.2). -/
theorem parcelOf_window {body : List Byte} (h : parcelForm body = none) :
    (parcelOf body).winStart < (parcelOf body).winEnd := by
  by_contra hw
  have hwindow : num body 28 4 ≤ num body 24 4 := Nat.not_lt.mp hw
  simp only [parcelForm, hwindow, true_or, if_true] at h
  split_ifs at h

theorem ownParcelLoad_listKept : OwnerKeepsList ownParcelLoad := fun who f s =>
  checked_listKept fun hpass => by
    have hform : (formCheck (parcelForm f.body)).1 = false := hpass _ (by simp [loadChecks])
    have hwindow := parcelOf_window (by simpa [formCheck] using hform)
    refine .of_staging rfl fun hst q hq => ?_
    rcases List.mem_append.mp hq with hq | hq
    · exact hst q hq
    · rw [List.mem_singleton.mp hq]; exact hwindow

/-- A staging place is written with the parcel it carries. -/
theorem setStaging_listKept {i : Nat} {q r : StagingPlace} {s : State} (hq : s.store.staging[i]? = some q)
    (hr : r.parcel = q.parcel) :
    ListKept p s { s with store := { s.store with staging := s.store.staging.set i r } } := by
  refine .of_staging rfl fun hst x hx => ?_
  rcases List.mem_or_eq_of_mem_set hx with hx | rfl
  · exact hst x hx
  · rw [hr]; exact hst q (List.mem_of_getElem? hq)

theorem withdrawStaged_listKept {i : Nat} {q : StagingPlace} {s : State} (hq : s.store.staging[i]? = some q)
    (f : Frame) : ListKept p s (withdrawStaged i q f s) := by
  unfold withdrawStaged
  split
  · refine ListKept.reply ((setStaging_listKept hq (r := { q with phase := .answerDue .withdrawn }) rfl).trans ?_)
    split <;> exact .of_view rfl
  · exact (setStaging_listKept hq (r := { q with phase := .verifying true }) rfl).reply
  · exact .refl s

theorem withdrawCommitted_listKept {i : Nat} {e : ParcelEntry} {s : State} (he : s.entry i = some e) (force : Bool)
    (f : Frame) : ListKept p s (withdrawCommitted i e force f s) := by
  unfold withdrawCommitted
  split
  · exact (freeEntry_listKept i s).reply
  · exact ((withdrawEntry_listKept he).trans (forceExpiry_listKept ..)).reply

theorem withdraw_listKept (f : Frame) (s : State) : ListKept p s (withdraw f s) := by
  unfold withdraw
  dsimp only
  split
  · split
    · rename_i q hq
      exact withdrawStaged_listKept hq f
    · exact .refl s
  · split
    · rename_i q hq
      exact withdrawCommitted_listKept (mem_listUsed.mp (List.mem_of_find?_eq_some hq)) ..
    · exact (ListKept.refl s).reply

/-! ### Opens and grants -/

theorem admitOpen_listKept (slot : Nat) (e : Station) (f : Frame) (s : State) :
    ListKept p s (admitOpen slot e f s) := by
  unfold admitOpen
  dsimp only
  split
  · exact .of_view rfl
  · split <;> exact .of_view rfl

theorem closeGrant_listKept (who : Sender) (f : Frame) (s : State) : ListKept p s (closeGrant who f s) := by
  unfold closeGrant
  dsimp only
  split
  · exact .refl s
  · exact (freeGrant_listKept ..).reply

theorem ownExtend_listKept : OwnerKeepsList ownExtend := fun who f s =>
  checked_listKept fun hpass => by
    have hx : (extendExpired (handleAt f.body 0) (namedGrant who (handleAt f.body 0) s)).1 = false :=
      hpass _ (by simp [extendChecks])
    unfold extendGrant
    dsimp only
    split
    · exact .refl s
    · rename_i r hn
      split
      · exact (moveSpanEnd_listKept (namedGrant_some hn) (namedGrant_isOpened hn (hn ▸ hx)) _).reply
      · exact (ListKept.refl s).reply

/-! ### Booth time -/

theorem handTrim_listKept (a : Int) (s : State) : ListKept (s.control.phase = .none) s (handTrim a s) := by
  unfold handTrim
  split
  · exact runDeadlines_listKept ..
  · split
    · exact returnLatent_listKept ..
    · exact .refl s

theorem applyTrim_listKept (d : Int) (s : State) : ListKept (s.control.phase = .none) s (applyTrim d s) := by
  have htrimmed (a : Int) : ListKept (s.control.phase = .none) s (handTrim a (moveBooth a s)) := by
    have hmoved : ListKept (s.control.phase = .none) s (moveBooth a s) := by rw [moveBooth_eq]; exact .of_view rfl
    exact hmoved.trans ((handTrim_listKept a _).mono fun h => by rw [moveBooth_eq]; exact h)
  unfold applyTrim
  dsimp only
  split
  · exact htrimmed _
  · exact (htrimmed _).trans (.of_view rfl)

/-- Time is set with a rebuild of the list (07 R121). -/
theorem establishTime_listKept (v : Nat) (s : State) :
    ListKept (s.control.phase = .none) s (establishTime v s) := by
  rw [establishTime_eq]
  refine ⟨fun _ => rebuildList_inOrder .., fun hp h => rebuildList_matches rfl rfl (.inl ?_) h.windows h.staged⟩
  rw [(rebuildList_work ..).control]
  exact hp

/-! ### Stations and modes -/

theorem enrol_listKept (f : Frame) (s : State) : ListKept p s (enrol f s) := by
  unfold enrol
  dsimp only
  split
  · exact .of_view rfl
  · exact .refl s

theorem suspend_listKept (f : Frame) (s : State) : ListKept p s (suspend f s) := by
  unfold suspend
  split
  · rename_i e _
    have hset : ListKept p s (s.setStation (slotField f.body) (some { e with state := .suspended })) := .of_view rfl
    unfold suspendStation
    split
    · exact (ListKept.refl s).reply
    · dsimp only
      split
      · refine (hset.trans (ListKept.trans ?_ (forceExpiry_listKept ..))).reply
        exact .of_view rfl
      · exact hset.reply
  · exact .refl s

theorem resume_listKept (f : Frame) (s : State) : ListKept p s (resume f s) := by
  unfold resume
  split
  · exact .of_view rfl
  · exact .refl s

theorem giveRank_listKept (f : Frame) (s : State) : ListKept p s (giveRank f s) := by
  unfold giveRank
  split
  · exact .of_view rfl
  · exact .refl s

theorem enterMode_listKept (m : Mode) (s : State) : ListKept p s (enterMode m s).1 := by
  unfold enterMode
  split
  · exact .refl s
  · split
    · split
      · exact .refl s
      · exact .of_view rfl
    · split
      · exact .refl s
      · split
        · exact .refl s
        · exact .of_view rfl

theorem evaluateModeChange_listKept (m : Mode) (s : State) : ListKept p s (evaluateModeChange m s).1 := by
  have hempty : ListKept p s (setMismatch 0 (setHolder none s)) := .of_view rfl
  unfold evaluateModeChange
  split
  · exact .of_view rfl
  · split
    · exact hempty.trans (enterMode_listKept ..)
    · exact .of_view rfl

/-- ZEROIZE empties list and tables (08 R144). -/
theorem eraseAll_listKept (s : State) : ListKept p s (eraseAll s) := by
  have hnone : ∀ i, (eraseAll s).entry i = none := fun _ => slotGet_map_none ..
  refine ⟨fun _ => List.Pairwise.nil, fun _ _ => deadlinesMatch_of_empty rfl (fun _ => hnone) (fun i e he => ?_) ?_⟩
  · rw [hnone] at he
    exact nomatch he
  · exact fun q hq => nomatch hq

theorem readNotices_listKept (f : Frame) (s : State) : ListKept p s (readNotices f s) := by
  unfold readNotices
  dsimp only
  split <;> exact .of_view rfl

/-! ### Every request -/

theorem ownerOf_listKept (k : Kind) : OwnerKeepsList (ownerOf k) := by
  cases k with
  | status | parcelList | grantList | stationRetire | stationList | modeKey | settingWrite | settingRead
  | noticeConfig | selfTest | restart => exact ownChecked_listKept fun _ _ _ => .of_view rfl
  | parcelLoad => exact ownParcelLoad_listKept
  | parcelWithdraw => exact ownChecked_listKept fun _ f s => withdraw_listKept f s
  | openKeys =>
    refine ownChecked_listKept fun who f s => ?_
    cases who with
    | station slot e => exact admitOpen_listKept slot e f s
    | boot => exact .refl s
  | close => exact ownChecked_listKept fun who f s => closeGrant_listKept who f s
  | extend => exact ownExtend_listKept
  | timeTrim => exact ownChecked_listKept fun _ _ s => (applyTrim_listKept _ s).reply
  | timeSet => exact ownChecked_listKept fun _ _ s => (establishTime_listKept _ s).reply
  | stationEnrol => exact ownChecked_listKept fun _ f s => enrol_listKept f s
  | stationSuspend => exact ownChecked_listKept fun _ f s => suspend_listKept f s
  | stationResume => exact ownChecked_listKept fun _ f s => resume_listKept f s
  | stationRank => exact ownChecked_listKept fun _ f s => giveRank_listKept f s
  | modeChange =>
    refine ownChecked_listKept fun _ f s => ?_
    split
    · exact (evaluateModeChange_listKept _ s).reply
    · exact .refl s
  | zeroize =>
    refine ownChecked_listKept fun _ f s => ?_
    exact ((ListKept.refl s).reply (f := f) (r := refuse .ok)).trans (eraseAll_listKept _)
  | noticeRead => exact ownChecked_listKept fun _ f s => readNotices_listKept f s

theorem ownUnknownKind_listKept : OwnerKeepsList ownUnknownKind := fun _ _ s => (ListKept.refl s).reply

theorem requestRow_listKept (k : Kind) (src : Addr) (tag : Byte) (body : List Byte) (s : State) :
    ∃ t, exec (requestRow k src tag body) s = .next t ∧ ListKept (GrantsCounted s) s t :=
  ⟨_, exec_requestRow k src tag body s, takeRequest_listKept k src tag body (ownerOf_listKept k) s⟩

end Sys2Proof.Machine
end

section
/-! PROOFS. The link, time, the engine, the postings and the start-up keep order and agreement (O8). -/

namespace Sys2Proof.Machine

variable {p : Prop}

/-! ## Work after which the list serves no one -/

/-- Every window, of an entry or of a staged parcel, ends after it starts (01 Table 1.2). -/
def WindowsEnd (s : State) : Prop :=
  (∀ i e, s.entry i = some e → e.winStart < e.winEnd) ∧
  ∀ q ∈ s.store.staging, q.parcel.winStart < q.parcel.winEnd

theorem DeadlinesMatch.windowsEnd {s : State} (h : DeadlinesMatch s) : WindowsEnd s := ⟨h.windows, h.staged⟩

theorem WindowsEnd.of_store {s t : State} (h : WindowsEnd s) (htable : t.store.table = s.store.table)
    (hst : t.store.staging = s.store.staging) : WindowsEnd t := by
  unfold WindowsEnd State.entry
  rw [htable, hst]
  exact h

/-- Work that empties the list, and lets it serve no longer. -/
theorem emptied_listKept {s t : State} (hd : t.deadlines = []) (hserves : ¬ListServes t)
    (hw : WindowsEnd s → WindowsEnd t) : ListKept p s t := by
  refine ⟨fun _ => by rw [hd]; exact List.Pairwise.nil, fun _ h => ?_⟩
  obtain ⟨hwindows, hstaged⟩ := hw h.windowsEnd
  exact deadlinesMatch_of_empty hd (fun hs => absurd hs hserves) hwindows hstaged

/-- Work of a start-up phase before REBUILD, where the list is empty (11 R172). -/
theorem startUp_listKept {s t : State} (hd : t.deadlines = s.deadlines)
    (hearly : p → s.control.phase ≠ .none ∧ s.control.phase ≠ .finish) (hserves : p → ¬ListServes t)
    (hw : WindowsEnd s → WindowsEnd t) : ListKept p s t := by
  refine ⟨fun ho => by rw [hd]; exact ho, fun hp h => ?_⟩
  obtain ⟨hnone, hfinish⟩ := hearly hp
  exact (emptied_listKept (p := p) (hd.trans (h.early hnone hfinish)) (hserves hp) hw).agrees hp h

/-- In STARTING the list serves only in the last phase. -/
theorem not_listServes {t : State} (hs : t.control.service = .starting) (hp : t.control.phase ≠ .finish) :
    ¬ListServes t := by
  simp [ListServes, hs, hp]

/-! ## The Link Port -/

theorem judgeHeader_listKept (dst src : Addr) (s : State) : ListKept p s (judgeHeader dst src s) := by
  unfold judgeHeader
  split
  · exact .refl s
  · split
    · exact .of_view rfl
    · split
      · exact .of_view rfl
      · rw [occupancyRose_frame]; exact .of_view rfl

theorem endFrame_listKept (h : Header) (rest : List Byte) (s : State) : ListKept p s (endFrame h rest s) := by
  unfold endFrame
  dsimp only
  split
  · exact .of_view rfl
  · rw [occupancyFell_frame]; exact .of_view rfl

/-- The EXPIRE frame of a record is taken, and the record freed (06 R105). -/
theorem sendExpireFor_listKept (g : Nat) (s : State) : ListKept p s (sendExpireFor g s) := by
  unfold sendExpireFor
  split
  · refine ListKept.trans ?_ (freeGrant_listKept ..)
    exact .of_view rfl
  · exact .refl s

/-! ## Time -/

theorem raiseLevel_listKept (n : Nat) (s : State) : ListKept p s (raiseLevel n s) := by
  rw [raiseLevel_frame]; exact .of_view rfl

/-- With the time lost the list empties and serves no longer (03 R39, 07 R120). -/
theorem timeGone_listKept (s : State) : ListKept p s (timeGone s) := by
  rw [timeGone_frame]
  refine emptied_listKept rfl ?_ fun h => h.of_store rfl rfl
  exact fun h => nomatch h.1

theorem loseTime_listKept (s : State) : ListKept p s (loseTime s) :=
  (timeGone_listKept s).trans (raiseLevel_listKept ..)

theorem reachDriftLimit_listKept (s : State) : ListKept p s (reachDriftLimit s) := by
  have hclear : ListKept p s (clearLevel Src.clockDrift { s with clock := { s.clock with driftRun := 0 } }) :=
    .of_view rfl
  unfold reachDriftLimit
  dsimp only
  split
  · exact hclear.trans (loseTime_listKept _)
  · exact hclear

theorem measure_listKept (deviation : Nat) (s : State) : ListKept p s (measure deviation s) := by
  rcases measure_cases deviation s with ⟨-, -, he⟩ | ⟨-, -, he⟩ | ⟨-, -, he⟩ <;> rw [he]
  · exact .of_view rfl
  · refine ListKept.trans ?_ (raiseLevel_listKept ..)
    exact .of_view rfl
  · refine ListKept.trans ?_ (reachDriftLimit_listKept _)
    exact .of_view rfl

theorem timeOutOpens_listKept (s : State) : ListKept p s (timeOutOpens s) := by
  rw [timeOutOpens_frame]; exact .of_view rfl

theorem examineTestInterval_listKept (s : State) : ListKept p s (examineTestInterval s) := by
  rw [examineTestInterval_eq]; exact .of_view rfl

theorem tickBooth_listKept (s : State) : ListKept p s (tickBooth s) := by
  have hadvanced : ListKept p s (advanceBooth s) := by rw [advanceBooth_eq]; exact .of_view rfl
  unfold tickBooth
  split
  · dsimp only
    split
    · exact hadvanced.trans (runDeadlines_listKept ..)
    · exact hadvanced
  · exact .refl s

theorem countTrimYear_listKept (s : State) : ListKept p s (countTrimYear s) := by
  unfold countTrimYear
  split <;> exact .of_view rfl

/-! ## The engine -/

theorem selectOpen_listKept (i : Nat) (w : OpenReq) (s : State) : ListKept p s (selectOpen i w s).1 := by
  have hremoved : ListKept p s (removeWaiting i s) := .of_view rfl
  unfold selectOpen
  split
  · exact .of_view rfl
  · split
    · rename_i hg
      exact hremoved.trans (startRewrap_listKept w _ hg)
    · exact .refl s

theorem startVerify_listKept (s : State) : ListKept p s (startVerify s) := by
  refine .of_staging rfl fun h q hq => ?_
  simp only [startVerify, setPassOver] at hq
  split at hq
  · rename_i head rest hst
    rw [hst] at h
    rcases List.mem_cons.mp hq with rfl | hq
    · exact h head List.mem_cons_self
    · exact h q (List.mem_cons_of_mem _ hq)
  · exact nomatch hq

theorem arbitrate_listKept (fuel : Nat) (s : State) : ListKept p s (arbitrate fuel s) := by
  induction fuel generalizing s with
  | zero => exact .refl s
  | succ fuel ih =>
    unfold arbitrate
    split
    · exact .refl s
    · exact .of_view rfl
    · exact startVerify_listKept s
    · rename_i i w _
      have hcounted : ListKept p s (countPassOver s) := by rw [countPassOver_eq]; exact .of_view rfl
      have hselected := hcounted.trans (selectOpen_listKept i w _)
      dsimp only
      split
      · exact hselected
      · exact hselected.trans (ih _)

/-- A staged parcel that is refused keeps its place until it is answered (05 R84). -/
theorem refuseStaging_listKept (c : Code) (s : State) : ListKept p s (refuseStaging c s) := by
  refine .of_staging rfl fun h q hq => ?_
  obtain ⟨r, hr, rfl⟩ := List.mem_map.mp hq
  split
  · exact h r hr
  · exact h r hr

theorem enterFault_listKept (s : State) : ListKept p s (enterFault s) := by
  have hrefused : ListKept p s (refuseStaging .engineFault
      (refuseWaiting (fun _ => true) .engineFault { s with engine := { s.engine with faulted := true } })) := by
    refine ListKept.trans ?_ (refuseStaging_listKept ..)
    exact .of_view rfl
  refine ListKept.trans ?_ (raiseLevel_listKept ..)
  exact hrefused.trans (.of_view rfl)

theorem enterFault_control (s : State) : (enterFault s).control = s.control := by
  unfold enterFault; rw [raiseLevel_frame]; rfl

/-- The start-up KAT ends ENGINE_TEST, before REBUILD (11 R172). -/
theorem completeKat_listKept (pass : Bool) (s : State) : ListKept (GrantsCounted s) s (completeKat pass s) := by
  have hend : ListKept (GrantsCounted s) s (endKat s) := .of_view rfl
  have hfault : ListKept (GrantsCounted s) s (enterFault (endKat s)) := hend.trans (enterFault_listKept _)
  have hdone : ListKept (GrantsCounted s) s (if pass then endKat s else enterFault (endKat s)) := by
    split
    · exact hend
    · exact hfault
  unfold completeKat
  split
  · rename_i cause hjob
    dsimp only
    split
    · exact hdone
    · cases pass
      · exact hfault.trans (.of_view rfl)
      · exact hend.trans (.of_view rfl)
    · have hcontrol : (if pass then endKat s else enterFault (endKat s)).control = s.control := by
        split
        · rfl
        · exact enterFault_control _
      refine hdone.trans ?_
      generalize (if pass then endKat s else enterFault (endKat s)) = t at hcontrol
      have hphase : GrantsCounted s → t.control.phase = .engineTest := fun c => by rw [hcontrol]; exact c.startUpKat hjob
      refine startUp_listKept rfl (fun c => ?_) (fun c => not_listServes ?_ nofun) id
      · rw [hphase c]; exact ⟨nofun, nofun⟩
      · refine (congrArg Control.service hcontrol).trans (c.phase ?_)
        rw [c.startUpKat hjob]
        exact nofun
  · exact .refl s

theorem completeVerify_listKept (s : State) : ListKept p s (completeVerify s) := by
  unfold completeVerify
  split
  · exact .of_view rfl
  · exact .refl s

theorem completeRewrap_listKept (s : State) : ListKept p s (completeRewrap s) := by
  unfold completeRewrap
  split
  · exact .of_view rfl
  · exact .refl s

/-! ## Postings -/

/-- A REWRAP result commits its OPENING record, or frees it, or finds it gone (05 R82, R83). -/
theorem postRewrap_listKept (s : State) : ListKept (s.control.phase = .none) s (postRewrap s) := by
  unfold postRewrap
  split
  · have hdone : ListKept (s.control.phase = .none) s { s with engine := { s.engine with held := none } } := .of_view rfl
    dsimp only
    split
    · rename_i r hg
      split
      · rename_i who hopening
        split
        · split
          · exact (hdone.trans (freeGrant_listKept ..)).replyLater
          · refine (hdone.trans ?_).replyLater
            exact commitGrant_listKept (s := { s with engine := { s.engine with held := none } }) hg hopening
        · exact hdone
      · exact hdone
    · exact hdone
  · exact .refl s

theorem postSelfTest_listKept (s : State) : ListKept p s (postSelfTest s) := by
  unfold postSelfTest
  split <;> exact .of_view rfl

theorem answerOpenDue_listKept (s : State) : ListKept p s (answerOpenDue s) := by
  unfold answerOpenDue
  split <;> exact .of_view rfl

theorem answerStaging_listKept (s : State) : ListKept p s (answerStaging s) := by
  unfold answerStaging
  split
  · exact .refl s
  · rename_i i q c _
    have htaken : ListKept p s { s with store := { s.store with staging := s.store.staging.eraseIdx i } } :=
      .of_staging rfl fun h x hx => h x (List.mem_of_mem_eraseIdx hx)
    refine ListKept.replyLater (htaken.trans ?_)
    split <;> exact .of_view rfl

theorem makeRoom_listKept (s : State) : ListKept p s (makeRoom s) := by
  unfold makeRoom reclaim
  split
  · split
    · exact freeEntry_listKept ..
    · exact .refl s
  · exact .refl s

theorem makeRoom_only (s : State) : OnlyParcels s (makeRoom s) := by
  unfold makeRoom reclaim
  split
  · split
    · exact freeEntry_only ..
    · rfl
  · rfl

theorem storeParcel_listKept {q : StagingPlace} (ks : List Key) {s : State} (hq : q ∈ s.store.staging) :
    ListKept (s.control.phase = .none) s (storeParcel q.parcel ks s).1 := by
  have hview := (makeRoom_only s).deadlineWork.guardView
  simp only [guardView, Prod.mk.injEq] at hview
  obtain ⟨-, hcontrol, hstaging⟩ := hview
  refine (makeRoom_listKept s).trans ?_
  unfold storeParcel
  generalize makeRoom s = t at hcontrol hstaging
  dsimp only
  split
  · exact .of_view rfl
  · rename_i i hi
    split
    · exact .of_view rfl
    · rw [commitParcel_eq, ← hcontrol]
      have hw : DeadlinesMatch t → q.parcel.winStart < q.parcel.winEnd := fun h => h.staged q (hstaging ▸ hq)
      exact (committed_listKept ks hi hw).trans (.of_view rfl)

theorem settleVerify_listKept {q : StagingPlace} (o : Option (List Key)) {s : State} (hq : q ∈ s.store.staging) :
    ListKept (s.control.phase = .none) s (settleVerify q o s).1 := by
  unfold settleVerify
  split
  · exact .of_view rfl
  · split
    · exact .refl s
    · split
      · exact .refl s
      · split
        · exact .refl s
        · exact storeParcel_listKept _ hq

theorem vacateHead_listKept (s : State) : ListKept p s (vacateHead s) :=
  .of_staging rfl fun h q hq => h q (List.mem_of_mem_drop hq)

theorem postVerify_listKept (s : State) : ListKept (s.control.phase = .none) s (postVerify s) := by
  unfold postVerify
  split
  · rename_i o q rest _ hst
    have htaken : ListKept (s.control.phase = .none) s (withoutResult s) := .of_view rfl
    have hq : q ∈ (withoutResult s).store.staging := by
      refine (?_ : q ∈ s.store.staging)
      rw [hst]
      exact List.mem_cons_self
    exact ((htaken.trans (settleVerify_listKept o hq)).trans (vacateHead_listKept _)).replyLater
  · exact .refl s

/-! ## Power and start-up -/

/-- A part that halts keeps the windows of its entries, and stages nothing. -/
theorem windowsEnd_of_unstaged {s t : State} (h : WindowsEnd s) (htable : t.store.table = s.store.table)
    (hst : t.store.staging = []) : WindowsEnd t := by
  refine ⟨fun i e he => h.1 i e ?_, fun q hq => ?_⟩
  · unfold State.entry at *; rwa [htable] at he
  · rw [hst] at hq; exact nomatch hq

theorem haltPart_listKept (s : State) : ListKept p s (haltPart s) :=
  emptied_listKept rfl (not_listServes rfl nofun) fun h => windowsEnd_of_unstaged h rfl rfl

theorem beginStartUp_listKept (cause : StartCause) (s : State) : ListKept p s (beginStartUp cause s) :=
  emptied_listKept rfl (not_listServes rfl nofun) fun h => windowsEnd_of_unstaged h rfl rfl

theorem readFuses_frame (s : State) : (readFuses s).deadlines = s.deadlines ∧ (readFuses s).store = s.store ∧
    (readFuses s).control.service = s.control.service := by
  unfold readFuses
  dsimp only
  split <;> split
  · exact ⟨rfl, rfl, rfl⟩
  · exact ⟨rfl, rfl, rfl⟩
  · rw [raiseLevel_frame]; exact ⟨rfl, rfl, rfl⟩
  · rw [raiseLevel_frame]; exact ⟨rfl, rfl, rfl⟩

/-- A sound store keeps list and windows, and its entries are corrected (02 R31). -/
theorem correctStore_listKept (s : State) : ListKept p s (correctStore s) := by
  have hcorrected : ListKept p s ((listUsed s.store.table).foldl correctEntry s) :=
    foldl_listUsed_chain (R := ListKept p) correctEntry_entry_ne .refl .trans (fun t q he => by
      refine ListKept.trans ?_ (freeAtZero_listKept ..)
      exact rewriteEntry_listKept he rfl rfl rfl id) s
  exact hcorrected.trans (.of_view rfl)

theorem correctStore_control (s : State) : (correctStore s).control = s.control :=
  foldl_chain (R := fun s t => t.control = s.control) (f := correctEntry) (fun _ => rfl) (fun h k => k.trans h)
    (fun _ _ => (freeAtZero_only ..).deadlineWork.control) (listUsed s.store.table) s

/-- A lost store holds no entry, and its time is lost (11 R171). -/
theorem loseStore_listKept {s : State} (hp : s.control.phase = .retainedCheck) :
    ListKept p s (setPhase .engineTest (loseStore s)) := by
  have hearly : p → s.control.phase ≠ .none ∧ s.control.phase ≠ .finish := fun _ => by
    rw [hp]; exact ⟨nofun, nofun⟩
  unfold loseStore
  rw [raiseLevel_frame]
  refine startUp_listKept rfl hearly (fun _ h => nomatch h.1) fun h => ⟨fun i e he => ?_, h.2⟩
  have hnone : slotGet (s.store.table.map fun _ => (none : Option ParcelEntry)) i = none := slotGet_map_none ..
  exact nomatch hnone.symm.trans he

theorem endNotices_listKept (s : State) : ListKept p s (endNotices s) := by
  refine .of_view ?_
  simp only [listView, endNotices, evaluateLevel, State.modSource_grants, State.modSource_deadlines,
    State.modSource_store, State.modSource_clock, State.modSource_control]

/-- STARTING ends where the list has served since REBUILD, and the deadlines that are due are taken (07 R115). -/
theorem endStartUp_listKept {s : State} (hp : s.control.phase = .finish) : ListKept p s (endStartUp s) := by
  have hdue : ∀ t, ListKept p s t → ListKept p s (if rebuildRuns t then runDeadlines t.now t else t) := by
    intro t ht
    split
    · exact ht.trans (runDeadlines_listKept ..)
    · exact ht
  refine hdue _ (ListKept.trans ?_ (endNotices_listKept _))
  refine .of_tables rfl rfl rfl (fun h => ?_) (fun hne => absurd rfl hne) id
  obtain ⟨htime, hserves⟩ := h
  refine ⟨htime, .inr ⟨hp, ?_⟩⟩
  cases hseal : s.control.sealing with
  | false => rfl
  | true => simp [hseal] at hserves

end Sys2Proof.Machine
end

section
/-! PROOFS. Every command and every step, and the bound of 176: O8. -/

namespace Sys2Proof.Machine

/-! ## Every command -/

section
variable {p : Prop}

/-- A command whose condition does not hold changes nothing (log 5). -/
theorem ListKept.ite {s t : State} {c : Prop} [Decidable c] (h : c → ListKept p s t) :
    ListKept p s (if c then t else s) := by
  split
  · rename_i hc
    exact h hc
  · exact .refl s

/-- A posting, which is made only where a frame could be taken. -/
theorem posted_listKept {s t : State} (h : ListKept (s.control.phase = .none) s t) :
    ListKept (GrantsCounted s) s (if canTake s then t else s) :=
  .ite fun htake => h.mono fun c => c.phase_of_canTake htake

theorem execFrameEnd_listKept (rest : List Byte) (s : State) : ∃ t, execFrameEnd rest s = .next t ∧ ListKept p s t := by
  refine ⟨_, rfl, ?_⟩
  split
  · exact .ite fun _ => endFrame_listKept ..
  · exact .refl s

theorem execHoldRepeatTimer_listKept (s : State) : ∃ t, execHoldRepeatTimer s = .next t ∧ ListKept p s t := by
  refine ⟨_, rfl, .ite fun _ => ?_⟩
  split <;> exact .of_view rfl

/-- FRAME_TAKE frees a slot of the receive store, and then is the row of the frame it took (09 R152). -/
theorem execFrameTake_listKept (s : State) : ∃ t, execFrameTake s = .next t ∧ ListKept (GrantsCounted s) s t := by
  refine ⟨_, rfl, ?_⟩
  split
  · rename_i f rest _
    have howner : OwnerKeepsList (ownerOfFrame f) := by
      unfold ownerOfFrame
      split
      · exact ownerOf_listKept _
      · exact ownUnknownKind_listKept
    refine .ite fun htake => ListKept.trans ?_ ((settle_listKept howner f _).mono fun c => ?_)
    · rw [occupancyFell_frame]; exact .of_view rfl
    · rw [occupancyFell_frame]; exact c.phase_of_canTake htake
  · exact .refl s

theorem execUnknownKind_listKept (src : Addr) (tag kind : Byte) (body : List Byte) (s : State) :
    ∃ t, execUnknownKind src tag kind body s = .next t ∧ ListKept (GrantsCounted s) s t := by
  refine ⟨_, rfl, .ite fun h => (settle_listKept ownUnknownKind_listKept _ s).mono fun c => ?_⟩
  simp only [Bool.and_eq_true] at h
  exact c.phase_of_canTake h.1

theorem execSendHold_listKept (s : State) : ∃ t, execSendHold s = .next t ∧ ListKept p s t := by
  refine ⟨_, rfl, ?_⟩
  split
  · exact .ite fun _ => .of_view rfl
  · exact .refl s

theorem execSendExpire_listKept (s : State) : ∃ t, execSendExpire s = .next t ∧ ListKept p s t := by
  refine ⟨_, rfl, ?_⟩
  split
  · exact .ite fun _ => sendExpireFor_listKept ..
  · exact .refl s

theorem execSendAnswer_listKept (s : State) : ∃ t, execSendAnswer s = .next t ∧ ListKept p s t := by
  refine ⟨_, rfl, ?_⟩
  split
  · exact .ite fun _ => .of_view rfl
  · exact .refl s

theorem execSendNotice_listKept (s : State) : ∃ t, execSendNotice s = .next t ∧ ListKept p s t := by
  refine ⟨_, rfl, ?_⟩
  split
  · exact .ite fun _ => .of_view rfl
  · exact .refl s

theorem execTransmitFrameEnd_listKept (s : State) : ∃ t, execTransmitFrameEnd s = .next t ∧ ListKept p s t := by
  refine ⟨_, rfl, ?_⟩
  split
  · have hsent : ListKept p s { s with link := { s.link with sending := none } } := .of_view rfl
    refine .ite fun _ => ?_
    unfold finishSending
    dsimp only
    split
    · exact hsent.trans (beginStartUp_listKept ..)
    · exact hsent
  · exact .refl s

theorem execCrystalSecond_listKept (s : State) : ∃ t, execCrystalSecond s = .next t ∧ ListKept p s t := by
  have hnoted : ListKept p s (noteTick s) := .of_view rfl
  refine ⟨_, rfl, ?_⟩
  split
  · exact (hnoted.trans (countTrimYear_listKept _)).trans (tickBooth_listKept _)
  · exact hnoted

theorem execMainClockSecond_listKept (deviation : Nat) (s : State) :
    ∃ t, execMainClockSecond deviation s = .next t ∧ ListKept p s t := by
  have hcounted : ListKept p s (countUptime s) := .of_view rfl
  exact ⟨_, rfl, .ite fun _ => ((hcounted.trans (timeOutOpens_listKept _)).trans
    (examineTestInterval_listKept _)).trans (measure_listKept ..)⟩

theorem execDriftRunLimit_listKept (s : State) : ∃ t, execDriftRunLimit s = .next t ∧ ListKept p s t := by
  have hopen : ListKept p s (openWindow s) := .of_view rfl
  exact ⟨_, rfl, .ite fun _ => hopen.trans (reachDriftLimit_listKept _)⟩

theorem execPowerOn_listKept (s : State) : ∃ t, execPowerOn s = .next t ∧ ListKept p s t := by
  have hon : ListKept p s { s with control := { s.control with power := true } } := .of_view rfl
  refine ⟨_, rfl, ?_⟩
  split
  · exact .refl s
  · dsimp only
    split
    · exact hon.trans (haltPart_listKept _)
    · exact hon.trans (beginStartUp_listKept ..)

theorem execPowerLoss_listKept (s : State) : ∃ t, execPowerLoss s = .next t ∧ ListKept p s t := by
  have hoff : ListKept p s { s with control := { s.control with power := false } } := .of_view rfl
  exact ⟨_, rfl, .ite fun _ => hoff.trans (haltPart_listKept _)⟩

theorem execResetLineAssert_listKept (s : State) : ∃ t, execResetLineAssert s = .next t ∧ ListKept p s t := by
  have hlow : ListKept p s { s with control := { s.control with resetLow := true } } := .of_view rfl
  refine ⟨_, rfl, ?_⟩
  split
  · exact .refl s
  · dsimp only
    split
    · exact hlow.trans (haltPart_listKept _)
    · exact hlow

theorem execResetLineRelease_listKept (s : State) : ∃ t, execResetLineRelease s = .next t ∧ ListKept p s t := by
  have hhigh : ListKept p s { s with control := { s.control with resetLow := false } } := .of_view rfl
  refine ⟨_, rfl, .ite fun _ => ?_⟩
  dsimp only
  split
  · exact hhigh.trans (beginStartUp_listKept ..)
  · exact hhigh

theorem execRetainedLoss_listKept (s : State) : ∃ t, execRetainedLoss s = .next t ∧ ListKept p s t := by
  refine ⟨_, rfl, ?_⟩
  split
  · exact .refl s
  · exact .of_view rfl

/-! ### The phases of a start-up (11 R172) -/

/-- The work of a phase before CLOCK_CHECK: it leaves the list, the service state and the windows, and the next phase is
not the last. -/
theorem phase_listKept {s t : State} {q : StartPhase} (hp : s.control.phase ≠ .none) (hf : s.control.phase ≠ .finish)
    (hq : q ≠ .finish) (hd : t.deadlines = s.deadlines) (hservice : t.control.service = s.control.service)
    (hw : WindowsEnd s → WindowsEnd t) : ListKept (GrantsCounted s) s (setPhase q t) :=
  startUp_listKept hd (fun _ => ⟨hp, hf⟩) (fun c => not_listServes (hservice.trans (c.phase hp)) hq) fun h =>
    (hw h).of_store rfl rfl

theorem execStartUpBegin_listKept (s : State) : ∃ t, execStartUpBegin s = .next t ∧ ListKept p s t := by
  refine ⟨_, rfl, .ite fun _ => emptied_listKept rfl (not_listServes rfl nofun) fun h => ?_⟩
  exact windowsEnd_of_unstaged h rfl rfl

theorem execFuseLoad_listKept (s : State) : ∃ t, execFuseLoad s = .next t ∧ ListKept (GrantsCounted s) s t := by
  obtain ⟨hd, hstore, hservice⟩ := readFuses_frame s
  refine ⟨_, rfl, .ite fun hp => phase_listKept (by simp [hp]) (by simp [hp]) nofun hd hservice fun h => ?_⟩
  exact h.of_store (by rw [hstore]) (by rw [hstore])

theorem execRetainedCheck_listKept (damaged : Bool) (s : State) :
    ∃ t, execRetainedCheck damaged s = .next t ∧ ListKept (GrantsCounted s) s t := by
  refine ⟨_, rfl, .ite fun hp => ?_⟩
  split
  · have hcontrol := correctStore_control s
    refine (correctStore_listKept s).trans (startUp_listKept rfl (fun _ => ?_) (fun c => not_listServes ?_ nofun) id)
    · rw [hcontrol, hp]; exact ⟨nofun, nofun⟩
    · exact (congrArg Control.service hcontrol).trans (c.phase (by simp [hp]))
  · exact loseStore_listKept hp

/-- Where no REBUILD follows CLOCK_CHECK the list will not serve. -/
theorem execClockCheck_listKept (deviation : Nat) (s : State) :
    ∃ t, execClockCheck deviation s = .next t ∧ ListKept (GrantsCounted s) s t := by
  refine ⟨_, rfl, .ite fun hp => ?_⟩
  dsimp only
  rw [followLevel_frame]
  refine startUp_listKept rfl (fun _ => ⟨by simp [hp], by simp [hp]⟩) (fun c hserves => ?_) fun h => h.of_store rfl rfl
  have hstarting : s.control.service = .starting := c.phase (by simp [hp])
  obtain ⟨hrunning, hoperating | ⟨hfinish, hsealing⟩⟩ := hserves
  · exact nomatch hstarting.symm.trans hoperating
  · have htime : s.clock.timeState = .running := hrunning
    have hunsealed : s.control.sealing = false := hsealing
    simp [setPhase, rebuildRuns, htime, hunsealed] at hfinish

theorem execRebuild_listKept (s : State) : ∃ t, execRebuild s = .next t ∧ ListKept p s t := by
  refine ⟨_, rfl, .ite fun _ => ⟨fun _ => ?_, fun _ h => ?_⟩⟩
  · rw [setPhase_deadlines]; exact rebuildList_inOrder ..
  · exact rebuildList_matches (setPhase_store ..) (setPhase_deadlines ..) (.inr rfl) h.windows h.staged

theorem execStartUpEnd_listKept (s : State) : ∃ t, execStartUpEnd s = .next t ∧ ListKept p s t :=
  ⟨_, rfl, .ite fun hp => endStartUp_listKept hp⟩

/-! ### All of them -/

/-- Every command keeps the list in order, and, with the grants counted, in agreement. -/
theorem exec_listKept (c : Instr) (s : State) : ∃ t, exec c s = .next t ∧ ListKept (GrantsCounted s) s t := by
  cases c with
  | frameTake => exact execFrameTake_listKept s
  | unknownKind src tag kind body => exact execUnknownKind_listKept src tag kind body s
  | status src tag body => exact requestRow_listKept .status src tag body s
  | parcelLoad src tag body => exact requestRow_listKept .parcelLoad src tag body s
  | parcelWithdraw src tag body => exact requestRow_listKept .parcelWithdraw src tag body s
  | parcelList src tag body => exact requestRow_listKept .parcelList src tag body s
  | openKeys src tag body => exact requestRow_listKept .openKeys src tag body s
  | close src tag body => exact requestRow_listKept .close src tag body s
  | extend src tag body => exact requestRow_listKept .extend src tag body s
  | grantList src tag body => exact requestRow_listKept .grantList src tag body s
  | timeTrim src tag body => exact requestRow_listKept .timeTrim src tag body s
  | timeSet src tag body => exact requestRow_listKept .timeSet src tag body s
  | stationEnrol src tag body => exact requestRow_listKept .stationEnrol src tag body s
  | stationRetire src tag body => exact requestRow_listKept .stationRetire src tag body s
  | stationSuspend src tag body => exact requestRow_listKept .stationSuspend src tag body s
  | stationResume src tag body => exact requestRow_listKept .stationResume src tag body s
  | stationRank src tag body => exact requestRow_listKept .stationRank src tag body s
  | stationList src tag body => exact requestRow_listKept .stationList src tag body s
  | modeKey src tag body => exact requestRow_listKept .modeKey src tag body s
  | modeChange src tag body => exact requestRow_listKept .modeChange src tag body s
  | settingWrite src tag body => exact requestRow_listKept .settingWrite src tag body s
  | settingRead src tag body => exact requestRow_listKept .settingRead src tag body s
  | zeroize src tag body => exact requestRow_listKept .zeroize src tag body s
  | noticeRead src tag body => exact requestRow_listKept .noticeRead src tag body s
  | noticeConfig src tag body => exact requestRow_listKept .noticeConfig src tag body s
  | selfTest src tag body => exact requestRow_listKept .selfTest src tag body s
  | restart src tag body => exact requestRow_listKept .restart src tag body s
  | rebuild => exact execRebuild_listKept s
  | startUpEnd => exact execStartUpEnd_listKept s
  | frameHeader dst src => exact ⟨_, rfl, .ite fun _ => judgeHeader_listKept dst src s⟩
  | frameEnd rest => exact execFrameEnd_listKept rest s
  | holdRepeatTimer => exact execHoldRepeatTimer_listKept s
  | crystalSecond => exact execCrystalSecond_listKept s
  | trimYearWrap => exact ⟨_, rfl, .ite fun _ => .of_view rfl⟩
  | mainClockSecond deviation => exact execMainClockSecond_listKept deviation s
  | driftRunLimit => exact execDriftRunLimit_listKept s
  | openWaitTimeout => exact ⟨_, rfl, .ite fun _ => timeOutOpens_listKept s⟩
  | periodicTestDue => exact ⟨_, rfl, .ite fun _ => examineTestInterval_listKept s⟩
  | engineArbiterChoice => exact ⟨_, rfl, arbitrate_listKept _ s⟩
  | katComplete pass => exact ⟨_, rfl, completeKat_listKept pass s⟩
  | verifyComplete done => exact ⟨_, rfl, completeVerify_listKept s⟩
  | rewrapComplete => exact ⟨_, rfl, completeRewrap_listKept s⟩
  | verifyPosting => exact ⟨_, rfl, posted_listKept (postVerify_listKept s)⟩
  | rewrapPosting => exact ⟨_, rfl, posted_listKept (postRewrap_listKept s)⟩
  | selfTestPosting => exact ⟨_, rfl, .ite fun _ => postSelfTest_listKept s⟩
  | openAnswerDue => exact ⟨_, rfl, .ite fun _ => answerOpenDue_listKept s⟩
  | stagingAnswerDue => exact ⟨_, rfl, .ite fun _ => answerStaging_listKept s⟩
  | sendHold => exact execSendHold_listKept s
  | sendExpire => exact execSendExpire_listKept s
  | sendAnswer => exact execSendAnswer_listKept s
  | sendNotice => exact execSendNotice_listKept s
  | linkDown => exact ⟨_, rfl, .of_view rfl⟩
  | linkUp => exact ⟨_, rfl, .of_view rfl⟩
  | powerOn => exact execPowerOn_listKept s
  | powerLoss => exact execPowerLoss_listKept s
  | resetLineAssert => exact execResetLineAssert_listKept s
  | resetLineRelease => exact execResetLineRelease_listKept s
  | startUpBegin => exact execStartUpBegin_listKept s
  | fuseLoad => exact execFuseLoad_listKept s
  | retainedCheck damaged => exact execRetainedCheck_listKept damaged s
  | clockCheck deviation => exact execClockCheck_listKept deviation s
  | transmitFrameEnd => exact execTransmitFrameEnd_listKept s
  | retainedLoss => exact execRetainedLoss_listKept s

/-- A step takes the front command from the queue and runs it; with none waiting it changes nothing. -/
theorem step_listKept {s t : State} (h : step s = .next t) : ListKept (GrantsCounted s) s t := by
  unfold step at h
  split at h
  · cases h; exact .refl s
  · rename_i c rest _
    obtain ⟨u, hu, hkept⟩ := exec_listKept c { s with pending := rest }
    rw [hu] at h
    cases h
    have htaken : Unmoved s { s with pending := rest } := .of_view rfl
    have hlist : ListKept (GrantsCounted s) s { s with pending := rest } := .of_view rfl
    exact hlist.trans (hkept.mono htaken.orderly.counts)

end

/-! ## At most 176 entries -/

/-- An entry has a place for its WINDOW_START or PURGE and one for its WINDOW_END, and a record one for its SPAN_END. -/
def kindPlace : DeadlineKind → Nat
  | .windowStart | .purge => 0
  | .windowEnd => 1
  | .spanEnd => 2

theorem kindPlace_eq {a b : DeadlineKind} (h : kindPlace a = kindPlace b) :
    a = b ∨ (a = .windowStart ∧ b = .purge) ∨ (a = .purge ∧ b = .windowStart) := by
  cases a <;> cases b <;> revert h <;> decide

/-- The place of a deadline among 64 + 64 + 48 (07 R112). -/
def deadlinePlace (d : Deadline) : Nat := 64 * kindPlace d.kind + d.ref

/-- A deadline of an entry refers to one of the 64. -/
theorem DeadlinesMatch.entry_ref_lt {s : State} (h : DeadlinesMatch s) (c : Capacities s) {d : Deadline}
    (hd : d ∈ s.deadlines) (hk : d.kind ≠ .spanEnd) : d.ref < 64 := by
  have hused : ∃ e, s.entry d.ref = some e := by
    cases hkind : d.kind with
    | windowStart => exact (h.starts d hd hkind).imp fun _ he => he.1
    | windowEnd => exact (h.ends d hd hkind).imp fun _ he => he.1
    | purge => exact (h.purges d hd hkind).imp fun _ he => he.1
    | spanEnd => exact absurd hkind hk
  obtain ⟨e, he⟩ := hused
  exact c.parcels ▸ State.entry_lt he

/-- A SPAN_END refers to one of the 48 records. -/
theorem DeadlinesMatch.span_ref_lt {s : State} (h : DeadlinesMatch s) (c : Capacities s) {d : Deadline}
    (hd : d ∈ s.deadlines) (hk : d.kind = .spanEnd) : d.ref < 48 := by
  obtain ⟨r, hr, -⟩ := h.spans d hd hk
  exact c.grants ▸ State.grant_lt hr

theorem DeadlinesMatch.ref_lt {s : State} (h : DeadlinesMatch s) (c : Capacities s) {d : Deadline}
    (hd : d ∈ s.deadlines) : d.ref < 64 := by
  by_cases hk : d.kind = .spanEnd
  · have hspan := h.span_ref_lt c hd hk
    omega
  · exact h.entry_ref_lt c hd hk

/-- No entry has a WINDOW_START and a PURGE: it is LATENT or LAPSED. -/
theorem DeadlinesMatch.start_ne_purge {s : State} (h : DeadlinesMatch s) {d q : Deadline} (hd : d ∈ s.deadlines)
    (hq : q ∈ s.deadlines) (hdk : d.kind = .windowStart) (hqk : q.kind = .purge) : d.ref ≠ q.ref := by
  intro hr
  obtain ⟨e, he, hl, -⟩ := h.starts d hd hdk
  obtain ⟨f, hf, hlapsed⟩ := h.purges q hq hqk
  rw [← hr, he] at hf
  obtain rfl := Option.some.inj hf
  exact nomatch hl.symm.trans hlapsed

/-- Different deadlines have different places. -/
theorem DeadlinesMatch.place_inj {s : State} (h : DeadlinesMatch s) (c : Capacities s) {d q : Deadline}
    (hd : d ∈ s.deadlines) (hq : q ∈ s.deadlines) (hplace : deadlinePlace d = deadlinePlace q) : d = q := by
  have hdlt := h.ref_lt c hd
  have hqlt := h.ref_lt c hq
  unfold deadlinePlace at hplace
  have href : d.ref = q.ref := by omega
  rcases kindPlace_eq (by omega : kindPlace d.kind = kindPlace q.kind) with hk | ⟨hdk, hqk⟩ | ⟨hdk, hqk⟩
  · exact List.inj_on_of_nodup_map h.once hd hq (Prod.ext hk href)
  · exact absurd href (h.start_ne_purge hd hq hdk hqk)
  · exact absurd href.symm (h.start_ne_purge hq hd hqk hdk)

theorem DeadlinesMatch.place_lt {s : State} (h : DeadlinesMatch s) (c : Capacities s) {d : Deadline}
    (hd : d ∈ s.deadlines) : deadlinePlace d < 176 := by
  have hlt := h.ref_lt c hd
  unfold deadlinePlace
  cases hk : d.kind with
  | windowStart | purge | windowEnd => simp only [kindPlace]; omega
  | spanEnd =>
    have hspan := h.span_ref_lt c hd hk
    simp only [kindPlace]
    omega

theorem DeadlinesMatch.length_le {s : State} (h : DeadlinesMatch s) (c : Capacities s) : s.deadlines.length ≤ 176 := by
  have hnodup : (s.deadlines.map deadlinePlace).Nodup :=
    List.Nodup.map_on (fun _ hd _ hq => h.place_inj c hd hq) (List.Nodup.of_map _ h.once)
  have hsub : s.deadlines.map deadlinePlace ⊆ List.range 176 := fun x hx => by
    obtain ⟨d, hd, rfl⟩ := List.mem_map.mp hx
    exact List.mem_range.mpr (h.place_lt c hd)
  simpa using (List.subperm_of_subset hnodup hsub).length_le

/-- Settles O8: every command keeps order and agreement, and agreement leaves room for 176 deadlines. -/
theorem deadlinesKeptInOrder : Obligations.DeadlinesKeptInOrder :=
  ⟨fun _ _ h hs => (step_listKept hs).order h, fun _ _ c h hs => (step_listKept hs).agrees c h,
    fun _ c h => h.length_le c⟩

end Sys2Proof.Machine
end

section
/-! PROOFS. The refusals of 08 Table 8.2 (O17): each request begins with the checks of the permission table. -/

namespace Sys2Proof.Machine

/-! ## The checks a request begins with (08 R133, R134) -/

theorem roleCheck_one (who : Sender) (r : Role) : roleCheck who [r] = (!(who.role == r), refuse .role) := by
  simp [roleCheck, beq_eq_decide]

theorem roleCheck_two (who : Sender) (r q : Role) :
    roleCheck who [r, q] = (!(who.role == r || who.role == q), refuse .role) := by
  simp [roleCheck, beq_eq_decide]

/-- The role check of NOTICE_READ refuses whom 08 Table 8.2 does not list (log 18). -/
theorem noticeRead_refuses (r : Role) (body : List Byte) :
    (r == .screen || (r == .monitor && wantsClear body)) = !permitted .noticeRead body r := by
  cases r with
  | screen | programming => rfl
  | monitor => exact (Bool.not_not _).symm

/-- The checks of the permission table, in the order in which a request of a kind makes them: STATUS makes none, OPEN
makes that of its role alone, GRANT_LIST is open to every role, RESTART is taken in SEALED too. -/
def permissionChecks (k : Kind) (who : Sender) (body : List Byte) (s : State) : List (Bool × Reply) :=
  let role : Bool × Reply := (!permitted k body who.role, refuse .role)
  match k with
  | .status => []
  | .openKeys => [sealedCheck s, role]
  | .grantList => [sealedCheck s, suspendedCheck who]
  | .restart => [role, suspendedCheck who]
  | .stationEnrol | .stationRetire | .settingWrite | .zeroize | .timeSet | .selfTest =>
    [sealedCheck s, role, suspendedCheck who, serviceOnly s]
  | _ => [sealedCheck s, role, suspendedCheck who]

/-- A request is checked, and begins with the checks of the permission table. -/
def BeginsPermitted (k : Kind) (owner : Owner) : Prop :=
  ∀ who f s, ∃ cs act, owner who f s = checked f (permissionChecks k who f.body s ++ cs) act s

/-- A request whose list of checks has those of the permission table at its front. -/
theorem beginsPermitted_of_front {k : Kind} {cs : Sender → Frame → State → List (Bool × Reply)}
    {act : Sender → Frame → State → State} (h : ∀ who f s, permissionChecks k who f.body s <+: cs who f s) :
    BeginsPermitted k fun who f s => checked f (cs who f s) (act who f) s := fun who f s => by
  obtain ⟨rest, hrest⟩ := h who f s
  exact ⟨rest, act who f, by rw [hrest]⟩

theorem ownerOf_beginsPermitted (k : Kind) : BeginsPermitted k (ownerOf k) := by
  cases k with
  | status => exact beginsPermitted_of_front fun _ _ _ => ⟨_, rfl⟩
  | grantList => exact beginsPermitted_of_front fun _ _ _ => by simp [permissionChecks, grantListChecks]
  | noticeRead =>
    exact beginsPermitted_of_front fun _ _ _ => by simp [permissionChecks, noticeReadChecks, noticeRead_refuses]
  | parcelList | stationList | settingRead =>
    exact beginsPermitted_of_front fun _ _ _ => by
      simp [permissionChecks, permitted, roleCheck_two, parcelListChecks, stationListChecks, settingReadChecks]
  | openKeys | close | extend =>
    exact beginsPermitted_of_front fun _ _ _ => by
      simp [permissionChecks, permitted, roleCheck_one, openChecks, closeChecks, extendChecks]
  | stationEnrol | stationRetire | settingWrite | zeroize | timeSet | selfTest =>
    exact beginsPermitted_of_front fun _ _ _ => by
      simp [permissionChecks, permitted, roleCheck_one, enrolChecks, retireChecks, settingWriteChecks, zeroizeChecks,
        setTimeChecks, selfTestChecks]
  | parcelLoad | parcelWithdraw | timeTrim | stationSuspend | stationResume | stationRank | modeKey | modeChange
  | noticeConfig | restart =>
    exact beginsPermitted_of_front fun _ _ _ => by
      simp [permissionChecks, permitted, roleCheck_one, loadChecks, withdrawChecks, trimChecks, suspendChecks,
        resumeChecks, rankChecks, modeKeyChecks, modeChangeChecks, noticeConfigChecks, restartChecks]

/-- The first check that fails answers. -/
theorem checked_refused {cs : List (Bool × Reply)} {r : Reply} (h : firstFailure cs = some r) (f : Frame)
    (act : State → State) (s : State) : checked f cs act s = reply f r s := by simp only [checked, h]

/-- The checks behind the first that fails do not count. -/
theorem firstFailure_append {cs : List (Bool × Reply)} {r : Reply} (h : firstFailure cs = some r)
    (rest : List (Bool × Reply)) : firstFailure (cs ++ rest) = some r := by
  obtain ⟨c, hc, rfl⟩ := Option.map_eq_some_iff.mp h
  simp only [firstFailure, List.find?_append, hc, Option.some_or, Option.map_some]

/-- A refusal by the permission table is answered, and nothing else changes. -/
theorem exec_permission_refused {s : State} {src : Addr} {who : Sender} (h : Served s src who) {k : Kind}
    {body : List Byte} {c : Code} (hc : firstFailure (permissionChecks k who body s) = some (refuse c)) (tag : Byte) :
    exec (requestRow k src tag body) s = .next (answered s src tag k c []) := by
  obtain ⟨cs, act, howner⟩ := ownerOf_beginsPermitted k who { src := src, kind := k.value, tag := tag, body := body } s
  rw [exec_served h, howner, checked_refused (firstFailure_append hc cs), reply_eq_answered]
  rfl

/-! ## The refusals -/

theorem permission_role {s : State} {src : Addr} {who : Sender} (h : Served s src who) {k : Kind} {body : List Byte}
    (hp : permitted k body who.role = false) :
    firstFailure (permissionChecks k who body s) = some (refuse .role) := by
  have hopen : (sealedCheck s).1 = false := sealedCheck_passed h
  cases k with
  | status | grantList => exact nomatch hp
  | _ => simp [permissionChecks, firstFailure, hopen, hp]

theorem permission_suspended {s : State} {src : Addr} {who : Sender} (h : Served s src who) {k : Kind}
    {body : List Byte} (hp : permitted k body who.role = true) (hs : who.isSuspended = true) (hstatus : k ≠ .status)
    (hopens : k ≠ .openKeys) : firstFailure (permissionChecks k who body s) = some (refuse .suspended) := by
  have hopen : (sealedCheck s).1 = false := sealedCheck_passed h
  cases k with
  | status => exact absurd rfl hstatus
  | openKeys => exact absurd rfl hopens
  | _ => simp [permissionChecks, firstFailure, hopen, hp, suspendedCheck, hs]

theorem permission_mode {s : State} {src : Addr} {who : Sender} (h : Served s src who) {k : Kind} {body : List Byte}
    (hp : permitted k body who.role = true) (hs : who.isSuspended = false) (hk : k ∈ serviceKinds)
    (hm : s.stations.mode = .showing) : firstFailure (permissionChecks k who body s) = some (refuse .mode) := by
  have hopen : (sealedCheck s).1 = false := sealedCheck_passed h
  have hlist : permissionChecks k who body s =
      [sealedCheck s, (!permitted k body who.role, refuse .role), suspendedCheck who, serviceOnly s] := by
    simp only [serviceKinds, List.mem_cons, List.not_mem_nil, or_false] at hk
    rcases hk with rfl | rfl | rfl | rfl | rfl | rfl <;> rfl
  simp [hlist, firstFailure, hopen, hp, suspendedCheck, hs, serviceOnly, hm]

/-- Settles O17: the first check of the permission table that fails answers. -/
theorem requestPermissions : Obligations.RequestPermissions := fun _ _ tag _ _ _ h =>
  ⟨fun hp => exec_permission_refused h (permission_role h hp) tag,
    fun hp hs hstatus hopens => exec_permission_refused h (permission_suspended h hp hs hstatus hopens) tag,
    fun hp hs hk hm => exec_permission_refused h (permission_mode h hp hs hk hm) tag⟩

end Sys2Proof.Machine
end

section
/-! PROOFS. Which commands leave the mode as it is (O14): the relation `ModeKept`. -/

namespace Sys2Proof.Machine

/-- The mode stands as it did (08 R141). -/
structure ModeKept (s t : State) : Prop where
  mode : t.stations.mode = s.stations.mode

theorem ModeKept.refl (s : State) : ModeKept s s := ⟨rfl⟩

theorem ModeKept.trans {s t u : State} (h : ModeKept s t) (k : ModeKept t u) : ModeKept s u := ⟨k.mode.trans h.mode⟩

theorem ModeKept.reply {s t : State} (h : ModeKept s t) {f : Frame} {r : Reply} : ModeKept s (reply f r t) := ⟨h.mode⟩

theorem ModeKept.replyLater {s t : State} (h : ModeKept s t) {who : Requester} {k : Kind} {r : Reply} :
    ModeKept s (replyLater who k r t) := ⟨h.mode⟩

/-- A command whose condition does not hold changes nothing (log 5). -/
theorem ModeKept.ite {s t : State} {c : Prop} [Decidable c] (h : ModeKept s t) : ModeKept s (if c then t else s) := by
  split
  · exact h
  · exact .refl s

theorem ModeKept.setPhase {s t : State} (h : ModeKept s t) {p : StartPhase} : ModeKept s (setPhase p t) := ⟨h.mode⟩

theorem Unmoved.modeKept {s t : State} (h : Unmoved s t) : ModeKept s t := ⟨h.mode⟩

theorem OnlyDeadlineWork.modeKept {s t : State} (h : OnlyDeadlineWork s t) : ModeKept s t :=
  ⟨congrArg StationTable.mode h.stations⟩

theorem OnlyParcels.modeKept {s t : State} (h : OnlyParcels s t) : ModeKept s t := h.deadlineWork.modeKept

theorem freeGrant_modeKept (g : Nat) (s : State) : ModeKept s (freeGrant g s) := by
  rw [freeGrant_only g s]
  exact ⟨rfl⟩

/-! ## Requests -/

/-- An owner leaves the mode as it is. -/
def OwnerKeepsMode (owner : Owner) : Prop := ∀ who f s, ModeKept s (owner who f s)

/-- A checked request whose act leaves the mode as it is. -/
theorem ownChecked_modeKept {cs : Sender → Frame → State → List (Bool × Reply)}
    {act : Sender → Frame → State → State} (h : ∀ who f s, ModeKept s (act who f s)) :
    OwnerKeepsMode fun who f s => checked f (cs who f s) (act who f) s :=
  fun who f s => by
    rcases checked_cases f (cs who f s) (act who f) s with ⟨r, -, he⟩ | he <;> dsimp only <;> rw [he]
    · exact ⟨rfl⟩
    · exact h who f s

theorem settle_modeKept {owner : Owner} (h : OwnerKeepsMode owner) (f : Frame) (s : State) :
    ModeKept s (settle owner f s) := by
  unfold settle
  split
  · exact ⟨rfl⟩
  · exact h _ f s

theorem withdrawStaged_modeKept (i : Nat) (p : StagingPlace) (f : Frame) (s : State) :
    ModeKept s (withdrawStaged i p f s) := by
  unfold withdrawStaged
  split
  · dsimp only
    split <;> exact ⟨rfl⟩
  · exact ⟨rfl⟩
  · exact .refl s

theorem withdrawCommitted_modeKept (i : Nat) (e : ParcelEntry) (force : Bool) (f : Frame) (s : State) :
    ModeKept s (withdrawCommitted i e force f s) := by
  rcases Nat.eq_zero_or_pos e.grantCount with h0 | hpos
  · rw [withdrawCommitted_unnamed force f h0]
    exact (freeEntry_only i s).modeKept.reply
  · rw [withdrawCommitted_named force f hpos]
    exact ((withdrawEntry_only i e s).deadlineWork.trans (forceExpiry_work ..)).modeKept.reply

theorem withdraw_modeKept (f : Frame) (s : State) : ModeKept s (withdraw f s) := by
  unfold withdraw
  dsimp only
  split
  · split
    · exact withdrawStaged_modeKept ..
    · exact .refl s
  · split
    · exact withdrawCommitted_modeKept ..
    · exact ⟨rfl⟩

theorem admitOpen_modeKept (slot : Nat) (e : Station) (f : Frame) (s : State) : ModeKept s (admitOpen slot e f s) := by
  unfold admitOpen
  dsimp only
  split
  · exact ⟨rfl⟩
  · split <;> exact ⟨rfl⟩

theorem closeGrant_modeKept (who : Sender) (f : Frame) (s : State) : ModeKept s (closeGrant who f s) := by
  unfold closeGrant
  dsimp only
  split
  · exact .refl s
  · exact (freeGrant_modeKept ..).reply

theorem extendGrant_modeKept (who : Sender) (f : Frame) (s : State) : ModeKept s (extendGrant who f s) := by
  unfold extendGrant
  dsimp only
  split
  · exact .refl s
  · split <;> exact ⟨rfl⟩

theorem applyTrim_modeKept (d : Int) (s : State) : ModeKept s (applyTrim d s) := by
  have hmoved : ∀ a, ModeKept s (handTrim a (moveBooth a s)) := fun a =>
    (moveBooth_unmoved a s).modeKept.trans (handTrim_work ..).modeKept
  unfold applyTrim
  dsimp only
  split
  · exact hmoved _
  · exact (hmoved _).trans (raisePulse_work ..).modeKept

theorem establishTime_modeKept (v : Nat) (s : State) : ModeKept s (establishTime v s) := by
  unfold establishTime
  exact ModeKept.trans ⟨by rfl⟩ (rebuildList_work ..).modeKept

theorem enrol_modeKept (f : Frame) (s : State) : ModeKept s (enrol f s) := by
  unfold enrol
  dsimp only
  split <;> exact ⟨rfl⟩

theorem stopScreen_modeKept (slot : Nat) (s : State) : ModeKept s (stopScreen slot s) :=
  (refuseWaiting_unmoved ..).modeKept.trans (forceExpiry_work ..).modeKept

theorem suspend_modeKept (f : Frame) (s : State) : ModeKept s (suspend f s) := by
  unfold suspend
  split
  · unfold suspendStation
    split
    · exact ⟨rfl⟩
    · dsimp only
      split
      · exact (ModeKept.trans ⟨by rfl⟩ (stopScreen_modeKept ..)).reply
      · exact ⟨rfl⟩
  · exact .refl s

theorem resume_modeKept (f : Frame) (s : State) : ModeKept s (resume f s) := by
  unfold resume
  split <;> exact ⟨rfl⟩

theorem giveRank_modeKept (f : Frame) (s : State) : ModeKept s (giveRank f s) := by
  unfold giveRank
  split <;> exact ⟨rfl⟩

/-- Every request but MODE_CHANGE leaves the mode as it is. -/
theorem ownerOf_modeKept {k : Kind} (hk : k ≠ .modeChange) : OwnerKeepsMode (ownerOf k) := by
  cases k with
  | modeChange => exact absurd rfl hk
  | parcelWithdraw => exact ownChecked_modeKept fun _ => withdraw_modeKept
  | openKeys =>
    refine ownChecked_modeKept fun who f s => ?_
    split
    · exact admitOpen_modeKept ..
    · exact .refl s
  | close => exact ownChecked_modeKept closeGrant_modeKept
  | extend => exact ownChecked_modeKept extendGrant_modeKept
  | timeTrim => exact ownChecked_modeKept fun _ _ s => (applyTrim_modeKept _ s).reply
  | timeSet => exact ownChecked_modeKept fun _ _ s => (establishTime_modeKept _ s).reply
  | stationEnrol => exact ownChecked_modeKept fun _ => enrol_modeKept
  | stationSuspend => exact ownChecked_modeKept fun _ => suspend_modeKept
  | stationResume => exact ownChecked_modeKept fun _ => resume_modeKept
  | stationRank => exact ownChecked_modeKept fun _ => giveRank_modeKept
  | noticeRead => exact ownChecked_modeKept fun _ f s => (readNotices_unmoved f s).modeKept
  | status | parcelLoad | parcelList | grantList | stationRetire | stationList | modeKey | settingWrite | settingRead
  | zeroize | noticeConfig | selfTest | restart => exact ownChecked_modeKept fun _ _ _ => ⟨rfl⟩

theorem requestRow_modeKept {k : Kind} (hk : k ≠ .modeChange) (src : Addr) (tag : Byte) (body : List Byte)
    (s : State) : ∃ t, exec (requestRow k src tag body) s = .next t ∧ ModeKept s t :=
  ⟨_, exec_requestRow k src tag body s, .ite (settle_modeKept (ownerOf_modeKept hk) _ s)⟩

theorem ownUnknownKind_modeKept : OwnerKeepsMode ownUnknownKind := fun _ _ _ => ⟨rfl⟩

/-- The take of a frame that is no MODE_CHANGE (09 R152). -/
theorem takeFrame_modeKept {f : Frame} (hf : kindOf f.kind ≠ some .modeChange) (s : State) :
    ModeKept s (takeFrame f s) := by
  have howner : OwnerKeepsMode (ownerOfFrame f) := by
    unfold ownerOfFrame
    split
    · rename_i k hk
      exact ownerOf_modeKept fun h => hf (h ▸ hk)
    · exact ownUnknownKind_modeKept
  refine ModeKept.trans ?_ (settle_modeKept howner f _)
  exact ModeKept.trans ⟨by rfl⟩ (occupancyFell_unmoved _).modeKept

end Sys2Proof.Machine
end

section
/-! PROOFS. Every command but MODE_CHANGE and RETAINED_CHECK leaves the mode as it is: O14. -/

namespace Sys2Proof.Machine

/-! ## Time and the engine -/

theorem tickBooth_modeKept (s : State) : ModeKept s (tickBooth s) := by
  have hadvanced : ModeKept s (advanceBooth s) := (advanceBooth_unmoved s).modeKept
  unfold tickBooth
  dsimp only
  split
  · split
    · exact hadvanced.trans (runDeadlines_work ..).modeKept
    · exact hadvanced
  · exact .refl s

theorem selectOpen_modeKept (i : Nat) (w : OpenReq) (s : State) : ModeKept s (selectOpen i w s).1 := by
  unfold selectOpen
  split
  · exact ⟨rfl⟩
  · split
    · exact ⟨congrArg StationTable.mode (countUp_only ..).deadlineWork.stations⟩
    · exact .refl s

theorem arbitrate_modeKept (fuel : Nat) (s : State) : ModeKept s (arbitrate fuel s) := by
  induction fuel generalizing s with
  | zero => exact .refl s
  | succ fuel ih =>
    unfold arbitrate
    split
    · exact .refl s
    · exact ⟨rfl⟩
    · exact ⟨rfl⟩
    · rename_i i w _
      have hselected := (countPassOver_unmoved s).modeKept.trans (selectOpen_modeKept i w _)
      dsimp only
      split
      · exact hselected
      · exact hselected.trans (ih _)

theorem completeKat_modeKept (pass : Bool) (s : State) : ModeKept s (completeKat pass s) := by
  have hdone : ModeKept s (if pass = true then endKat s else enterFault (endKat s)) := by
    split
    · exact ⟨rfl⟩
    · exact ⟨(enterFault_unmoved (endKat s)).mode⟩
  unfold completeKat
  split
  · dsimp only
    split
    · exact hdone
    · cases pass
      · exact ⟨(enterFault_unmoved (endKat s)).mode⟩
      · exact ⟨rfl⟩
    · exact ⟨hdone.mode⟩
  · exact .refl s

/-! ## Postings -/

theorem storeParcel_modeKept (p : Parcel) (ks : List Key) (s : State) : ModeKept s (storeParcel p ks s).1 := by
  have hroom : ModeKept s (makeRoom s) := (makeRoom_only s).modeKept
  unfold storeParcel
  dsimp only
  split
  · exact hroom.trans (raisePulse_work ..).modeKept
  · split
    · exact hroom.trans (raisePulse_work ..).modeKept
    · rw [commitParcel_eq]
      exact ⟨hroom.mode⟩

theorem settleVerify_modeKept (p : StagingPlace) (outcome : Option (List Key)) (s : State) :
    ModeKept s (settleVerify p outcome s).1 := by
  unfold settleVerify
  split
  · exact ⟨rfl⟩
  · split_ifs
    · exact .refl s
    · exact .refl s
    · exact .refl s
    · exact storeParcel_modeKept ..

theorem postVerify_modeKept (s : State) : ModeKept s (postVerify s) := by
  unfold postVerify
  split
  · rename_i outcome p _ _ _
    have htaken : ModeKept s { s with engine := { s.engine with held := none } } := ⟨rfl⟩
    exact (htaken.trans ((settleVerify_modeKept p outcome _).trans ⟨by rfl⟩)).replyLater
  · exact .refl s

theorem postRewrap_modeKept (s : State) : ModeKept s (postRewrap s) := by
  unfold postRewrap
  split
  · dsimp only
    split
    · split
      · split
        · split
          · exact (ModeKept.trans ⟨by rfl⟩ (freeGrant_modeKept ..)).replyLater
          · exact ⟨rfl⟩
        · exact ⟨rfl⟩
      · exact ⟨rfl⟩
    · exact ⟨rfl⟩
  · exact .refl s

/-! ## The commands -/

theorem execFrameEnd_modeKept (rest : List Byte) (s : State) : ∃ t, execFrameEnd rest s = .next t ∧ ModeKept s t := by
  refine ⟨_, rfl, ?_⟩
  split
  · exact .ite (endFrame_unmoved ..).modeKept
  · exact .refl s

theorem execHoldRepeatTimer_modeKept (s : State) : ∃ t, execHoldRepeatTimer s = .next t ∧ ModeKept s t := by
  refine ⟨_, rfl, .ite ?_⟩
  split <;> exact ⟨rfl⟩

theorem execFrameTake_modeKept {s : State} (h : mayChangeMode s .frameTake = false) :
    ∃ t, execFrameTake s = .next t ∧ ModeKept s t := by
  refine ⟨_, rfl, ?_⟩
  unfold mayChangeMode at h
  split
  · rename_i f rest hstored
    rw [hstored] at h
    exact .ite (takeFrame_modeKept (by simpa using h) s)
  · exact .refl s

theorem execSendExpire_modeKept (s : State) : ∃ t, execSendExpire s = .next t ∧ ModeKept s t := by
  refine ⟨_, rfl, ?_⟩
  split
  · refine .ite ?_
    unfold sendExpireFor
    split
    · exact ModeKept.trans ⟨by rfl⟩ (freeGrant_modeKept ..)
    · exact .refl s
  · exact .refl s

theorem execTransmitFrameEnd_modeKept (s : State) : ∃ t, execTransmitFrameEnd s = .next t ∧ ModeKept s t := by
  refine ⟨_, rfl, ?_⟩
  split
  · refine .ite ?_
    unfold finishSending
    dsimp only
    split <;> exact ⟨rfl⟩
  · exact .refl s

theorem execCrystalSecond_modeKept (s : State) : ∃ t, execCrystalSecond s = .next t ∧ ModeKept s t := by
  have hnoted : ModeKept s (noteTick s) := ⟨rfl⟩
  refine ⟨_, rfl, ?_⟩
  split
  · exact (hnoted.trans (countTrimYear_unmoved _).modeKept).trans (tickBooth_modeKept _)
  · exact hnoted

theorem execMainClockSecond_modeKept (deviation : Nat) (s : State) :
    ∃ t, execMainClockSecond deviation s = .next t ∧ ModeKept s t := by
  have hcounted : ModeKept s (countUptime s) := ⟨rfl⟩
  exact ⟨_, rfl, .ite (hcounted.trans (((timeOutOpens_unmoved _).trans (examineTestInterval_unmoved _)).trans
    (measure_unmoved ..)).modeKept)⟩

theorem execResetLineRelease_modeKept (s : State) : ∃ t, execResetLineRelease s = .next t ∧ ModeKept s t := by
  refine ⟨_, rfl, .ite ?_⟩
  dsimp only
  split <;> exact ⟨rfl⟩

theorem execClockCheck_modeKept (deviation : Nat) (s : State) :
    ∃ t, execClockCheck deviation s = .next t ∧ ModeKept s t := by
  refine ⟨_, rfl, .ite (ModeKept.setPhase ?_)⟩
  exact ModeKept.trans ⟨by rfl⟩ (followLevel_unmoved ..).modeKept

theorem endStartUp_modeKept (s : State) : ModeKept s (endStartUp s) := by
  have hdue : ∀ t, ModeKept s t → ModeKept s (if rebuildRuns t then runDeadlines t.now t else t) := fun t ht => by
    split
    · exact ht.trans (runDeadlines_work ..).modeKept
    · exact ht
  exact hdue _ (ModeKept.trans ⟨by rfl⟩ (endNotices_unmoved _).modeKept)

/-- Every command that may not change the mode leaves it as it is. -/
theorem exec_modeKept {c : Instr} {s : State} (hc : mayChangeMode s c = false) :
    ∃ t, exec c s = .next t ∧ ModeKept s t := by
  cases c with
  | modeChange src tag body => exact nomatch hc
  | retainedCheck damaged => exact nomatch hc
  | frameTake => exact execFrameTake_modeKept hc
  | frameHeader dst src => exact ⟨_, rfl, .ite (judgeHeader_unmoved dst src s).modeKept⟩
  | frameEnd rest => exact execFrameEnd_modeKept rest s
  | holdRepeatTimer => exact execHoldRepeatTimer_modeKept s
  | unknownKind src tag kind body => exact ⟨_, rfl, .ite (settle_modeKept ownUnknownKind_modeKept _ s)⟩
  | status src tag body => exact requestRow_modeKept (k := .status) nofun src tag body s
  | parcelLoad src tag body => exact requestRow_modeKept (k := .parcelLoad) nofun src tag body s
  | parcelWithdraw src tag body => exact requestRow_modeKept (k := .parcelWithdraw) nofun src tag body s
  | parcelList src tag body => exact requestRow_modeKept (k := .parcelList) nofun src tag body s
  | openKeys src tag body => exact requestRow_modeKept (k := .openKeys) nofun src tag body s
  | close src tag body => exact requestRow_modeKept (k := .close) nofun src tag body s
  | extend src tag body => exact requestRow_modeKept (k := .extend) nofun src tag body s
  | grantList src tag body => exact requestRow_modeKept (k := .grantList) nofun src tag body s
  | timeTrim src tag body => exact requestRow_modeKept (k := .timeTrim) nofun src tag body s
  | timeSet src tag body => exact requestRow_modeKept (k := .timeSet) nofun src tag body s
  | stationEnrol src tag body => exact requestRow_modeKept (k := .stationEnrol) nofun src tag body s
  | stationRetire src tag body => exact requestRow_modeKept (k := .stationRetire) nofun src tag body s
  | stationSuspend src tag body => exact requestRow_modeKept (k := .stationSuspend) nofun src tag body s
  | stationResume src tag body => exact requestRow_modeKept (k := .stationResume) nofun src tag body s
  | stationRank src tag body => exact requestRow_modeKept (k := .stationRank) nofun src tag body s
  | stationList src tag body => exact requestRow_modeKept (k := .stationList) nofun src tag body s
  | modeKey src tag body => exact requestRow_modeKept (k := .modeKey) nofun src tag body s
  | settingWrite src tag body => exact requestRow_modeKept (k := .settingWrite) nofun src tag body s
  | settingRead src tag body => exact requestRow_modeKept (k := .settingRead) nofun src tag body s
  | zeroize src tag body => exact requestRow_modeKept (k := .zeroize) nofun src tag body s
  | noticeRead src tag body => exact requestRow_modeKept (k := .noticeRead) nofun src tag body s
  | noticeConfig src tag body => exact requestRow_modeKept (k := .noticeConfig) nofun src tag body s
  | selfTest src tag body => exact requestRow_modeKept (k := .selfTest) nofun src tag body s
  | restart src tag body => exact requestRow_modeKept (k := .restart) nofun src tag body s
  | crystalSecond => exact execCrystalSecond_modeKept s
  | trimYearWrap => exact ⟨_, rfl, .ite ⟨rfl⟩⟩
  | mainClockSecond deviation => exact execMainClockSecond_modeKept deviation s
  | driftRunLimit => exact ⟨_, rfl, .ite ⟨(reachDriftLimit_unmoved (openWindow s)).mode⟩⟩
  | openWaitTimeout => exact ⟨_, rfl, .ite (timeOutOpens_unmoved s).modeKept⟩
  | periodicTestDue => exact ⟨_, rfl, .ite (examineTestInterval_unmoved s).modeKept⟩
  | engineArbiterChoice => exact ⟨_, rfl, arbitrate_modeKept _ s⟩
  | katComplete pass => exact ⟨_, rfl, completeKat_modeKept pass s⟩
  | verifyComplete done => exact ⟨_, rfl, (completeVerify_unmoved s).modeKept⟩
  | rewrapComplete => exact ⟨_, rfl, (completeRewrap_unmoved s).modeKept⟩
  | verifyPosting => exact ⟨_, rfl, .ite (postVerify_modeKept s)⟩
  | rewrapPosting => exact ⟨_, rfl, .ite (postRewrap_modeKept s)⟩
  | selfTestPosting => exact ⟨_, rfl, .ite (postSelfTest_unmoved s).modeKept⟩
  | openAnswerDue => exact ⟨_, rfl, .ite (answerOpenDue_unmoved s).modeKept⟩
  | stagingAnswerDue => exact ⟨_, rfl, .ite (answerStaging_unmoved s).modeKept⟩
  | sendHold | sendAnswer | sendNotice =>
    refine ⟨_, rfl, ?_⟩
    split
    · exact .ite ⟨rfl⟩
    · exact .refl s
  | sendExpire => exact execSendExpire_modeKept s
  | linkDown | linkUp => exact ⟨_, rfl, ⟨rfl⟩⟩
  | powerOn | resetLineAssert =>
    refine ⟨_, rfl, ?_⟩
    split
    · exact .refl s
    · dsimp only
      split <;> exact ⟨rfl⟩
  | powerLoss => exact ⟨_, rfl, .ite ⟨rfl⟩⟩
  | resetLineRelease => exact execResetLineRelease_modeKept s
  | startUpBegin => exact ⟨_, rfl, .ite ⟨rfl⟩⟩
  | fuseLoad => exact ⟨_, rfl, .ite (readFuses_unmoved s).modeKept.setPhase⟩
  | clockCheck deviation => exact execClockCheck_modeKept deviation s
  | rebuild => exact ⟨_, rfl, .ite (rebuildList_work s.now s).modeKept.setPhase⟩
  | startUpEnd => exact ⟨_, rfl, .ite (endStartUp_modeKept s)⟩
  | transmitFrameEnd => exact execTransmitFrameEnd_modeKept s
  | retainedLoss =>
    refine ⟨_, rfl, ?_⟩
    split <;> exact ⟨rfl⟩

/-- Settles O14: a command that may not change the mode leaves it as it is. -/
theorem modeChangesOnlyByItsCommands : Obligations.ModeChangesOnlyByItsCommands := by
  intro c s t hexec hmode
  by_contra hc
  obtain ⟨u, hu, hkept⟩ := exec_modeKept (Bool.eq_false_of_not_eq_true hc)
  obtain rfl := Host.Outcome.next.inj (hu.symm.trans hexec)
  exact hmode hkept.mode

end Sys2Proof.Machine
end

section
/-! PROOFS. STATION_ENROL, STATION_RETIRE, STATION_RESUME and STATION_RANK (O36, O37). -/

namespace Sys2Proof.Machine

/-! ## Checks that pass -/

/-- A served request whose checks all pass is what it does past them. -/
theorem exec_passed {s : State} {src : Addr} {who : Sender} (h : Served s src who) (k : Kind) (tag : Byte)
    (body : List Byte) {cs : List (Bool × Reply)} {act : State → State}
    (howner : ownerOf k who { src := src, kind := k.value, tag := tag, body := body } s =
      checked { src := src, kind := k.value, tag := tag, body := body } cs act s) (hpass : ∀ c ∈ cs, c.1 = false) :
    exec (requestRow k src tag body) s = .next (act s) := by
  rw [exec_served h, howner, checked_of_passed hpass]

theorem serviceOnly_passed {s : State} (h : s.stations.mode = .service) : (serviceOnly s).1 = false := by
  rw [serviceOnly, h]; rfl

theorem lengthCheck_passed {n : Nat} {body : List Byte} (h : body.length = n) :
    (formCheck (lengthIs n body)).1 = false := by simp [lengthIs, h]

theorem slotCheck_passed {body : List Byte} (hb : body.length = 1) (hslot : num body 0 1 < 32) :
    (formCheck (slotForm body)).1 = false := by simp [slotForm, lengthThen, hb, slotField, hslot]

theorem stationCheck_passed {i : Nat} {e : Station} {s : State} (h : s.station i = some e) :
    (stationCheck i s).1 = false := by simp [stationCheck, h]

/-! ## STATION_ENROL (08 R135, R136) -/

theorem slotsWhere_nil {s : State} {hit : Station → Bool} (h : ∀ j t, s.station j = some t → hit t = false) :
    slotsWhere s hit = [] := by
  simp only [slotsWhere, List.map_eq_nil_iff, List.filter_eq_nil_iff]
  exact fun p hp => by simp [h p.1 p.2 (mem_listUsed.mp hp)]

/-- A conflict check that applies to screens alone passes when no screen collides. -/
theorem conflictCheck_screens {s : State} {r : Role} {b : Byte} {hit : Station → Bool}
    (h : r = .screen → ∀ j t, s.station j = some t → hit t = false) :
    (conflictCheck b (if some r = some Role.screen then slotsWhere s hit else [])).1 = false := by
  split
  · rename_i hr
    rw [slotsWhere_nil (h (Option.some.inj hr))]; rfl
  · rfl

/-- The block's base address as the body spells it. -/
theorem enrolmentOf_base (body : List Byte) : (enrolmentOf body).base.toNat = num body 1 2 :=
  Nat.mod_eq_of_lt (num_lt body 1 2)

/-- Settles O36: every check of 08 R135 passes. -/
theorem enrolTakesTheLowestFreeSlot : Obligations.EnrolTakesTheLowestFreeSlot := by
  intro src tag body s who i r h hmode hb hfree hrole hroom hvalid haligned haddr hother
  have hrole' : (enrolmentOf body).role = some r := hrole
  refine (exec_passed h.toServed .stationEnrol tag body rfl ?_).trans (congrArg _ ?_)
  · simp only [enrolChecks, List.forall_mem_cons, hrole']
    refine ⟨sealedCheck_passed h.toServed, roleCheck_programmer h.role, suspendedCheck_passed h.enrolled,
      serviceOnly_passed hmode, lengthCheck_passed hb, by simp [hfree], ?_, by simp [hvalid], ?_, ?_, ?_, ?_, ?_, nofun⟩
    · simpa [roleIsFull, hrole'] using hroom
    · simpa [enrolmentOf_base] using show num body 1 2 % (enrolmentOf body).size = 0 from haligned
    · rw [haddr]; rfl
    · refine conflictCheck_screens fun hr j t ht => ?_
      by_cases hs : t.role = .screen
      · simpa [hs, enrolmentOf] using ((hother j t ht).2 hr hs).1
      · simp [hs]
    · rw [slotsWhere_nil fun j t ht => by simpa [enrolmentOf] using (hother j t ht).1]; rfl
    · refine conflictCheck_screens fun hr j t ht => ?_
      by_cases hs : t.role = .screen
      · simpa [hs, enrolmentOf] using ((hother j t ht).2 hr hs).2
      · simp [hs]
  · simp only [enrol, hfree, hrole']
    rfl

/-! ## The PROGRAMMING entries (08 R137, R138) -/

theorem otherProgramming_eq_true {slot : Nat} {st : StationState} {s : State} : otherProgramming slot st s = true ↔
    ∃ j f, j ≠ slot ∧ s.station j = some f ∧ f.role = .programming ∧ f.state = st := by
  simp only [otherProgramming, List.any_eq_true, Prod.exists, mem_listUsed, Bool.and_eq_true, bne_iff_ne, beq_iff_eq]
  constructor
  · rintro ⟨j, f, hf, ⟨hj, hr⟩, hst⟩
    exact ⟨j, f, hj, hf, hr, hst⟩
  · rintro ⟨j, f, hj, hf, hr, hst⟩
    exact ⟨j, f, hf, ⟨hj, hr⟩, hst⟩

theorem otherProgramming_eq_false {slot : Nat} {st : StationState} {s : State}
    (h : ∀ j f, j ≠ slot → s.station j = some f → f.role = .programming → f.state ≠ st) :
    otherProgramming slot st s = false := by
  refine Bool.eq_false_of_not_eq_true fun ht => ?_
  obtain ⟨j, f, hj, hf, hr, hst⟩ := otherProgramming_eq_true.mp ht
  exact h j f hj hf hr hst

theorem targetProgramming_eq {i : Nat} {e : Station} {s : State} (h : s.station i = some e) (only : Bool) :
    targetProgramming i only s = (e.role == .programming && (!only || e.state == .enrolled)) := by
  simp only [targetProgramming, h]

/-! ## STATION_RETIRE (08 R137) -/

/-- A retirement that leaves the part to a SUSPENDED programming station. -/
def retiresLast (i : Nat) (s : State) : Bool :=
  targetProgramming i true s && !otherProgramming i .enrolled s && otherProgramming i .suspended s

/-- Of a STATION_RETIRE of an entry in use only the last check can fail. -/
theorem exec_stationRetire {src : Addr} {tag : Byte} {body : List Byte} {s : State} {who : Sender} {e : Station}
    (h : ServedProgrammer s src who) (hslot : num body 0 1 < 32) (he : s.station (num body 0 1) = some e)
    (hb : body.length = 1) (hmode : s.stations.mode = .service) : exec (.stationRetire src tag body) s =
      .next (if retiresLast (num body 0 1) s = true then answered s src tag .stationRetire .lastProgramming []
        else answered (s.setStation (num body 0 1) none) src tag .stationRetire .ok []) := by
  refine (exec_served h.toServed .stationRetire tag body).trans (congrArg _ ?_)
  rw [ownerOf, ownStationRetire, retireChecks, checked_cons_passed (sealedCheck_passed h.toServed),
    checked_cons_passed (roleCheck_programmer h.role), checked_cons_passed (suspendedCheck_passed h.enrolled),
    checked_cons_passed (serviceOnly_passed hmode), checked_cons_passed (slotCheck_passed hb hslot),
    checked_cons_passed (stationCheck_passed (i := slotField body) he), checked_cons]
  rfl

/-- STATION_RESUME of an entry in use (08 R138). -/
theorem exec_stationResume {src : Addr} {tag : Byte} {body : List Byte} {s : State} {who : Sender} {e : Station}
    (h : ServedProgrammer s src who) (hslot : num body 0 1 < 32) (he : s.station (num body 0 1) = some e)
    (hb : body.length = 1) : exec (.stationResume src tag body) s = .next (answered
      (s.setStation (num body 0 1) (some { e with state := .enrolled })) src tag .stationResume .ok []) := by
  refine (exec_passed h.toServed .stationResume tag body rfl ?_).trans (congrArg _ ?_)
  · simp only [resumeChecks, List.forall_mem_cons]
    exact ⟨sealedCheck_passed h.toServed, roleCheck_programmer h.role, suspendedCheck_passed h.enrolled,
      slotCheck_passed hb hslot, stationCheck_passed he, nofun⟩
  · simp only [resume, slotField, he]
    rfl

/-- STATION_RANK of a screen, to a rank that no other screen holds (08 R139). -/
theorem exec_stationRank {src : Addr} {tag : Byte} {body : List Byte} {s : State} {who : Sender} {e : Station}
    (h : ServedProgrammer s src who) (hslot : num body 0 1 < 32) (he : s.station (num body 0 1) = some e)
    (hb : body.length = 2) (hr : e.role = .screen) (hlow : 1 ≤ num body 1 1) (hhigh : num body 1 1 ≤ 31)
    (hfree : rankHolders (num body 0 1) (num body 1 1) s = []) : exec (.stationRank src tag body) s = .next (answered
      (s.setStation (num body 0 1) (some { e with rank := num body 1 1 })) src tag .stationRank .ok []) := by
  refine (exec_passed h.toServed .stationRank tag body rfl ?_).trans (congrArg _ ?_)
  · simp only [rankChecks, List.forall_mem_cons]
    exact ⟨sealedCheck_passed h.toServed, roleCheck_programmer h.role, suspendedCheck_passed h.enrolled,
      by simp [lengthThen, hb, slotField, rankField, hslot, hlow, hhigh], stationCheck_passed he,
      by simp [notScreen, slotField, he, hr], by simp [conflictCheck, slotField, rankField, hfree], nofun⟩
  · simp only [giveRank, slotField, he]
    rfl

theorem rankHolders_nil {i rank : Nat} {s : State}
    (h : ∀ j f, s.station j = some f → j ≠ i → f.role = .screen → f.rank ≠ rank) : rankHolders i rank s = [] := by
  simp only [rankHolders, List.map_eq_nil_iff, List.filter_eq_nil_iff, Bool.and_eq_true, bne_iff_ne, beq_iff_eq]
  exact fun p hp ⟨⟨hj, hr⟩, hk⟩ => h p.1 p.2 (mem_listUsed.mp hp) hj hr hk

/-- Settles O37: a retirement by whom it leaves behind, a resumption, a new rank. -/
theorem retireResumeAndRank : Obligations.RetireResumeAndRank := by
  intro src tag body s who e h hslot he
  have htarget := targetProgramming_eq he true
  refine ⟨fun hb hmode hno => ?_, fun hb hmode ⟨j, f, hf, hj, hr, hst⟩ => ?_,
    fun hb hmode hr hst hall ⟨j, f, hf, hj, hr'⟩ => ?_, fun hb hmode hnone => ?_, exec_stationResume h hslot he,
    fun hb hr hlow hhigh hfree => exec_stationRank h hslot he hb hr hlow hhigh (rankHolders_nil hfree)⟩
  · have hstays : retiresLast (num body 0 1) s = false := by
      rcases hno with hr | hst
      · simp [retiresLast, htarget, hr]
      · simp [retiresLast, htarget, hst]
    rw [exec_stationRetire h hslot he hb hmode, if_neg (by simp [hstays])]
  · have hothers := otherProgramming_eq_true.mpr ⟨j, f, hj, hf, hr, hst⟩
    rw [exec_stationRetire h hslot he hb hmode, if_neg (by simp [retiresLast, hothers])]
  · have hothers : otherProgramming (num body 0 1) .enrolled s = false :=
      otherProgramming_eq_false fun k q hk hq hrole henrolled => nomatch (hall k q hq hk hrole).symm.trans henrolled
    have hsuspended := otherProgramming_eq_true.mpr ⟨j, f, hj, hf, hr', hall j f hf hj hr'⟩
    rw [exec_stationRetire h hslot he hb hmode, if_pos (by simp [retiresLast, htarget, hr, hst, hothers, hsuspended])]
  · have hothers : otherProgramming (num body 0 1) .suspended s = false :=
      otherProgramming_eq_false fun k q hk hq hrole => absurd hrole (hnone k q hq hk)
    rw [exec_stationRetire h hslot he hb hmode, if_neg (by simp [retiresLast, hothers])]

end Sys2Proof.Machine
end

section
/-! PROOFS. STATION_SUSPEND (O38). -/

namespace Sys2Proof.Machine

/-- Of a STATION_SUSPEND of an entry in use the last two checks can fail (08 R138). -/
theorem exec_stationSuspend {src : Addr} {tag : Byte} {body : List Byte} {s : State} {who : Sender} {e : Station}
    (h : ServedProgrammer s src who) (hb : body.length = 1) (hslot : num body 0 1 < 32)
    (he : s.station (num body 0 1) = some e) : exec (.stationSuspend src tag body) s =
      .next (if (targetProgramming (num body 0 1) false s && !otherProgramming (num body 0 1) .enrolled s) = true then
          answered s src tag .stationSuspend .lastProgramming []
        else if who.slot = some (num body 0 1) then answered s src tag .stationSuspend .ownEntry []
        else suspendStation (num body 0 1) e
          { src := src, kind := Kind.stationSuspend.value, tag := tag, body := body } s) := by
  refine (exec_served h.toServed .stationSuspend tag body).trans (congrArg _ ?_)
  rw [ownerOf, ownStationSuspend, suspendChecks, checked_cons_passed (sealedCheck_passed h.toServed),
    checked_cons_passed (roleCheck_programmer h.role), checked_cons_passed (suspendedCheck_passed h.enrolled),
    checked_cons_passed (slotCheck_passed hb hslot),
    checked_cons_passed (stationCheck_passed (i := slotField body) he), checked_cons, checked_cons, checked_nil]
  simp only [suspend, slotField, he, beq_iff_eq]
  rfl

/-- A programmer is no screen. -/
theorem ServedProgrammer.slot_ne {s : State} {src : Addr} {who : Sender} (h : ServedProgrammer s src who) {i : Nat}
    {e : Station} (he : s.station i = some e) (hr : e.role ≠ .programming) : who.slot ≠ some i := by
  intro hi
  cases who with
  | boot => exact nomatch hi
  | station slot st =>
    obtain rfl : slot = i := Option.some.inj hi
    obtain rfl := Option.some.inj ((matchSource_station h.source).symm.trans he)
    exact hr h.role

/-! ## A screen that is stopped (05 R73, 06 R100, R101) -/

/-- The state in which the screen in slot `i` is SUSPENDED and its opens are refused. -/
def opensRefused (i : Nat) (e : Station) (s : State) : State :=
  refuseWaiting (fun w => w.station == i) .suspended (s.setStation i (some { e with state := .suspended }))

/-- The state in which its grants are expiring besides. -/
def screenStopped (i : Nat) (e : Station) (s : State) : State :=
  forceExpiry (fun g => g.station == i) .suspended (opensRefused i e s)

theorem suspendStation_screen {i : Nat} {e : Station} (f : Frame) {s : State} (hr : e.role = .screen)
    (hst : e.state = .enrolled) : suspendStation i e f s =
      reply f { code := .ok, detail := [byte1 (reached (fun g => g.station == i) s).length,
        byte1 (s.openQueue.waiting.filter fun w => w.station == i).length] } (screenStopped i e s) := by
  rw [suspendStation, if_neg (by simp [hst])]
  exact if_pos hr

/-- What a stopped screen changes in the grant table, the Deadline List and the notices. -/
theorem screenStopped_grants (i : Nat) (e : Station) (s : State) :
    (∀ g, (screenStopped i e s).grant g = (s.grant g).map fun r =>
      if r.state = .opened ∧ r.station = i then { r with state := .expiring .suspended } else r) ∧
    (screenStopped i e s).grants.expireList = s.grants.expireList ++ reached (fun r => r.station == i) s ∧
    (screenStopped i e s).grants.gens = s.grants.gens ∧
    screenStopped i e s = { opensRefused i e s with
      grants := (screenStopped i e s).grants
      deadlines := (screenStopped i e s).deadlines
      attention := (screenStopped i e s).attention } := by
  obtain ⟨hgrant, hlist, hgens, -, hframe⟩ :=
    forceExpiry_grants (fun g => g.station == i) .suspended (opensRefused i e s)
  refine ⟨fun g => (hgrant g).trans (congrArg (Option.map · (s.grant g)) (funext fun r => ?_)), hlist, hgens, hframe⟩
  simp only [beq_iff_eq]

theorem screenStopped_deadlines (i : Nat) (e : Station) (s : State) : (screenStopped i e s).deadlines =
    s.deadlines.filter fun d => !(d.kind == .spanEnd && (reached (fun r => r.station == i) s).contains d.ref) :=
  forceExpiry_deadlines ..

theorem screenStopped_attention_of_none (i : Nat) (e : Station) {s : State}
    (h : reached (fun r => r.station == i) s = []) : (screenStopped i e s).attention = s.attention := by
  rw [screenStopped, forceExpiry_of_none .suspended (s := opensRefused i e s) h]
  rfl

/-- FORCED_EXPIRY is raised when a record was made EXPIRING (06 R100). -/
theorem screenStopped_attention (i : Nat) (e : Station) {s : State}
    (h : reached (fun r => r.station == i) s ≠ []) :
    (screenStopped i e s).attention = (raisePulse Src.forcedExpiry s).attention :=
  forceExpiry_attention .suspended (s := opensRefused i e s) h

/-- Settles O38, by role and state of the entry that is named. -/
theorem suspensionStopsAScreen : Obligations.SuspensionStopsAScreen := by
  rintro src tag body s who e i h hb rfl hslot he
  have htarget := targetProgramming_eq he false
  have hexec := exec_stationSuspend (tag := tag) h hb hslot he
  have hpasses : (e.role = .programming →
      ∃ j f, j ≠ num body 0 1 ∧ s.station j = some f ∧ f.role = .programming ∧ f.state = .enrolled) →
      ¬(targetProgramming (num body 0 1) false s && !otherProgramming (num body 0 1) .enrolled s) = true := by
    intro hother
    by_cases hr : e.role = .programming
    · simp [otherProgramming_eq_true.mpr (hother hr)]
    · simp [htarget, hr]
  refine ⟨fun hst hself hother => ?_, fun hst hr hself hother => ?_, fun hr hall => ?_, fun hself hother => ?_,
    fun hr hst => ?_⟩
  · rw [hexec, if_neg (hpasses hother), if_neg hself, suspendStation, if_pos hst]
    rfl
  · rw [hexec, if_neg (hpasses hother), if_neg hself, suspendStation, if_neg (by simp [hst])]
    exact congrArg _ (if_neg hr)
  · have hnone : otherProgramming (num body 0 1) .enrolled s = false :=
      otherProgramming_eq_false fun j f hj hf hrole henrolled => nomatch (hall j f hj hf hrole).symm.trans henrolled
    rw [hexec, if_pos (by simp [htarget, hr, hnone])]
  · rw [hexec, if_neg (hpasses fun _ => hother), if_pos hself]
  · have hno : e.role ≠ .programming := by simp [hr]
    obtain ⟨hgrant, hlist, hgens, hframe⟩ := screenStopped_grants (num body 0 1) e s
    rw [hexec, if_neg (hpasses fun hp => absurd hp hno), if_neg (h.slot_ne he hno), suspendStation_screen _ hr hst]
    refine ⟨_, rfl, screenStopped_deadlines .., screenStopped_attention_of_none _ e,
      fun hsome => ⟨screenStopped_attention _ e hsome, fun hsrc => ?_⟩, ?_⟩
    · show ((screenStopped (num body 0 1) e s).source Src.forcedExpiry).status = true
      unfold State.source
      rw [screenStopped_attention _ e hsome]
      exact raisePulse_source_self (by rw [hsrc]; decide)
    · generalize screenStopped (num body 0 1) e s = t at hgrant hlist hgens hframe
      refine ⟨?_, ?_, ?_, hgrant, hlist, hgens, ?_, ?_, ?_, ?_, ?_, ?_, ?_⟩ <;> rw [hframe] <;> rfl

end Sys2Proof.Machine
end

section
/-! PROOFS. MODE_KEY, MODE_CHANGE, SETTING_WRITE (O39, O40). -/

namespace Sys2Proof.Machine

/-! ## MODE_KEY and MODE_CHANGE (08 R142, R143) -/

/-- MODE_KEY fills the holder (08 R142). -/
theorem exec_modeKey {src : Addr} {s : State} {who : Sender} (h : ServedProgrammer s src who) (tag : Byte)
    {body : List Byte} (hb : body.length = 16) : exec (.modeKey src tag body) s =
      .next (answered (setHolder (some (str 128 body 0)) s) src tag .modeKey .ok []) := by
  have hpass : ∀ c ∈ modeKeyChecks who { src := src, kind := Kind.modeKey.value, tag := tag, body := body } s,
      c.1 = false := by
    simp only [modeKeyChecks, List.forall_mem_cons]
    exact ⟨sealedCheck_passed h.toServed, roleCheck_programmer h.role, suspendedCheck_passed h.enrolled,
      lengthCheck_passed hb, nofun⟩
  refine (exec_served h.toServed .modeKey tag body).trans (congrArg _ ?_)
  rw [ownerOf, ownModeKey, checked_of_passed hpass]
  rfl

theorem targetMode_value (m : Mode) : targetMode [m.value] = some m := by cases m <;> rfl

/-- MODE_CHANGE past its checks answers what its three steps find, with mode and mismatch count after them. -/
theorem exec_modeChange {src : Addr} {s u : State} {who : Sender} {m : Mode} {c : Code}
    (h : ServedProgrammer s src who) (tag : Byte) (hu : evaluateModeChange m s = (u, c)) :
    exec (.modeChange src tag [m.value]) s = .next
      (answered u src tag .modeChange c [u.stations.mode.value, byte1 u.stations.mismatch]) := by
  have hpass : ∀ c ∈ modeChangeChecks who
      { src := src, kind := Kind.modeChange.value, tag := tag, body := [m.value] } s, c.1 = false := by
    simp only [modeChangeChecks, List.forall_mem_cons]
    exact ⟨sealedCheck_passed h.toServed, roleCheck_programmer h.role, suspendedCheck_passed h.enrolled,
      by simp [targetMode_value, lengthThen], nofun⟩
  refine (exec_served h.toServed .modeChange tag _).trans (congrArg _ ?_)
  rw [ownerOf, ownModeChange, checked_of_passed hpass]
  simp only [targetMode_value, modeChangeTo, hu]
  rfl

theorem keyMatches_iff {s : State} : keyMatches s = true ↔
    ¬(s.stations.keyHolder = none ∨ s.stations.keyHolder ≠ s.fuses.held.modeKey) := by
  simp [keyMatches, Option.isSome_iff_ne_none]

/-- Step 1: four mismatches lock the change (08 R143). -/
theorem evaluateModeChange_locked (m : Mode) {s : State} (h : 4 ≤ s.stations.mismatch) :
    evaluateModeChange m s = (setHolder none s, .locked) := if_pos h

/-- Step 2: a mismatch is counted. -/
theorem evaluateModeChange_mismatch (m : Mode) {s : State} (h : ¬4 ≤ s.stations.mismatch)
    (hk : s.stations.keyHolder = none ∨ s.stations.keyHolder ≠ s.fuses.held.modeKey) : evaluateModeChange m s =
      (raisePulse Src.keyMismatch (setMismatch (s.stations.mismatch + 1) (setHolder none s)), .keyMismatch) :=
  (if_neg h).trans (if_neg fun hmatch => keyMatches_iff.mp hmatch hk)

/-- Step 3: a match sets the count to 0 and enters the mode. -/
theorem evaluateModeChange_match (m : Mode) {s : State} (h : ¬4 ≤ s.stations.mismatch)
    (hk : ¬(s.stations.keyHolder = none ∨ s.stations.keyHolder ≠ s.fuses.held.modeKey)) :
    evaluateModeChange m s = enterMode m (setMismatch 0 (setHolder none s)) :=
  (if_neg h).trans (if_pos (keyMatches_iff.mpr hk))

/-- Every WAITING open is refused, in queue order (05 R73). -/
theorem refuseWaiting_all (c : Code) (s : State) : refuseWaiting (fun _ => true) c s = { s with openQueue :=
    { waiting := [], due := s.openQueue.due ++ s.openQueue.waiting.map fun w => { who := w.who, code := c } } } := by
  simp [refuseWaiting]

/-- Settles O39: the holder filled, and the three steps of 08 R143 in their order. -/
theorem modeKeyAndModeChange : Obligations.ModeKeyAndModeChange := by
  intro src tag body s who h
  refine ⟨fun hb => exec_modeKey h tag hb, ?_⟩
  rintro m rfl emptied counted reset
  by_cases hlock : 4 ≤ s.stations.mismatch
  · rw [if_pos hlock]
    exact exec_modeChange h tag (evaluateModeChange_locked m hlock)
  rw [if_neg hlock]
  by_cases hk : s.stations.keyHolder = none ∨ s.stations.keyHolder ≠ s.fuses.held.modeKey
  · rw [if_pos hk]
    exact exec_modeChange h tag (evaluateModeChange_mismatch m hlock hk)
  rw [if_neg hk]
  have heval := evaluateModeChange_match m hlock hk
  by_cases hsame : m = s.stations.mode
  · rw [if_pos hsame]
    subst hsame
    exact exec_modeChange h tag (heval.trans (if_pos rfl))
  rw [if_neg hsame]
  replace heval := heval.trans (if_neg hsame)
  cases m with
  | service =>
    rw [if_pos rfl]
    by_cases hg : s.grantCount ≠ 0
    · rw [if_pos hg]
      exact exec_modeChange h tag (heval.trans (if_pos hg))
    · rw [if_neg hg]
      replace heval := heval.trans (if_neg hg)
      rw [refuseWaiting_all] at heval
      exact exec_modeChange h tag heval
  | showing =>
    rw [if_neg nofun]
    by_cases hlost : s.clock.timeState = .lost
    · rw [if_pos hlost]
      exact exec_modeChange h tag (heval.trans (if_pos hlost))
    rw [if_neg hlost]
    replace heval := heval.trans (if_neg hlost)
    by_cases hfault : s.engine.faulted = true
    · rw [if_pos hfault]
      exact exec_modeChange h tag (heval.trans (if_pos hfault))
    · rw [if_neg hfault]
      exact exec_modeChange h tag (heval.trans (if_neg hfault))

/-! ## SETTING_WRITE (08 R146) -/

/-- Keeping HOLD_LOW below HOLD_HIGH writes HOLD_LOW alone. -/
theorem Settings.ordered_eq_put (t : Settings) : t.ordered = t.put 8 (min t.holdLow (t.holdHigh - 1)) := by
  unfold Settings.ordered
  split
  · rw [Nat.min_eq_right (by omega)]; rfl
  · rw [Nat.min_eq_left (by omega)]; rfl

/-- There is no setting beside the eleven. -/
theorem Settings.get_of_unnamed (t : Settings) {m : Nat} (h : ¬(1 ≤ m ∧ m ≤ 11)) : t.get m = 0 := by
  obtain rfl | ⟨k, rfl⟩ : m = 0 ∨ ∃ k, m = k + 12 := by
    by_cases h0 : m = 0
    · exact .inl h0
    · exact .inr ⟨m - 12, by omega⟩
  · rfl
  · rfl

section
variable {n : Nat} (hn : 1 ≤ n ∧ n ≤ 11)
include hn

/-- A write leaves the clamped value in its setting, and every other but HOLD_LOW as it was. -/
theorem writeSetting_get (t : Settings) (v : Nat) {m : Nat} (hm : m ≠ 8) :
    (writeSetting t n v).get m = if m = n then clampSetting n v else t.get m := by
  by_cases hrange : 1 ≤ m ∧ m ≤ 11
  · rw [writeSetting, Settings.ordered_eq_put, Settings.get_put _ _ (by decide) hrange, if_neg hm,
      Settings.get_put _ _ hn hrange]
  · rw [Settings.get_of_unnamed _ hrange, Settings.get_of_unnamed _ hrange, if_neg (by omega)]

theorem put_holdLow (t : Settings) (v : Nat) : (t.put n v).holdLow = if n = 8 then v else t.holdLow :=
  (Settings.get_put t v hn (m := 8) (by decide)).trans (if_congr eq_comm rfl rfl)

theorem put_holdHigh (t : Settings) (v : Nat) : (t.put n v).holdHigh = if n = 7 then v else t.holdHigh :=
  (Settings.get_put t v hn (m := 7) (by decide)).trans (if_congr eq_comm rfl rfl)

theorem writeSetting_holdHigh (t : Settings) (v : Nat) :
    (writeSetting t n v).holdHigh = if n = 7 then clampSetting n v else t.holdHigh :=
  (writeSetting_get hn t v (m := 7) (by decide)).trans (if_congr eq_comm rfl rfl)

/-- HOLD_LOW after a write: its own new value or the one it had, lowered by HOLD_HIGH. -/
theorem writeSetting_holdLow (t : Settings) (v : Nat) : (writeSetting t n v).holdLow =
    min (if n = 8 then clampSetting n v else t.holdLow) ((if n = 7 then clampSetting n v else t.holdHigh) - 1) := by
  rw [writeSetting, Settings.ordered_eq_put, put_holdLow (by decide), if_pos rfl, put_holdLow hn, put_holdHigh hn]

theorem holdLowAdjusted_iff (t : Settings) (v : Nat) : holdLowAdjusted t n v = true ↔
    (if n = 7 then clampSetting n v else t.holdHigh) ≤ if n = 8 then clampSetting n v else t.holdLow := by
  rw [holdLowAdjusted, decide_eq_true_eq, put_holdLow hn, put_holdHigh hn]

theorem settingRange_le : (settingRange n).1 ≤ (settingRange n).2 := by
  obtain ⟨_, _⟩ := hn
  interval_cases n <;> decide

end

/-- A value in range is stored as it is (08 R146). -/
theorem clampSetting_of_fits {n v : Nat} (h : settingFits n v) : clampSetting n v = v := by
  unfold settingFits at h
  unfold clampSetting
  split
  · omega
  · omega

theorem clampSetting_of_lt {n v : Nat} (hn : 1 ≤ n ∧ n ≤ 11) (h : v < (settingRange n).1) (h0 : ¬(n = 10 ∧ v = 0)) :
    clampSetting n v = (settingRange n).1 := by
  have hrange := settingRange_le hn
  rw [clampSetting, if_neg h0]
  omega

theorem clampSetting_of_gt {n v : Nat} (hn : 1 ≤ n ∧ n ≤ 11) (h : (settingRange n).2 < v) :
    clampSetting n v = (settingRange n).2 := by
  have hrange := settingRange_le hn
  rw [clampSetting, if_neg (by omega)]
  omega

/-- Whether a write adjusted anything shows in the value stored and, for another setting, in HOLD_LOW. -/
theorem unadjusted_iff {t : Settings} {n : Nat} (hn : 1 ≤ n ∧ n ≤ 11) (v : Nat) (h : settingsFit t) :
    (clampSetting n v = v ∧ (!holdLowAdjusted t n v) = true) ↔
      ((writeSetting t n v).get n = v ∧ (n = 8 ∨ (writeSetting t n v).holdLow = t.holdLow)) := by
  have hhigh : 4 ≤ t.holdHigh := by
    have := h.1 7 (by decide) (by decide)
    simp only [settingFits, settingRange, Settings.get] at this
    omega
  have hlow := h.2
  rw [Bool.not_eq_true', ← Bool.not_eq_true, holdLowAdjusted_iff hn]
  by_cases h8 : n = 8
  · subst h8
    have hget : (writeSetting t 8 v).get 8 = min (clampSetting 8 v) (t.holdHigh - 1) := writeSetting_holdLow hn t v
    have hclamp : clampSetting 8 v = max 1 (min 10 v) := rfl
    rw [hget, hclamp, if_pos rfl, if_neg (by decide)]
    omega
  · rw [writeSetting_get hn t v h8, writeSetting_holdLow hn, if_pos rfl, if_neg h8]
    by_cases h7 : n = 7
    · subst h7
      have hclamp : clampSetting 7 v = max 4 (min 11 v) := rfl
      rw [hclamp, if_pos rfl]
      omega
    · rw [if_neg h7]
      omega

/-- SETTING_WRITE of one of the eleven settings, past its checks. -/
theorem exec_settingWrite {src : Addr} {s : State} {who : Sender} (h : ServedProgrammer s src who) (tag : Byte)
    {body : List Byte} (hmode : s.stations.mode = .service) (hb : body.length = 5)
    (hn : 1 ≤ num body 0 1 ∧ num body 0 1 ≤ 11) : exec (.settingWrite src tag body) s =
      .next (storeSetting { src := src, kind := Kind.settingWrite.value, tag := tag, body := body } s) := by
  have hknown : knownSetting (num body 0 1) = true := by simp [knownSetting]; omega
  refine exec_passed h.toServed .settingWrite tag body rfl ?_
  simp only [settingWriteChecks, List.forall_mem_cons]
  exact ⟨sealedCheck_passed h.toServed, roleCheck_programmer h.role, suspendedCheck_passed h.enrolled,
    serviceOnly_passed hmode, lengthCheck_passed hb, by simp [settingName, hknown],
    decide_eq_false fun hreadOnly : 12 ≤ num body 0 1 => absurd hn.2 (by omega), nofun⟩

/-- Settles O40: the settings after the write, setting by setting. -/
theorem settingWriteClampsAndOrders : Obligations.SettingWriteClampsAndOrders := by
  rintro src tag body s who n v h hmode hb rfl rfl hlow hhigh hfit
  have hn : 1 ≤ num body 0 1 ∧ num body 0 1 ≤ 11 := ⟨hlow, hhigh⟩
  have hbelow := hfit.2
  refine ⟨writeSetting s.stations.settings (num body 0 1) (num body 1 4),
    (settingWriteReply s.stations.settings (num body 0 1) (num body 1 4)).detail, ?_, ?_, ?_,
    writeSetting_fits _ hn hfit, fun h8 hv => ?_, fun h8 hv h0 => ?_, fun h8 hv => ?_, fun h8 => ?_, fun h7 => ?_,
    fun m hm h8 => ?_, fun h7 h8 => ?_⟩
  · simp [settingWriteReply]
  · simp [settingWriteReply]
  · rw [exec_settingWrite h tag hmode hb hn, ← if_congr (unadjusted_iff hn (num body 1 4) hfit) rfl rfl]
    rfl
  · rw [writeSetting_get hn _ _ h8, if_pos rfl, clampSetting_of_fits hv]
  · rw [writeSetting_get hn _ _ h8, if_pos rfl, clampSetting_of_lt hn hv h0]
  · rw [writeSetting_get hn _ _ h8, if_pos rfl, clampSetting_of_gt hn hv]
  · rw [writeSetting_holdLow hn, h8]
    rfl
  · rw [writeSetting_holdLow hn, writeSetting_holdHigh hn, if_neg (by omega)]
  · rw [writeSetting_get hn _ _ h8, if_neg hm]
  · rw [writeSetting_holdLow hn, if_neg h8, if_neg h7]
    omega

end Sys2Proof.Machine
end

section
/-! PROOFS. ZEROIZE (O41). -/

namespace Sys2Proof.Machine

/-- The OK answer first, then the erasure (08 R144). -/
theorem exec_zeroize {src : Addr} {s : State} {who : Sender} (h : ServedProgrammer s src who) (tag : Byte)
    (hmode : s.stations.mode = .service) :
    exec (.zeroize src tag []) s = .next (eraseAll (answered s src tag .zeroize .ok [])) := by
  have hpass : ∀ c ∈ zeroizeChecks who { src := src, kind := Kind.zeroize.value, tag := tag, body := [] } s,
      c.1 = false := by
    simp only [zeroizeChecks, List.forall_mem_cons]
    exact ⟨sealedCheck_passed h.toServed, roleCheck_programmer h.role, suspendedCheck_passed h.enrolled,
      serviceOnly_passed hmode, lengthCheck_passed rfl, nofun⟩
  refine (exec_served h.toServed .zeroize tag []).trans (congrArg _ ?_)
  rw [ownerOf, ownZeroize, checked_of_passed hpass]
  rfl

/-! ## The engine (01 R9, 05 R87) -/

theorem dropVerify_job_ne (e : Engine) : (dropVerify e).job ≠ some .verify := by
  unfold dropVerify
  dsimp only
  split
  · exact nofun
  · assumption

theorem dropVerify_job_of_ne {e : Engine} (h : e.job ≠ some .verify) : (dropVerify e).job = e.job := if_neg h

/-- A held VERIFY result is discarded, whatever it says. -/
theorem dropVerify_held_ne (e : Engine) :
    (dropVerify e).held ≠ some .verifyFail ∧ ∀ ks, (dropVerify e).held ≠ some (.verifyPass ks) := by
  unfold dropVerify
  dsimp only
  split
  · exact ⟨nofun, nofun⟩
  · exact ⟨nofun, nofun⟩
  · rename_i hpass hfail
    exact ⟨hfail, hpass⟩

theorem dropVerify_held_of_ne {e : Engine} (hfail : e.held ≠ some .verifyFail)
    (hpass : ∀ ks, e.held ≠ some (.verifyPass ks)) : (dropVerify e).held = e.held := by
  unfold dropVerify
  dsimp only
  split
  · exact absurd (by assumption) (hpass _)
  · exact absurd (by assumption) hfail
  · rfl

/-! ## The attention configuration (10 R168) -/

/-- Enable, mask and level of each source are those of Table 10.1. -/
theorem takeAttentionDefaults_configuration {a : Attention} (h : a.sources.length = 24) :
    (takeAttentionDefaults a).sources.map (fun c => (c.enable, c.mask, c.level)) =
      defaultLevels.map fun l => (true, false, l) := by
  have hzip : ((a.sources.zip freshAttention.sources).map Prod.snd) = freshAttention.sources :=
    List.map_snd_zip (by rw [h]; rfl)
  calc (takeAttentionDefaults a).sources.map (fun c => (c.enable, c.mask, c.level))
      = ((a.sources.zip freshAttention.sources).map Prod.snd).map (fun c => (c.enable, c.mask, c.level)) := by
        rw [takeAttentionDefaults, List.map_map, List.map_map]; rfl
    _ = defaultLevels.map fun l => (true, false, l) := by rw [hzip]; rfl

/-- Status, history and pending-notice flag of each source stay: every default enables its source. -/
theorem takeAttentionDefaults_flags {a : Attention} (h : a.sources.length = 24) :
    (takeAttentionDefaults a).sources.map (fun c => (c.status, c.history, c.pending)) =
      a.sources.map fun c => (c.status, c.history, c.pending) := by
  have hzip : ((a.sources.zip freshAttention.sources).map Prod.fst) = a.sources :=
    List.map_fst_zip (by rw [h]; rfl)
  have henabled : ∀ c ∈ freshAttention.sources, c.enable = true := by decide
  conv_rhs => rw [← hzip]
  rw [takeAttentionDefaults, List.map_map, List.map_map]
  refine List.map_congr_left fun p hp => ?_
  simp [henabled p.2 (List.of_mem_zip hp).2]

/-- Settles O41: what the erasure leaves of each block. -/
theorem zeroizeErases : Obligations.ZeroizeErases := by
  intro src tag s who h hmode
  exact ⟨_, exec_zeroize h tag hmode, fun _ => slotGet_map_none .., fun _ => slotGet_map_none ..,
    fun _ => slotGet_map_none .., fun _ => slotGet_map_none .., rfl, rfl, rfl, rfl, rfl, rfl, rfl, hmode, rfl, rfl, rfl,
    dropVerify_job_ne _, (dropVerify_held_ne _).1, (dropVerify_held_ne _).2, rfl, dropVerify_job_of_ne,
    dropVerify_held_of_ne,
    fun hsrc => ⟨rfl, takeAttentionDefaults_configuration hsrc, takeAttentionDefaults_flags hsrc⟩, rfl, rfl, rfl, rfl⟩

end Sys2Proof.Machine
end

section
/-! PROOFS. A sent frame passes the port's end checks and reads back (O25). -/

namespace Sys2Proof.Machine

/-! ## The check field (12 R177) -/

/-- The check is a number of 32 bits. -/
theorem crcShift_lt {r : Nat} (h : r < 2 ^ 32) : crcShift r < 2 ^ 32 := by
  have hhalf : r >>> 1 < 2 ^ 32 := by rw [Nat.shiftRight_eq_div_pow]; omega
  unfold crcShift
  split
  · exact Nat.xor_lt_two_pow hhalf (by decide)
  · exact hhalf

theorem crcByte_lt {r : Nat} (b : Byte) (h : r < 2 ^ 32) : crcByte r b < 2 ^ 32 := by
  have hb : b.toNat < 2 ^ 32 := b.isLt.trans (by decide)
  unfold crcByte
  iterate 8 apply crcShift_lt
  exact Nat.xor_lt_two_pow h hb

theorem crc32_lt (bs : List Byte) : crc32 bs < 2 ^ 32 := by
  have hregister : ∀ r < 2 ^ 32, bs.foldl crcByte r < 2 ^ 32 := by
    induction bs with
    | nil => exact fun _ h => h
    | cons b bs ih => exact fun r h => ih _ (crcByte_lt b h)
  exact Nat.xor_lt_two_pow (hregister _ (by decide)) (by decide)

/-! ## Numbers written and read (12 R176) -/

theorem beNat_cons (b : Byte) (bs : List Byte) : beNat (b :: bs) = b.toNat * 256 ^ bs.length + beNat bs := by
  suffices h : ∀ a, bs.foldl (fun a b => a * 256 + b.toNat) a = a * 256 ^ bs.length + beNat bs by
    simpa [beNat] using h b.toNat
  induction bs with
  | nil => simp [beNat]
  | cons c cs ih =>
    intro a
    have hread : beNat (c :: cs) = c.toNat * 256 ^ cs.length + beNat cs := by simpa [beNat] using ih c.toNat
    rw [List.foldl_cons, ih, hread, List.length_cons, pow_succ]
    ring

/-- The bytes of a number spell it, as far as they reach. -/
theorem beNat_beBytes (n v : Nat) : beNat (beBytes n v) = v % 256 ^ n := by
  induction n with
  | zero => simp [beBytes, beNat, Nat.mod_one]
  | succ n ih =>
    have hpow : 2 ^ (8 * n) = 256 ^ n := pow_mul 2 8 n
    calc beNat (beBytes (n + 1) v)
        = v / 256 ^ n % 256 * 256 ^ n + v % 256 ^ n := by
          rw [beBytes, beNat_cons, ih, beBytes_length, BitVec.toNat_ofNat, Nat.shiftRight_eq_div_pow, hpow]
      _ = v % 256 ^ (n + 1) := by rw [pow_succ, Nat.mod_mul]; ring

theorem beNat_beBytes_of_lt {n v : Nat} (h : v < 256 ^ n) : beNat (beBytes n v) = v := by
  rw [beNat_beBytes, Nat.mod_eq_of_lt h]

/-! ## The fields of a sent frame (12 Table 12.1) -/

/-- A field that stands behind `pre` and before `post`. -/
theorem field_of_eq {bytes pre mid post : List Byte} {off len : Nat} (h : bytes = pre ++ (mid ++ post))
    (hoff : pre.length = off) (hlen : mid.length = len) : field bytes off len = mid := by
  rw [field, h, List.drop_left' hoff, List.take_left' hlen]

theorem TxFrame.front_length (f : TxFrame) : f.front.length = 8 + f.body.length := by
  simp only [TxFrame.front, List.length_append, strBytes_length, beBytes_length, List.length_cons, List.length_nil]

theorem TxFrame.wire_length (f : TxFrame) : f.wire.length = 12 + f.body.length := by
  rw [TxFrame.wire, List.length_append, f.front_length, beBytes_length]; omega

/-- A sent frame, field by field. -/
theorem TxFrame.wire_eq (f : TxFrame) : f.wire = (strBytes f.dst ++ strBytes f.src) ++
    ([f.kind, f.tag] ++ (beBytes 2 f.body.length ++ (f.body ++ beBytes 4 (crc32 f.front)))) := by
  simp only [TxFrame.wire, TxFrame.front, List.append_assoc]

theorem TxFrame.wire_take_four (f : TxFrame) : f.wire.take 4 = strBytes f.dst ++ strBytes f.src := by
  rw [f.wire_eq]
  exact List.take_left' rfl

/-- The length field of a frame whose body fits reads the body's length. -/
theorem TxFrame.wire_length_field {f : TxFrame} (h : f.body.length ≤ 2048) : num f.wire 6 2 = f.body.length := by
  have hfield : field f.wire 6 2 = beBytes 2 f.body.length :=
    field_of_eq (pre := strBytes f.dst ++ strBytes f.src ++ [f.kind, f.tag])
      (post := f.body ++ beBytes 4 (crc32 f.front)) (by simp only [f.wire_eq, List.append_assoc]) rfl rfl
  rw [num, hfield, beNat_beBytes_of_lt (by omega)]

theorem TxFrame.wire_body_field (f : TxFrame) : field f.wire 8 f.body.length = f.body :=
  field_of_eq (pre := strBytes f.dst ++ strBytes f.src ++ [f.kind, f.tag] ++ beBytes 2 f.body.length)
    (post := beBytes 4 (crc32 f.front)) (by simp only [f.wire_eq, List.append_assoc]) rfl rfl

/-- The last four bytes are the check of those before them. -/
theorem TxFrame.wire_check (f : TxFrame) :
    num f.wire (f.wire.length - 4) 4 = crc32 (f.wire.take (f.wire.length - 4)) := by
  have hend : f.wire.length - 4 = f.front.length := by rw [f.wire_length, f.front_length]; omega
  have hfield : field f.wire f.front.length 4 = beBytes 4 (crc32 f.front) :=
    field_of_eq (post := []) (by rw [List.append_nil, TxFrame.wire]) rfl rfl
  have htake : f.wire.take f.front.length = f.front := List.take_left
  rw [hend, num, hfield, htake, beNat_beBytes_of_lt (crc32_lt _)]

/-! ## The end checks (09 R150) -/

/-- The four end checks. -/
theorem frameGood_iff (bytes : List Byte) : frameGood bytes = true ↔
    bytes.length ≤ 2060 ∧ 12 ≤ bytes.length ∧ bytes.length = 12 + num bytes 6 2 ∧
      num bytes (bytes.length - 4) 4 = crc32 (bytes.take (bytes.length - 4)) := by
  simp only [frameGood, Bool.and_eq_true, decide_eq_true_eq, beq_iff_eq, and_assoc]

/-- A sent frame whose body fits passes them. -/
theorem TxFrame.wire_good {f : TxFrame} (h : f.body.length ≤ 2048) : frameGood f.wire = true := by
  rw [frameGood_iff, TxFrame.wire_length_field h]
  exact ⟨by rw [f.wire_length]; omega, by rw [f.wire_length]; omega, f.wire_length, f.wire_check⟩

/-- Read back, a sent frame is the frame that was sent (09 R148). -/
theorem TxFrame.storedFrame_wire {f : TxFrame} (h : f.body.length ≤ 2048) :
    storedFrame { dst := f.dst, src := f.src } f.wire =
      { src := f.src, kind := f.kind, tag := f.tag, body := f.body } := by
  have hkind : f.wire.getD 4 0 = f.kind := by rw [f.wire_eq]; rfl
  have htag : f.wire.getD 5 0 = f.tag := by rw [f.wire_eq]; rfl
  rw [storedFrame, TxFrame.wire_length_field h, f.wire_body_field, hkind, htag]

/-- Settles O25: the four end checks on the frame's bytes, and the fields read back. -/
theorem sentFramesPassTheEndChecks : Obligations.SentFramesPassTheEndChecks := fun f h =>
  ⟨TxFrame.wire_good h, f.wire_length, f.wire_take_four, TxFrame.storedFrame_wire h⟩

end Sys2Proof.Machine
end

section
/-! PROOFS. The receive side of the Link Port: a header (O45), the end of a frame (O46), the repeat timer (O47). -/

namespace Sys2Proof.Machine

/-! ## The hold state (09 Table 9.2) -/

theorem occupancyFell_kept {s : State} (h : s.link.hold = .idle ∨ s.stations.settings.holdLow ≤ occupancy s) :
    occupancyFell s = s := by
  rw [occupancyFell_eq, if_neg]
  rintro ⟨hhold, hlow⟩
  rcases h with hidle | hle
  · rw [hhold] at hidle; cases hidle
  · omega

theorem occupancyFell_released {s : State} (hhold : s.link.hold = .holding)
    (hlow : occupancy s < s.stations.settings.holdLow) : occupancyFell s = releaseHold s := by
  rw [occupancyFell_eq, if_pos ⟨hhold, hlow⟩]

theorem occupancyRose_kept {s : State} (h : s.link.hold = .holding ∨ occupancy s < s.stations.settings.holdHigh) :
    occupancyRose s = s := by
  rw [occupancyRose_eq, if_neg]
  rintro ⟨hidle, hhigh⟩
  rcases h with hhold | hlt
  · rw [hhold] at hidle; cases hidle
  · omega

theorem occupancyRose_entered {s : State} (hidle : s.link.hold = .idle)
    (hhigh : s.stations.settings.holdHigh ≤ occupancy s) : occupancyRose s = enterHold s := by
  rw [occupancyRose_eq, if_pos ⟨hidle, hhigh⟩]

/-- With no frame arriving the stored frames alone hold slots. -/
theorem occupancy_of_none {s : State} (h : s.link.arriving = none) : occupancy s = s.link.stored.length := by
  simp [occupancy, h]

/-! ## FRAME_HEADER (09 R149) -/

theorem destinationMine_iff {dst : Addr} {s : State} :
    destinationMine dst s = true ↔ s.fuses.held.ownAddr = some dst ∨ dst = 0xFFFE := by
  simp [destinationMine]

/-- A header is judged while no other frame holds the arriving slot. -/
theorem exec_frameHeader {s : State} (h : Awake s) (hup : s.link.up = true) (hnone : s.link.arriving = none)
    (dst src : Addr) : exec (.frameHeader dst src) s = .next (judgeHeader dst src s) := by
  show execFrameHeader dst src s = _
  simp [execFrameHeader, awake_iff.mpr h, hup, hnone]

theorem judgeHeader_ignored {dst : Addr} (src : Addr) {s : State} (h : destinationMine dst s = false) :
    judgeHeader dst src s = s := by simp [judgeHeader, h]

theorem judgeHeader_stranger {dst src : Addr} {s : State} (h : destinationMine dst s = true)
    (hm : matchSource s src = none) : judgeHeader dst src s = discardStranger s := by simp [judgeHeader, h, hm]

theorem judgeHeader_overrun {dst src : Addr} {s : State} {who : Sender} (h : destinationMine dst s = true)
    (hm : matchSource s src = some who) (hfull : 12 ≤ occupancy s) : judgeHeader dst src s =
      raisePulse Src.overrun { s with link := { s.link with overrun := satAdd s.link.overrun 1 } } := by
  simp [judgeHeader, h, hm, hfull]

/-- The state in which a header's frame holds the arriving slot, the hold not yet looked at. -/
def headerHeld (dst src : Addr) (s : State) : State :=
  { s with link := { s.link with arriving := some { dst := dst, src := src } } }

theorem headerHeld_occupancy (dst src : Addr) (s : State) :
    occupancy (headerHeld dst src s) = s.link.stored.length + 1 := rfl

theorem judgeHeader_taken {dst src : Addr} {s : State} {who : Sender} (h : destinationMine dst s = true)
    (hm : matchSource s src = some who) (hfree : occupancy s < 12) :
    judgeHeader dst src s = occupancyRose (headerHeld dst src s) := by
  simp [judgeHeader, h, hm, Nat.not_le.mpr hfree, headerHeld]

/-- Settles O45: the three decisions of 09 R149 in their order, then the hold state by the slots in use. -/
theorem headerDecisions : Obligations.HeaderDecisions := by
  intro dst src s h hup hnone
  have hslots := occupancy_of_none hnone
  rw [exec_frameHeader h hup hnone]
  refine ⟨fun hown hall => ?_, fun hmine => ⟨fun hm => ?_, fun who hm => ⟨fun hfull => ?_, fun hfree hstay => ?_,
    fun hfree hidle hhigh => ?_⟩⟩⟩
  · rw [judgeHeader_ignored src (Bool.eq_false_iff.mpr fun hd => (destinationMine_iff.mp hd).elim hown hall)]
  · rw [judgeHeader_stranger (destinationMine_iff.mpr hmine) hm]; rfl
  · rw [judgeHeader_overrun (destinationMine_iff.mpr hmine) hm (hslots ▸ hfull)]; rfl
  · rw [judgeHeader_taken (destinationMine_iff.mpr hmine) hm (hslots ▸ hfree),
      occupancyRose_kept (s := headerHeld dst src s) (by rw [headerHeld_occupancy]; exact hstay)]
    rfl
  · rw [judgeHeader_taken (destinationMine_iff.mpr hmine) hm (hslots ▸ hfree),
      occupancyRose_entered (s := headerHeld dst src s) hidle (by rw [headerHeld_occupancy]; exact hhigh)]
    rfl

/-! ## FRAME_END (09 R150) -/

theorem exec_frameEnd {s : State} {h : Header} (ha : Awake s) (harr : s.link.arriving = some h) (rest : List Byte) :
    exec (.frameEnd rest) s = .next (endFrame h rest s) := by
  show execFrameEnd rest s = _
  simp [execFrameEnd, harr, awake_iff.mpr ha]

/-- The header and the bytes that follow it are the whole frame again. -/
theorem wholeFrame_wire (f : TxFrame) : wholeFrame { dst := f.dst, src := f.src } (f.wire.drop 4) = f.wire := by
  rw [wholeFrame, ← f.wire_take_four, List.take_append_drop]

theorem wholeFrame_length (h : Header) (rest : List Byte) : (wholeFrame h rest).length = rest.length + 4 := by
  rw [wholeFrame, List.length_append]
  exact Nat.add_comm 4 _

/-- A field behind the header, counted from the header's end. -/
theorem num_wholeFrame (h : Header) (rest : List Byte) (off len : Nat) :
    num (wholeFrame h rest) (off + 4) len = num rest off len := by
  have hdrop : (wholeFrame h rest).drop (off + 4) = rest.drop off := by
    rw [Nat.add_comm, ← List.drop_drop, wholeFrame]; rfl
  rw [num, field, hdrop]; rfl

/-- What the end checks say of the bytes behind the header. -/
theorem frameGood_wholeFrame {h : Header} {rest : List Byte} (hgood : frameGood (wholeFrame h rest) = true) :
    8 ≤ rest.length ∧ rest.length ≤ 2056 ∧ rest.length = 8 + num rest 2 2 ∧
      num rest (rest.length - 4) 4 = crc32 ((wholeFrame h rest).take rest.length) := by
  obtain ⟨hlong, hshort, hlen, hcheck⟩ := (frameGood_iff _).mp hgood
  rw [wholeFrame_length] at hlong hshort hlen hcheck
  rw [num_wholeFrame h rest 2 2] at hlen
  have hend : rest.length + 4 - 4 = rest.length - 4 + 4 := by omega
  refine ⟨by omega, by omega, by omega, ?_⟩
  rw [← num_wholeFrame h, ← hend, hcheck, Nat.add_sub_cancel]

theorem endFrame_good {h : Header} {rest : List Byte} (s : State) (hgood : frameGood (wholeFrame h rest) = true) :
    endFrame h rest s = { s with link := { s.link with
      arriving := none
      stored := s.link.stored ++ [storedFrame h (wholeFrame h rest)]
      good := satAdd s.link.good 1 } } := by simp [endFrame, hgood]

/-- The state in which a bad frame has given up its slot and is counted, the hold not yet looked at. -/
def badFrameCounted (s : State) : State :=
  raisePulse Src.badFrame { s with link := { s.link with arriving := none, bad := satAdd s.link.bad 1 } }

theorem endFrame_bad {h : Header} {rest : List Byte} (s : State) (hbad : frameGood (wholeFrame h rest) = false) :
    endFrame h rest s = occupancyFell (badFrameCounted s) := by simp [endFrame, hbad, badFrameCounted]

theorem badFrameCounted_occupancy (s : State) : occupancy (badFrameCounted s) = s.link.stored.length :=
  occupancy_of_none rfl

theorem badFrameCounted_raised {s : State} (h : s.attention.sources.length = 24) :
    ((badFrameCounted s).source Src.badFrame).status = true :=
  raisePulse_source_self (h ▸ (by decide : Src.badFrame < 24))

/-- A fall of occupancy leaves the frames, the counters and every source but HOLD_ACTIVE. -/
theorem occupancyFell_leaves (s : State) :
    (occupancyFell s).link.arriving = s.link.arriving ∧ (occupancyFell s).link.stored = s.link.stored ∧
    (occupancyFell s).link.bad = s.link.bad ∧ (occupancyFell s).link.good = s.link.good ∧
    ∀ n, Src.holdActive ≠ n → (occupancyFell s).source n = s.source n := by
  rw [occupancyFell_eq]
  split
  · exact ⟨rfl, rfl, rfl, rfl, fun n hn => clearLevel_source_ne hn⟩
  · exact ⟨rfl, rfl, rfl, rfl, fun _ _ => rfl⟩

/-- Settles O46: a sent frame passes the end checks and is stored; any other is counted, and the hold is looked at. -/
theorem frameEndJudges : Obligations.FrameEndJudges := by
  intro s h ha harr
  refine ⟨fun f hdst hsrc hbody => ?_, fun rest hfails => ?_⟩
  · obtain rfl : h = { dst := f.dst, src := f.src } := by rw [hdst, hsrc]
    have hgood : frameGood (wholeFrame { dst := f.dst, src := f.src } (f.wire.drop 4)) = true := by
      rw [wholeFrame_wire]; exact TxFrame.wire_good hbody
    rw [exec_frameEnd ha harr, endFrame_good s hgood, wholeFrame_wire, TxFrame.storedFrame_wire hbody]
    rfl
  · have hbad : frameGood (wholeFrame h rest) = false := by
      refine Bool.eq_false_iff.mpr fun hgood => ?_
      obtain ⟨hshort, hlong, hlen, hcheck⟩ := frameGood_wholeFrame hgood
      rcases hfails with hf | hf | hf | hf | hf
      · omega
      · omega
      · exact hf hlen
      · exact hf hcheck
      · rw [hgood] at hf; cases hf
    obtain ⟨hnone, hstored, hcount, hgoods, hsource⟩ := occupancyFell_leaves (badFrameCounted s)
    refine ⟨_, by rw [exec_frameEnd ha harr, endFrame_bad s hbad], hnone, hstored, hcount, hgoods, fun h24 => ?_,
      fun hstay => ?_, fun hhold hlow => ?_, ?_⟩
    · rw [hsource _ (by decide)]
      exact badFrameCounted_raised h24
    · rw [occupancyFell_kept (s := badFrameCounted s) (by rw [badFrameCounted_occupancy]; exact hstay)]
      exact ⟨rfl, rfl⟩
    · rw [occupancyFell_released (s := badFrameCounted s) hhold (by rw [badFrameCounted_occupancy]; exact hlow)]
      exact ⟨rfl, rfl, rfl, clearLevel_source_self ..⟩
    · exact occupancyFell_frame (badFrameCounted s)

/-! ## HOLD_REPEAT_TIMER (09 R156, R157) -/

theorem exec_holdRepeatTimer {s : State} (h : Awake s) (hhold : s.link.hold = .holding) :
    exec .holdRepeatTimer s =
      .next (if s.stations.settings.holdLow ≤ occupancy s then armHold s else releaseHold s) := by
  show execHoldRepeatTimer s = _
  simp [execHoldRepeatTimer, awake_iff.mpr h, hhold]

/-- Settles O47, by whether occupancy has fallen below HOLD_LOW. -/
theorem holdRepeatsOrReleases : Obligations.HoldRepeatsOrReleases := by
  intro s h hhold
  rw [exec_holdRepeatTimer h hhold]
  refine ⟨fun hle => ?_, fun hlt => ?_⟩
  · rw [if_pos hle]; rfl
  · rw [if_neg (Nat.not_le.mpr hlt)]; rfl

end Sys2Proof.Machine
end

section
/-! PROOFS. The transmit side of the Link Port: the arbiter's order (O48), the end of a sent frame and the link's changes
(O49). STATUS (O26). -/

namespace Sys2Proof.Machine

/-! ## The transmitter (09 R154) -/

theorem canSend_of_maySend {s : State} (h : MaySend s) : canSend s = true := by
  obtain ⟨ha, hup, hfree⟩ := h
  simp [canSend, awake_iff.mpr ha, hup, hfree]

/-- Nothing is taken while the link is down. -/
theorem canSend_of_down {s : State} (h : s.link.up = false) : canSend s = false := by simp [canSend, h]

theorem execSendHold_blocked {s : State} (h : canSend s = false) : execSendHold s = .next s := by
  unfold execSendHold
  split <;> simp [h]

/-- SEND_EXPIRE waits for a free transmitter and for the HOLD value. -/
theorem execSendExpire_blocked {s : State} (h : canSend s = false ∨ s.link.pendingHold.isNone = false) :
    execSendExpire s = .next s := by
  unfold execSendExpire
  split
  · rw [if_neg]
    rcases h with h | h <;> simp [h]
  · rfl

/-- SEND_ANSWER waits for the expire list as well. -/
theorem execSendAnswer_blocked {s : State}
    (h : canSend s = false ∨ s.link.pendingHold.isNone = false ∨ s.grants.expireList.isEmpty = false) :
    execSendAnswer s = .next s := by
  unfold execSendAnswer
  split
  · rw [if_neg]
    rcases h with h | h | h <;> simp [h]
  · rfl

/-- SEND_NOTICE waits for the answer queue as well. -/
theorem execSendNotice_blocked {s : State}
    (h : canSend s = false ∨ s.link.pendingHold.isNone = false ∨ s.grants.expireList.isEmpty = false ∨
      s.link.answers.isEmpty = false) : execSendNotice s = .next s := by
  unfold execSendNotice
  split
  · rw [if_neg]
    rcases h with h | h | h | h <;> simp [h]
  · rfl

theorem exec_sendHold {s : State} {v : Nat} (h : MaySend s) (hv : s.link.pendingHold = some v) :
    exec .sendHold s = .next (sendHoldValue v s) := by
  show execSendHold s = _
  simp [execSendHold, hv, canSend_of_maySend h]

theorem exec_sendExpire {s : State} {g : Nat} {rest : List Nat} (h : MaySend s) (hv : s.link.pendingHold = none)
    (hlist : s.grants.expireList = g :: rest) : exec .sendExpire s = .next (sendExpireFor g s) := by
  show execSendExpire s = _
  simp [execSendExpire, hlist, hv, canSend_of_maySend h]

theorem exec_sendAnswer {s : State} {a : Answer} {rest : List Answer} (h : MaySend s)
    (hv : s.link.pendingHold = none) (hlist : s.grants.expireList = []) (hans : s.link.answers = a :: rest) :
    exec .sendAnswer s = .next (startSending a.dst answerKind a.tag a.body
      { s with link := { s.link with answers := rest } }) := by
  show execSendAnswer s = _
  simp [execSendAnswer, hans, hlist, hv, canSend_of_maySend h]

theorem exec_sendNotice {s : State} {n : Nat} (h : MaySend s) (hv : s.link.pendingHold = none)
    (hlist : s.grants.expireList = []) (hans : s.link.answers = []) (hfirst : firstPending s.attention = some n) :
    exec .sendNotice s = .next (startSending 0xFFFD noticeKind 0 (noticeBody n s)
      (s.modSource n fun c => { c with pending := false })) := by
  show execSendNotice s = _
  simp [execSendNotice, hfirst, hans, hlist, hv, canSend_of_maySend h]

/-! ## The expiry taken (06 R105) -/

/-- An entry is freed without a look at the Link Port. -/
theorem freeEntry_withLink {i : Nat} {e : ParcelEntry} (l : LinkPort) {s : State} (h : s.entry i = some e) :
    freeEntry i { s with link := l } = { freeEntry i s with link := l } := by
  have hlinked : ({ s with link := l } : State).entry i = some e := h
  simp only [freeEntry, eraseEntry, h, hlinked]
  rfl

/-- A count falls without a look at the Link Port. -/
theorem countDown_withLink (i : Nat) (l : LinkPort) (s : State) :
    countDown i { s with link := l } = { countDown i s with link := l } := by
  cases h : s.entry i with
  | none =>
    have hlinked : ({ s with link := l } : State).entry i = none := h
    simp only [countDown, h, hlinked]
  | some e =>
    rw [countDown_eq h, countDown_eq (s := { s with link := l }) h]
    split
    · exact freeEntry_withLink l (e := { e with grantCount := e.grantCount - 1 })
        (by rw [State.entry_setEntry, if_pos ⟨rfl, State.entry_lt h⟩])
    · rfl

theorem freeGrant_withLink {g : Nat} {r : Grant} (l : LinkPort) {s : State} (h : s.grant g = some r) :
    freeGrant g { s with link := l } = { freeGrant g s with link := l } := by
  rw [freeGrant_eq h, freeGrant_eq (s := { s with link := l }) h]
  exact countDown_withLink r.parcel l (withoutGrant g s)

/-- The frame of an expiry goes out with what stands at the take, and the record is freed. -/
theorem sendExpireFor_eq {g : Nat} {r : Grant} {why : Reason} {e : Station} {s : State} (hr : s.grant g = some r)
    (hwhy : r.state = .expiring why) (he : s.station r.station = some e) :
    sendExpireFor g s = { freeGrant g s with link := { s.link with sending := (some
      { dst := e.base, src := s.ownAddr, kind := 0x03, tag := 0,
        body := [byte1 g, byte1 (s.grants.gens.getD g 0), why.value] ++ beBytes 4 r.x ++
          beBytes 4 s.clock.boothTime }) } } := by
  have hbase : baseOf r.station s = e.base := by simp [baseOf, he]
  have hreason : expiryReason r = why := by simp [expiryReason, hwhy]
  simp only [sendExpireFor, hr, hbase, expireBody, hreason]
  exact freeGrant_withLink _ hr

/-! ## The notice taken (10 R165) -/

/-- The lowest-numbered source whose flag is set. -/
theorem firstPending_eq_some {a : Attention} {n : Nat} {c : Source} (hc : a.sources[n]? = some c)
    (hp : c.pending = true) (hlow : ∀ m b, m < n → a.sources[m]? = some b → b.pending = false) :
    firstPending a = some n := by
  obtain ⟨hn, hget⟩ := List.getElem?_eq_some_iff.mp hc
  rw [firstPending, List.findIdx?_eq_some_iff_getElem]
  refine ⟨hn, by rw [hget]; exact hp, fun m hm => ?_⟩
  rw [hlow m _ hm (List.getElem?_eq_getElem (hm.trans hn))]
  decide

theorem State.source_eq {s : State} {n : Nat} {c : Source} (h : s.attention.sources[n]? = some c) : s.source n = c := by
  rw [State.source, List.getD_eq_getElem?_getD, h, Option.getD_some]

/-- A change of a source that stands is the source written anew. -/
theorem State.modSource_eq_set {s : State} {n : Nat} {c : Source} (f : Source → Source)
    (h : s.attention.sources[n]? = some c) : s.modSource n f =
      { s with attention := { s.attention with sources := s.attention.sources.set n (f c) } } := by
  rw [State.modSource, List.modify_eq_set_getElem?, h]; rfl

/-- Settles O48: each send takes what stands at its front, or waits for what comes before it. -/
theorem sendsInTheArbitersOrder : Obligations.SendsInTheArbitersOrder := by
  intro s h
  refine ⟨fun v hv => ?_, fun hv => ⟨fun g rest r why e hlist hr hwhy he => ?_, fun hlist => ⟨fun a rest hans => ?_,
    fun hans n c hc hp hlow => ?_⟩⟩⟩
  · have hpending : s.link.pendingHold.isNone = false := by rw [hv]; rfl
    exact ⟨exec_sendHold h hv, execSendExpire_blocked (.inr hpending), execSendAnswer_blocked (.inr (.inl hpending)),
      execSendNotice_blocked (.inr (.inl hpending))⟩
  · have hexpiry : s.grants.expireList.isEmpty = false := by rw [hlist]; rfl
    refine ⟨⟨freeGrant g s, ?_, freeGrant_recordFreed hr, freeGrant_only g s⟩,
      execSendAnswer_blocked (.inr (.inr hexpiry)), execSendNotice_blocked (.inr (.inr (.inl hexpiry)))⟩
    rw [exec_sendExpire h hv hlist, sendExpireFor_eq hr hwhy he]
  · have hanswer : s.link.answers.isEmpty = false := by rw [hans]; rfl
    exact ⟨exec_sendAnswer h hv hlist hans, execSendNotice_blocked (.inr (.inr (.inr hanswer)))⟩
  · rw [exec_sendNotice h hv hlist hans (firstPending_eq_some hc hp hlow), State.modSource_eq_set _ hc, noticeBody,
      State.source_eq hc]
    rfl

/-! ## The end of a sent frame, and the link (09 R154, R155) -/

theorem isRestartOk_eq_false {f : TxFrame} (h : f.kind ≠ 0x01 ∨ f.body.take 2 ≠ [0x00, 0x7F]) :
    isRestartOk f = false := by
  rcases h with h | h
  · exact Bool.and_eq_false_imp.mpr fun hk => absurd (beq_iff_eq.mp hk) h
  · exact Bool.and_eq_false_iff.mpr (.inr (beq_eq_false_iff_ne.mpr h))

theorem exec_transmitFrameEnd {s : State} {f : TxFrame} (h : Awake s) (hf : s.link.sending = some f) :
    exec .transmitFrameEnd s = .next (finishSending f s) := by
  show execTransmitFrameEnd s = _
  simp [execTransmitFrameEnd, hf, awake_iff.mpr h]

/-- A header that begins while the link is down is not judged. -/
theorem exec_frameHeader_down {s : State} (h : s.link.up = false) (dst src : Addr) :
    exec (.frameHeader dst src) s = .next s := by
  show execFrameHeader dst src s = _
  simp [execFrameHeader, h]

/-- Settles O49: an ordinary frame frees the transmitter; with the link down nothing is taken and no header judged. -/
theorem sendingEndsAndLinkChanges : Obligations.SendingEndsAndLinkChanges := by
  refine ⟨fun s f h hf hplain => ?_, fun s => ⟨rfl, rfl, fun hdown => ?_⟩⟩
  · rw [exec_transmitFrameEnd h hf, finishSending, isRestartOk_eq_false hplain]; rfl
  · have hblocked := canSend_of_down hdown
    exact ⟨execSendHold_blocked hblocked, execSendExpire_blocked (.inl hblocked),
      execSendAnswer_blocked (.inl hblocked), execSendNotice_blocked (.inl hblocked), exec_frameHeader_down hdown⟩

/-! ## STATUS (09 R159) -/

/-- STATUS has one check, the length of its body, and else answers. -/
theorem exec_status {s : State} {src : Addr} {who : Sender} (h : MayPost s) (hm : matchSource s src = some who)
    (tag : Byte) (body : List Byte) : exec (.status src tag body) s = .next
      (if body = [] then answered s src tag .status .ok (statusDetail s)
       else answered s src tag .status .malformed [1]) := by
  have howner := exec_requestRow .status src tag body s
  rw [takeRequest_matched h hm] at howner
  refine howner.trans ?_
  cases body <;> rfl

theorem statusDetail_length (s : State) : (statusDetail s).length = 36 := by
  simp only [statusDetail, List.length_append, List.length_cons, List.length_nil, beBytes_length]

/-- Settles O26: the detail's fields at their offsets, and the one refusal. -/
theorem statusReports : Obligations.StatusReports := by
  intro src tag s who h hm
  refine ⟨⟨statusDetail s, ?_, statusDetail_length s, rfl, rfl, rfl, rfl, rfl, rfl, rfl, rfl, rfl, rfl⟩,
    fun body hbody => ?_⟩
  · rw [exec_status h hm, if_pos rfl]
  · rw [exec_status h hm, if_neg hbody]

end Sys2Proof.Machine
end

section
/-! PROOFS. FRAME_TAKE (O19): the relation `FramesStay`, which every request keeps. -/

namespace Sys2Proof.Machine

/-! ## What a request leaves -/

/-- The frames received and arriving stay as they were, and so does the queue of commands. -/
structure FramesStay (s t : State) : Prop where
  stored : t.link.stored = s.link.stored
  arriving : t.link.arriving = s.link.arriving
  pending : t.pending = s.pending

theorem FramesStay.refl (s : State) : FramesStay s s := ⟨rfl, rfl, rfl⟩

theorem FramesStay.trans {s t u : State} (h : FramesStay s t) (k : FramesStay t u) : FramesStay s u :=
  ⟨k.stored.trans h.stored, k.arriving.trans h.arriving, k.pending.trans h.pending⟩

theorem FramesStay.reply {s t : State} (h : FramesStay s t) {f : Frame} {r : Reply} : FramesStay s (reply f r t) :=
  ⟨h.stored, h.arriving, h.pending⟩

theorem OnlyDeadlineWork.framesStay {s t : State} (h : OnlyDeadlineWork s t) : FramesStay s t :=
  ⟨congrArg LinkPort.stored h.link, congrArg LinkPort.arriving h.link, h.pending⟩

theorem occupancyFell_framesStay (s : State) : FramesStay s (occupancyFell s) := by
  rw [occupancyFell_eq]
  split
  · exact ⟨rfl, rfl, rfl⟩
  · exact .refl s

/-! ## What requests do past their checks -/

theorem withdraw_framesStay (f : Frame) (s : State) : FramesStay s (withdraw f s) := by
  unfold withdraw
  dsimp only
  split
  · split
    · unfold withdrawStaged
      split
      · dsimp only
        split <;> exact ⟨rfl, rfl, rfl⟩
      · exact ⟨rfl, rfl, rfl⟩
      · exact .refl s
    · exact .refl s
  · split
    · unfold withdrawCommitted
      split
      · exact (freeEntry_only ..).deadlineWork.framesStay.reply
      · exact ((withdrawEntry_only ..).deadlineWork.trans (forceExpiry_work ..)).framesStay.reply
    · exact ⟨rfl, rfl, rfl⟩

theorem admitOpen_framesStay (slot : Nat) (e : Station) (f : Frame) (s : State) :
    FramesStay s (admitOpen slot e f s) := by
  unfold admitOpen
  dsimp only
  split
  · exact ⟨rfl, rfl, rfl⟩
  · split <;> exact ⟨rfl, rfl, rfl⟩

theorem closeGrant_framesStay (who : Sender) (f : Frame) (s : State) : FramesStay s (closeGrant who f s) := by
  unfold closeGrant
  dsimp only
  split
  · exact .refl s
  · refine FramesStay.reply ?_
    rw [freeGrant_only _ s]
    exact ⟨rfl, rfl, rfl⟩

theorem extendGrant_framesStay (who : Sender) (f : Frame) (s : State) : FramesStay s (extendGrant who f s) := by
  unfold extendGrant
  dsimp only
  split
  · exact .refl s
  · split <;> exact ⟨rfl, rfl, rfl⟩

theorem applyTrim_framesStay (d : Int) (s : State) : FramesStay s (applyTrim d s) := by
  have hmoved : ∀ a, FramesStay s (handTrim a (moveBooth a s)) := fun a => by
    refine FramesStay.trans ?_ (handTrim_work ..).framesStay
    rw [moveBooth_eq]
    exact ⟨rfl, rfl, rfl⟩
  unfold applyTrim
  dsimp only
  split
  · exact hmoved _
  · exact (hmoved _).trans (raisePulse_work ..).framesStay

theorem establishTime_framesStay (v : Nat) (s : State) : FramesStay s (establishTime v s) := by
  unfold establishTime
  exact FramesStay.trans ⟨by rfl, by rfl, by rfl⟩ (rebuildList_work ..).framesStay

theorem enrol_framesStay (f : Frame) (s : State) : FramesStay s (enrol f s) := by
  unfold enrol
  dsimp only
  split <;> exact ⟨rfl, rfl, rfl⟩

theorem stopScreen_framesStay (slot : Nat) (s : State) : FramesStay s (stopScreen slot s) := by
  have hrefused : FramesStay s (refuseWaiting (fun w => w.station == slot) .suspended s) := ⟨rfl, rfl, rfl⟩
  exact hrefused.trans (forceExpiry_work ..).framesStay

theorem suspend_framesStay (f : Frame) (s : State) : FramesStay s (suspend f s) := by
  unfold suspend
  split
  · unfold suspendStation
    split
    · exact ⟨rfl, rfl, rfl⟩
    · dsimp only
      split
      · refine FramesStay.reply (.trans ?_ (stopScreen_framesStay ..))
        exact ⟨rfl, rfl, rfl⟩
      · exact ⟨rfl, rfl, rfl⟩
  · exact .refl s

theorem resume_framesStay (f : Frame) (s : State) : FramesStay s (resume f s) := by
  unfold resume
  split <;> exact ⟨rfl, rfl, rfl⟩

theorem giveRank_framesStay (f : Frame) (s : State) : FramesStay s (giveRank f s) := by
  unfold giveRank
  split <;> exact ⟨rfl, rfl, rfl⟩

theorem enterMode_framesStay (m : Mode) (s : State) : FramesStay s (enterMode m s).1 := by
  unfold enterMode
  split
  · exact .refl s
  · split
    · split <;> exact ⟨rfl, rfl, rfl⟩
    · split
      · exact .refl s
      · split <;> exact ⟨rfl, rfl, rfl⟩

theorem modeChangeTo_framesStay (m : Mode) (f : Frame) (s : State) : FramesStay s (modeChangeTo m f s) := by
  refine FramesStay.reply ?_
  unfold evaluateModeChange
  split
  · exact ⟨rfl, rfl, rfl⟩
  · split
    · refine FramesStay.trans ?_ (enterMode_framesStay ..)
      exact ⟨rfl, rfl, rfl⟩
    · exact ⟨rfl, rfl, rfl⟩

theorem readNotices_framesStay (f : Frame) (s : State) : FramesStay s (readNotices f s) := by
  unfold readNotices
  dsimp only
  split <;> exact ⟨rfl, rfl, rfl⟩

/-! ## Every request -/

/-- An owner leaves the frames and the queue of commands. -/
def OwnerLeavesFrames (owner : Owner) : Prop := ∀ who f s, FramesStay s (owner who f s)

/-- A checked request answers a refusal or acts. -/
theorem ownChecked_framesStay {cs : Sender → Frame → State → List (Bool × Reply)}
    {act : Sender → Frame → State → State} (h : ∀ who f s, FramesStay s (act who f s)) :
    OwnerLeavesFrames fun who f s => checked f (cs who f s) (act who f) s := fun who f s => by
  rcases checked_cases f (cs who f s) (act who f) s with ⟨r, -, he⟩ | he <;> dsimp only <;> rw [he]
  · exact ⟨rfl, rfl, rfl⟩
  · exact h who f s

theorem ownerOf_framesStay (k : Kind) : OwnerLeavesFrames (ownerOf k) := by
  cases k with
  | parcelWithdraw => exact ownChecked_framesStay fun _ => withdraw_framesStay
  | openKeys =>
    refine ownChecked_framesStay fun who f s => ?_
    split
    · exact admitOpen_framesStay ..
    · exact .refl s
  | close => exact ownChecked_framesStay closeGrant_framesStay
  | extend => exact ownChecked_framesStay extendGrant_framesStay
  | timeTrim => exact ownChecked_framesStay fun _ _ s => (applyTrim_framesStay _ s).reply
  | timeSet => exact ownChecked_framesStay fun _ _ s => (establishTime_framesStay _ s).reply
  | stationEnrol => exact ownChecked_framesStay fun _ => enrol_framesStay
  | stationSuspend => exact ownChecked_framesStay fun _ => suspend_framesStay
  | stationResume => exact ownChecked_framesStay fun _ => resume_framesStay
  | stationRank => exact ownChecked_framesStay fun _ => giveRank_framesStay
  | modeChange =>
    refine ownChecked_framesStay fun _ f s => ?_
    split
    · exact modeChangeTo_framesStay ..
    · exact .refl s
  | noticeRead => exact ownChecked_framesStay fun _ => readNotices_framesStay
  | status | parcelLoad | parcelList | grantList | stationRetire | stationList | modeKey | settingWrite | settingRead
  | zeroize | noticeConfig | selfTest | restart => exact ownChecked_framesStay fun _ _ _ => ⟨rfl, rfl, rfl⟩

theorem ownerOfFrame_framesStay (f : Frame) : OwnerLeavesFrames (ownerOfFrame f) := by
  unfold ownerOfFrame
  split
  · exact ownerOf_framesStay _
  · exact fun _ _ _ => ⟨rfl, rfl, rfl⟩

/-- The decoder discards a stranger or runs the owner: either leaves the frames that still wait. -/
theorem settle_framesStay {owner : Owner} (h : OwnerLeavesFrames owner) (f : Frame) (s : State) :
    FramesStay s (settle owner f s) := by
  unfold settle
  split
  · exact ⟨rfl, rfl, rfl⟩
  · exact h _ f s

/-! ## FRAME_TAKE (09 R152) -/

/-- The state in which the oldest stored frame has left its slot, and occupancy has fallen. -/
def slotFreed (rest : List Frame) (s : State) : State :=
  occupancyFell { s with link := { s.link with stored := rest } }

theorem slotFreed_framesStay (rest : List Frame) (s : State) :
    FramesStay { s with link := { s.link with stored := rest } } (slotFreed rest s) := occupancyFell_framesStay _

/-- A free answer place stays free, and the part awake. -/
theorem slotFreed_mayPost {s : State} (h : MayPost s) (rest : List Frame) : MayPost (slotFreed rest s) := by
  unfold slotFreed
  rw [occupancyFell_eq]
  split <;> exact h

theorem exec_frameTake {s : State} {f : Frame} {rest : List Frame} (h : MayPost s)
    (hs : s.link.stored = f :: rest) :
    exec .frameTake s = .next (settle (ownerOfFrame f) f (slotFreed rest s)) := by
  have htake : takeFrame f s = settle (ownerOfFrame f) f (slotFreed rest s) := by rw [takeFrame, hs]; rfl
  show execFrameTake s = _
  simp [execFrameTake, hs, canTake_of_mayPost h, htake]

theorem ownerOfFrame_of_kind {f : Frame} {k : Kind} (h : kindOf f.kind = some k) : ownerOfFrame f = ownerOf k := by
  simp only [ownerOfFrame, h]

theorem ownerOfFrame_unknown {f : Frame} (h : kindOf f.kind = none) : ownerOfFrame f = ownUnknownKind := by
  simp only [ownerOfFrame, h]

/-- A kind byte that names a request kind is that kind's value. -/
theorem value_of_kindOf {b : Byte} {k : Kind} (h : kindOf b = some k) : k.value = b := by
  simpa using List.find?_some h

/-- The row of a request kind settles its frame, where the decoder may take it. -/
theorem exec_requestRow_settles {s : State} (h : MayPost s) (k : Kind) (src : Addr) (tag : Byte) (body : List Byte) :
    exec (requestRow k src tag body) s =
      .next (settle (ownerOf k) { src := src, kind := k.value, tag := tag, body := body } s) := by
  rw [exec_requestRow, takeRequest, if_pos (canTake_of_mayPost h)]

theorem exec_unknownKind_settles {s : State} (h : MayPost s) (src : Addr) (tag : Byte) {kind : Byte}
    (hkind : kindOf kind = none) (body : List Byte) : exec (.unknownKind src tag kind body) s =
      .next (settle ownUnknownKind { src := src, kind := kind, tag := tag, body := body } s) := by
  show execUnknownKind src tag kind body s = _
  simp [execUnknownKind, canTake_of_mayPost h, hkind]

/-- Settles O19: the take and the row settle one frame on one state, and no owner touches the frames that wait. -/
theorem frameTakeSettlesTheOldestFrame : Obligations.FrameTakeSettlesTheOldestFrame := by
  intro s f rest h hs
  have hfreed : MayPost (occupancyFell { s with link := { s.link with stored := rest } }) := slotFreed_mayPost h rest
  rw [exec_frameTake h hs]
  refine ⟨fun k hk => ?_, fun hk => ?_, _, rfl, ?_⟩
  · rw [exec_requestRow_settles hfreed, ownerOfFrame_of_kind hk, value_of_kindOf hk]
    rfl
  · rw [exec_unknownKind_settles hfreed _ _ hk, ownerOfFrame_unknown hk]
    rfl
  · obtain ⟨hstored, harriving, hpending⟩ :=
      (slotFreed_framesStay rest s).trans (settle_framesStay (ownerOfFrame_framesStay f) f _)
    exact ⟨hstored, harriving, hpending⟩

end Sys2Proof.Machine
end

section
/-! PROOFS. ATTN_N (O24) and NOTICE_READ (O42). -/

namespace Sys2Proof.Machine

/-! ## ATTN_N (10 R164) -/

theorem Source.outstanding_iff {c : Source} {threshold : Nat} : c.outstanding threshold = true ↔
    c.status = true ∧ c.enable = true ∧ ((c.mask = false ∧ threshold < c.level) ∨ c.level = 7) := by
  simp only [Source.outstanding, Bool.and_eq_true, Bool.or_eq_true, Bool.not_eq_true', decide_eq_true_eq, beq_iff_eq,
    and_assoc]

/-- Settles O24, from what makes one source outstanding. -/
theorem attentionOutput : Obligations.AttentionOutput := by
  intro s
  rw [State.attnLow, Bool.and_eq_true, awake_iff, List.any_eq_true]
  simp only [Source.outstanding_iff]

/-! ## Pieces of one length (12 Table 12.9) -/

/-- Of pieces of one length behind `pre`, the field at the `n`-th piece's offset is that piece. -/
theorem field_flatMap {α : Type} {f : α → List Byte} {k : Nat} (hf : ∀ a, (f a).length = k) {l : List α} {n : Nat}
    (h : n < l.length) (pre post : List Byte) :
    field (pre ++ (l.flatMap f ++ post)) (pre.length + k * n) k = f l[n] := by
  have hsplit : l.flatMap f = (l.take n).flatMap f ++ (f l[n] ++ (l.drop (n + 1)).flatMap f) := by
    conv_lhs => rw [← List.take_append_drop n l, List.drop_eq_getElem_cons h, List.flatMap_append, List.flatMap_cons]
  refine field_of_eq (pre := pre ++ (l.take n).flatMap f) (post := (l.drop (n + 1)).flatMap f ++ post) ?_ ?_ (hf _)
  · simp only [hsplit, List.append_assoc]
  · rw [List.length_append, length_flatMap_of_forall hf, List.length_take, Nat.min_eq_left h.le]

theorem State.source_eq_getElem {s : State} {n : Nat} (h : n < s.attention.sources.length) :
    s.source n = s.attention.sources[n] := State.source_eq (List.getElem?_eq_getElem h)

/-! ## NOTICE_READ (10 R166) -/

theorem sourceBytes_length (c : Source) : (sourceBytes c).length = 6 := rfl

theorem noticeReadDetail_length (s : State) :
    (noticeReadDetail s).length = 6 * s.attention.sources.length + 2 := by
  rw [noticeReadDetail, List.length_append, length_flatMap_of_forall sourceBytes_length]
  rfl

/-- The detail holds six bytes of each source, in number order. -/
theorem noticeReadDetail_field {s : State} {n : Nat} (h : n < s.attention.sources.length) :
    field (noticeReadDetail s) (6 * n) 6 = sourceBytes (s.source n) := by
  rw [State.source_eq_getElem h]
  simpa [noticeReadDetail] using
    field_flatMap sourceBytes_length h [] [byte1 s.attention.threshold, flagByte s.attnLow]

theorem noticeReadDetail_end {s : State} (h : s.attention.sources.length = 24) :
    (noticeReadDetail s).drop 144 = [byte1 s.attention.threshold, flagByte s.attnLow] :=
  List.drop_left' (by rw [length_flatMap_of_forall sourceBytes_length, h])

/-- A clear moves each status to history, and clears it from source 7 on. -/
theorem clearPulses_source {s t : State} (ht : t.attention = clearPulses s.attention) {n : Nat}
    (h : n < s.attention.sources.length) : t.source n =
      { s.source n with history := (s.source n).status, status := (s.source n).status && decide (n < 7) } := by
  have hpulse : (!isPulse n) = decide (n < 7) := decide_not.symm.trans (decide_eq_decide.mpr Nat.not_le)
  rw [State.source_eq_getElem h, ← hpulse]
  exact State.source_eq (by simp [ht, clearPulses, h])

/-- A NOTICE_READ that 08 Table 8.2 permits is read, and cleared when its field asks for it. -/
theorem exec_noticeRead {s : State} {src : Addr} {who : Sender} {body : List Byte} (h : Served s src who)
    (henrolled : who.isSuspended = false) (hrole : permitted .noticeRead body who.role = true)
    (hform : (formCheck (lengthThen 1 body (num body 0 1 < 2))).1 = false) (tag : Byte) :
    exec (.noticeRead src tag body) s =
      .next (readNotices { src := src, kind := Kind.noticeRead.value, tag := tag, body := body } s) := by
  refine exec_passed h .noticeRead tag body rfl ?_
  simp only [noticeReadChecks, noticeRead_refuses, List.forall_mem_cons]
  exact ⟨sealedCheck_passed h, by rw [hrole]; rfl, suspendedCheck_passed henrolled, hform, nofun⟩

/-- Settles O42: the detail is made before the clear, and a clear touches the notice sources alone. -/
theorem noticesRead : Obligations.NoticesRead := by
  intro src tag s who h henrolled h24
  refine ⟨noticeReadDetail s, by rw [noticeReadDetail_length, h24], noticeReadDetail_end h24,
    fun n hn => noticeReadDetail_field (h24 ▸ hn), fun hrole => ?_, fun hrole => ?_⟩
  · have hpermitted : permitted .noticeRead [0] who.role = true := by
      cases hr : who.role with
      | screen => exact absurd hr hrole
      | programming | monitor => rfl
    exact exec_noticeRead h henrolled hpermitted rfl tag
  · have hpermitted : permitted .noticeRead [1] who.role = true := by rw [hrole]; rfl
    exact ⟨_, exec_noticeRead h henrolled hpermitted rfl tag, rfl, rfl,
      fun n hn => clearPulses_source rfl (h24 ▸ hn)⟩

end Sys2Proof.Machine
end

section
/-! PROOFS. NOTICE_CONFIG (O43). -/

namespace Sys2Proof.Machine

/-! ## The entries of a well-formed body (10 R167) -/

theorem distinct_iff_nodup {α : Type} [DecidableEq α] (l : List α) : distinct l = true ↔ l.Nodup := by
  induction l with
  | nil => simp [distinct]
  | cons a l ih => simp [distinct, ih]

/-- A well-formed body names sources that there are, each once, with enable and mask of 0 or 1. -/
theorem configForm_eq_none {body : List Byte} (h : configForm body = none) :
    (∀ e ∈ configEntries body, e.number < 24 ∧ e.enable < 2 ∧ e.mask < 2) ∧
      ((configEntries body).map (·.number)).Nodup := by
  unfold configForm at h
  split_ifs at h with _ hentries
  simpa [distinct_iff_nodup, and_assoc] using hentries

/-! ## One source under the entries -/

/-- `d` is what source `n`, which was `c`, becomes under the entries: its own configures it, no other does (10 R165,
R167). -/
structure ConfiguredBy (es : List ConfigEntry) (n : Nat) (c d : Source) : Prop where
  status : d.status = c.status
  history : d.history = c.history
  named : ∀ e ∈ es, e.number = n →
    d.enable = (e.enable == 1) ∧ d.mask = (e.mask == 1) ∧ d.level = storedLevel n e.level
  unnamed : (∀ e ∈ es, e.number ≠ n) → d.enable = c.enable ∧ d.mask = c.mask ∧ d.level = c.level
  pending : d.pending = true ↔ c.pending = true ∧ ∀ e ∈ es, e.number = n → e.enable = 1

theorem applyEntries_cons (e : ConfigEntry) (es : List ConfigEntry) (l : List Source) :
    applyEntries (e :: es) l = applyEntries es (l.modify e.number (configured e)) := rfl

theorem getElem?_applyEntries_unnamed {es : List ConfigEntry} {n : Nat} (h : ∀ e ∈ es, e.number ≠ n)
    (l : List Source) : (applyEntries es l)[n]? = l[n]? := by
  induction es generalizing l with
  | nil => rfl
  | cons e es ih =>
    obtain ⟨hne, hrest⟩ := List.forall_mem_cons.mp h
    rw [applyEntries_cons, ih hrest, List.getElem?_modify_ne _ _ hne]

theorem getElem?_applyEntries_named {es : List ConfigEntry} (hn : (es.map (·.number)).Nodup) {e : ConfigEntry}
    (he : e ∈ es) (l : List Source) : (applyEntries es l)[e.number]? = l[e.number]?.map (configured e) := by
  induction es generalizing l with
  | nil => exact nomatch he
  | cons f es ih =>
    obtain ⟨hf, hes⟩ := List.nodup_cons.mp hn
    have hothers : ∀ g ∈ es, g.number ≠ f.number := fun g hg heq => hf (List.mem_map.mpr ⟨g, hg, heq⟩)
    rw [applyEntries_cons]
    rcases List.mem_cons.mp he with rfl | he
    · rw [getElem?_applyEntries_unnamed hothers, List.getElem?_modify_eq]; rfl
    · rw [ih hes he, List.getElem?_modify_ne _ _ (hothers e he).symm]

/-- Every source that there is is configured by the entries, whether one names it or none. -/
theorem applyEntries_configuredBy {es : List ConfigEntry} (hn : (es.map (·.number)).Nodup) {l : List Source} {n : Nat}
    {c : Source} (hc : l[n]? = some c) : ∃ d, (applyEntries es l)[n]? = some d ∧ ConfiguredBy es n c d := by
  by_cases hnamed : ∃ e ∈ es, e.number = n
  · obtain ⟨e, he, rfl⟩ := hnamed
    have honly : ∀ f ∈ es, f.number = e.number → f = e := fun f hf => List.inj_on_of_nodup_map hn hf he
    refine ⟨configured e c, by rw [getElem?_applyEntries_named hn he, hc]; rfl, rfl, rfl, fun f hf heq => ?_,
      fun hno => absurd rfl (hno e he), ?_⟩
    · rw [honly f hf heq]; exact ⟨rfl, rfl, rfl⟩
    · rw [show (configured e c).pending = (c.pending && e.enable == 1) from rfl, Bool.and_eq_true, beq_iff_eq]
      exact and_congr_right fun _ => ⟨fun h f hf heq => honly f hf heq ▸ h, fun h => h e he rfl⟩
  · have hno : ∀ e ∈ es, e.number ≠ n := fun e he heq => hnamed ⟨e, he, heq⟩
    exact ⟨c, by rw [getElem?_applyEntries_unnamed hno, hc], rfl, rfl, fun e he heq => absurd heq (hno e he),
      fun _ => ⟨rfl, rfl, rfl⟩, fun h => ⟨h, fun e he heq => absurd heq (hno e he)⟩, And.left⟩

/-! ## The attention state after the request (10 R165, R167) -/

theorem configureAttention_length (body : List Byte) (a : Attention) :
    (configureAttention body a).sources.length = a.sources.length := by
  unfold configureAttention
  dsimp only
  split <;> simp [flagLevelSeven, applyEntries_length]

theorem configureAttention_threshold (body : List Byte) (a : Attention) : (configureAttention body a).threshold =
    if num body 0 1 = 255 then a.threshold else min 7 (num body 0 1) := by
  unfold configureAttention
  dsimp only
  split
  · rename_i hkeep; exact (if_pos hkeep).symm
  · rename_i hwrite; exact (if_neg hwrite).symm

/-- A source is configured by the entries; then a write of the threshold flags it at level 7, raised and enabled. -/
theorem configureAttention_source {body : List Byte} {s t : State}
    (ht : t.attention = configureAttention body s.attention) (hform : configForm body = none) {n : Nat}
    (h : n < s.attention.sources.length) : ∃ d, ConfiguredBy (configEntries body) n (s.source n) d ∧
      t.source n = { d with pending :=
        d.pending || (num body 0 1 != 255 && d.level == 7 && d.status && d.enable) } := by
  obtain ⟨d, hd, hconf⟩ := applyEntries_configuredBy (configForm_eq_none hform).2 (List.getElem?_eq_getElem h)
  rw [← State.source_eq_getElem h] at hconf
  refine ⟨d, hconf, State.source_eq ?_⟩
  rw [ht]
  unfold configureAttention
  dsimp only
  split <;> rename_i hth
  · rw [hd, show num body 0 1 = 255 from hth]; simp
  · have hwrite : (num body 0 1 != 255) = true := bne_iff_ne.mpr hth
    simp [flagLevelSeven, hd, hwrite]

/-! ## The answer (12 Table 12.9) -/

/-- The three bytes of a source's configuration. -/
def configBytes (c : Source) : List Byte := [flagByte c.enable, flagByte c.mask, byte1 c.level]

theorem configBytes_length (c : Source) : (configBytes c).length = 3 := rfl

theorem noticeConfigDetail_eq (a : Attention) :
    noticeConfigDetail a = [byte1 a.threshold] ++ a.sources.flatMap configBytes := rfl

theorem noticeConfigDetail_length (a : Attention) :
    (noticeConfigDetail a).length = 1 + 3 * a.sources.length := by
  rw [noticeConfigDetail_eq, List.length_append, length_flatMap_of_forall configBytes_length]
  rfl

theorem noticeConfigDetail_field {s : State} {n : Nat} (h : n < s.attention.sources.length) :
    field (noticeConfigDetail s.attention) (1 + 3 * n) 3 = configBytes (s.source n) := by
  rw [State.source_eq_getElem h, noticeConfigDetail_eq]
  simpa using field_flatMap configBytes_length h [byte1 s.attention.threshold] []

theorem configClamped_iff (body : List Byte) : configClamped body = true ↔
    (thresholdField body ≠ 255 ∧ 7 < thresholdField body) ∨
      ∃ e ∈ configEntries body, storedLevel e.number e.level ≠ e.level := by
  simp only [configClamped, Bool.or_eq_true, Bool.and_eq_true, bne_iff_ne, decide_eq_true_eq, List.any_eq_true]

theorem ite_clamped_iff (b : Bool) : (if b then Code.clamped else .ok) = .clamped ↔ b = true := by
  cases b <;> simp

/-- A well-formed NOTICE_CONFIG of a programming station is carried out whole, and answered with what stands then. -/
theorem exec_noticeConfig {s : State} {src : Addr} {who : Sender} {body : List Byte} (h : ServedProgrammer s src who)
    (hform : configForm body = none) (tag : Byte) : exec (.noticeConfig src tag body) s = .next (answered
      { s with attention := configureAttention body s.attention } src tag .noticeConfig
      (if configClamped body then .clamped else .ok) (noticeConfigDetail (configureAttention body s.attention))) := by
  refine exec_passed h.toServed .noticeConfig tag body rfl ?_
  simp only [noticeConfigChecks, List.forall_mem_cons, hform]
  exact ⟨sealedCheck_passed h.toServed, roleCheck_programmer h.role, suspendedCheck_passed h.enrolled, rfl, nofun⟩

/-- Settles O43: source by source, from the entry that names it or from none, and from the write of the threshold. -/
theorem noticesConfigured : Obligations.NoticesConfigured := by
  intro src tag body s who h hform h24
  obtain ⟨hfields, -⟩ := configForm_eq_none hform
  generalize ht : ({ s with attention := configureAttention body s.attention } : State) = t
  have hatt : t.attention = configureAttention body s.attention := by rw [← ht]
  have hsource := fun n (hn : n < 24) => configureAttention_source hatt hform (h24 ▸ hn)
  have hlength : t.attention.sources.length = 24 := by rw [hatt, configureAttention_length, h24]
  have hexec := exec_noticeConfig h hform tag
  rw [ht, ← hatt] at hexec
  have hlevel : ∀ e ∈ configEntries body, (t.source e.number).level = storedLevel e.number e.level := fun e he => by
    obtain ⟨d, hd, heq⟩ := hsource e.number (hfields e he).1
    obtain ⟨-, -, hstored⟩ := hd.named e he rfl
    rw [heq]; exact hstored
  refine ⟨t, _, _, hexec, by rw [← ht], by rw [noticeConfigDetail_length, hlength], hlength, rfl,
    fun n hn => noticeConfigDetail_field (hlength ▸ hn), fun n hn => ?_, ?_, ?_, fun n hn => ?_, fun e he => ?_,
    fun n hn hno => ?_, fun hth n hn h7 hst hen => ?_, fun hth n hn hp => ?_, ?_⟩
  · obtain ⟨d, hd, heq⟩ := hsource n hn
    simp [heq, hd.pending, and_assoc]
  · split
    · exact .inl rfl
    · exact .inr rfl
  · rw [hatt, configureAttention_threshold]
  · obtain ⟨d, hd, heq⟩ := hsource n hn
    rw [heq]; exact ⟨hd.status, hd.history⟩
  · obtain ⟨d, hd, heq⟩ := hsource e.number (hfields e he).1
    obtain ⟨henable, hmask, hstored⟩ := hd.named e he rfl
    refine ⟨by rw [heq]; exact henable, by rw [heq]; exact hmask, hlevel e he, fun hoff => ?_⟩
    have hdropped : d.pending = false :=
      Bool.eq_false_iff.mpr fun hp => absurd (hoff.symm.trans ((hd.pending.mp hp).2 e he rfl)) (by decide)
    simp [heq, hdropped, henable, hoff]
  · obtain ⟨d, hd, heq⟩ := hsource n hn
    rw [heq]; exact hd.unnamed hno
  · obtain ⟨d, hd, heq⟩ := hsource n hn
    rw [heq] at h7 hst hen ⊢
    simp [hth, show d.level = 7 from h7, show d.status = true from hst, show d.enable = true from hen]
  · obtain ⟨d, hd, heq⟩ := hsource n hn
    simp only [heq, hth, bne_self_eq_false, Bool.false_and, Bool.or_false] at hp
    exact (hd.pending.mp hp).1
  · rw [ite_clamped_iff, configClamped_iff]
    exact or_congr_right (exists_congr fun e => and_congr_right fun he => by rw [hlevel e he])

end Sys2Proof.Machine
end

section
/-! PROOFS. The notice sources at the end of a start-up (O60). -/

namespace Sys2Proof.Machine

/-! ## Work on the notice sources alone -/

/-- The notice sources change, and nothing else of the part. -/
def OnlyNotices (s t : State) : Prop := t = { s with attention := t.attention }

theorem OnlyNotices.refl (s : State) : OnlyNotices s s := rfl

theorem OnlyNotices.trans {s t u : State} (h : OnlyNotices s t) (k : OnlyNotices t u) : OnlyNotices s u := by
  unfold OnlyNotices at *; rw [k, h]

theorem OnlyNotices.deadlineWork {s t : State} (h : OnlyNotices s t) : OnlyDeadlineWork s t := by
  unfold OnlyDeadlineWork; rw [h]

theorem modSource_onlyNotices (n : Nat) (f : Source → Source) (s : State) : OnlyNotices s (s.modSource n f) := rfl

theorem OnlyNotices.evaluateLevel {s t : State} (h : OnlyNotices s t) {n : Nat} {b : Bool} :
    OnlyNotices s (evaluateLevel n b t) := h.trans (modSource_onlyNotices ..)

/-! ## The evaluation (10 R168) -/

/-- Step 1 of the end-of-start-up evaluation: each level source follows its condition. -/
def levelsEvaluated (s : State) : State :=
  evaluateLevel Src.sealing (s.control.service == .sealedOff) <|
    evaluateLevel Src.timeLost (s.clock.timeState == .lost) <|
      evaluateLevel Src.engineFault s.engine.faulted <|
        evaluateLevel Src.fuseFault (s.fuses.held.uncorrectable != 0) <|
          evaluateLevel Src.clockDrift (decide (0 < s.clock.driftRun)) <|
            evaluateLevel Src.holdActive (s.link.hold == .holding) s

/-- The condition of some critical source holds (10 R163). -/
def criticalHolds (s : State) : Bool :=
  s.control.service == .sealedOff || s.clock.timeState == .lost || s.engine.faulted ||
    s.fuses.held.uncorrectable != 0

/-- Step 2: FAULT is raised if the condition of a critical source holds. -/
def faultEvaluated (s : State) : State :=
  (levelsEvaluated s).modSource Src.fault fun c => { c with status := c.status || criticalHolds s }

/-- Step 3 sets the flags. -/
theorem endNotices_eq (s : State) :
    endNotices s = { faultEvaluated s with attention := flagRaised (faultEvaluated s).attention } := by
  simp only [endNotices, faultEvaluated, criticalHolds, levelsEvaluated, Bool.or_assoc]

theorem evaluateLevel_source_status (n m : Nat) (b : Bool) (s : State) : ((evaluateLevel n b s).source m).status =
    if n = m ∧ n < s.attention.sources.length then b else (s.source m).status := by
  rw [evaluateLevel, State.source_modSource]
  split <;> rfl

@[simp] theorem evaluateLevel_sources_length (n : Nat) (b : Bool) (s : State) :
    (evaluateLevel n b s).attention.sources.length = s.attention.sources.length := State.modSource_sources_length ..

theorem levelsEvaluated_sources_length (s : State) :
    (levelsEvaluated s).attention.sources.length = s.attention.sources.length := by simp [levelsEvaluated]

/-- FAULT is left to step 2. -/
theorem faultEvaluated_source_ne {n : Nat} (h : Src.fault ≠ n) (s : State) :
    (faultEvaluated s).source n = (levelsEvaluated s).source n := by
  rw [faultEvaluated, State.source_modSource, if_neg fun hc => h hc.1]

theorem faultEvaluated_fault {s : State} (h : s.attention.sources.length = 24) (hc : criticalHolds s = true) :
    ((faultEvaluated s).source Src.fault).status = true := by
  have hlt : Src.fault < (levelsEvaluated s).attention.sources.length := by
    rw [levelsEvaluated_sources_length, h]; decide
  rw [faultEvaluated, State.source_modSource, if_pos ⟨rfl, hlt⟩]
  exact (Bool.or_eq_true ..).mpr (.inr hc)

/-- Each critical source follows its condition. -/
theorem levelsEvaluated_status {s : State} (h : s.attention.sources.length = 24) :
    ((levelsEvaluated s).source Src.sealing).status = (s.control.service == .sealedOff) ∧
    ((levelsEvaluated s).source Src.timeLost).status = (s.clock.timeState == .lost) ∧
    ((levelsEvaluated s).source Src.engineFault).status = s.engine.faulted ∧
    ((levelsEvaluated s).source Src.fuseFault).status = (s.fuses.held.uncorrectable != 0) := by
  simp [levelsEvaluated, evaluateLevel_source_status, h, Src.sealing, Src.timeLost, Src.engineFault, Src.fuseFault]

theorem flagRaised_source_status {s t : State} (ht : t.attention = flagRaised s.attention) (n : Nat) :
    (t.source n).status = (s.source n).status := by
  simp only [State.source, ht, flagRaised, List.getD_eq_getElem?_getD, List.getElem?_map]
  cases s.attention.sources[n]? <;> rfl

theorem endNotices_source_status (n : Nat) (s : State) :
    ((endNotices s).source n).status = ((faultEvaluated s).source n).status := by
  rw [endNotices_eq]; exact flagRaised_source_status rfl n

/-- After the evaluation each critical source follows its condition, and FAULT is raised if any holds. -/
theorem endNotices_critical {s : State} (h : s.attention.sources.length = 24) :
    ((endNotices s).source Src.sealing).status = (s.control.service == .sealedOff) ∧
    ((endNotices s).source Src.timeLost).status = (s.clock.timeState == .lost) ∧
    ((endNotices s).source Src.engineFault).status = s.engine.faulted ∧
    ((endNotices s).source Src.fuseFault).status = (s.fuses.held.uncorrectable != 0) ∧
    (criticalHolds s = true → ((endNotices s).source Src.fault).status = true) := by
  obtain ⟨hsealing, hlost, hfaulted, hfuses⟩ := levelsEvaluated_status h
  simp only [endNotices_source_status]
  refine ⟨?_, ?_, ?_, ?_, faultEvaluated_fault h⟩
  · rw [faultEvaluated_source_ne (by decide), hsealing]
  · rw [faultEvaluated_source_ne (by decide), hlost]
  · rw [faultEvaluated_source_ne (by decide), hfaulted]
  · rw [faultEvaluated_source_ne (by decide), hfuses]

theorem endNotices_onlyNotices (s : State) : OnlyNotices s (endNotices s) := by
  have hlevels : OnlyNotices s (levelsEvaluated s) :=
    .evaluateLevel (.evaluateLevel (.evaluateLevel (.evaluateLevel (.evaluateLevel (.evaluateLevel (.refl s))))))
  rw [endNotices_eq]
  exact (hlevels.trans (modSource_onlyNotices ..)).trans rfl

/-! ## A flag for every raised and enabled source -/

/-- Every source that is raised and enabled has its pending-notice flag set (10 R165, R168). -/
def RaisedFlagged (a : Attention) : Prop := ∀ c ∈ a.sources, c.status = true → c.enable = true → c.pending = true

theorem flagRaised_flagged (a : Attention) : RaisedFlagged (flagRaised a) := by
  intro c hc hs he
  obtain ⟨b, -, rfl⟩ := List.mem_map.mp hc
  simp [show b.status = true from hs, show b.enable = true from he]

/-- Out of STARTING a raise flags the source it raises, if enabled (10 R165). -/
theorem raisePulse_flagged {n : Nat} {s : State} (hs : s.control.service ≠ .starting)
    (h : RaisedFlagged s.attention) : RaisedFlagged (raisePulse n s).attention := by
  refine forall_mem_modify (fun c _ _ he => ?_) h
  simp [show c.enable = true from he, hs]

/-- What a firing does to the notice sources: nothing, or one raise. -/
theorem fireOne_attention (d : Deadline) (s : State) :
    (fireOne d s).attention = s.attention ∨ ∃ n, (fireOne d s).attention = (raisePulse n s).attention := by
  unfold fireOne
  split
  · refine .inl ?_
    unfold fireWindowStart
    split
    · split
      · exact setEntryState_attention ..
      · rfl
    · rfl
  · unfold fireWindowEnd
    split
    · split
      · exact .inr ⟨_, lapseEntry_attention ..⟩
      · exact .inl rfl
    · exact .inl rfl
  · refine .inl ?_
    unfold firePurge
    split
    · split
      · split
        · exact freeEntry_attention ..
        · rfl
      · rfl
    · rfl
  · unfold fireSpanEnd
    split
    · split
      · exact .inr ⟨_, raisePulse_attention_congr (expireGrant_attention ..) (expireGrant_work ..).control⟩
      · exact .inl rfl
    · exact .inl rfl

theorem fireOne_flagged {d : Deadline} {s : State} (hs : s.control.service ≠ .starting)
    (h : RaisedFlagged s.attention) : RaisedFlagged (fireOne d s).attention := by
  rcases fireOne_attention d s with heq | ⟨n, heq⟩
  · rw [heq]; exact h
  · rw [heq]; exact raisePulse_flagged hs h

/-- An event of the Deadline List out of STARTING leaves every raised and enabled source flagged. -/
theorem runDeadlines_flagged {n : Nat} {s : State} (hs : s.control.service ≠ .starting)
    (h : RaisedFlagged s.attention) : RaisedFlagged (runDeadlines n s).attention := by
  unfold runDeadlines
  generalize 2 * s.deadlines.length = fuel
  induction fuel generalizing s with
  | zero => exact h
  | succ fuel ih =>
    unfold fireDue
    split
    · exact h
    · rename_i d rest _
      split
      · have hcontrol : (fireOne d { s with deadlines := rest }).control = s.control := (fireOne_work ..).control
        exact ih (by rw [hcontrol]; exact hs) (fireOne_flagged (s := { s with deadlines := rest }) hs h)
      · exact h

end Sys2Proof.Machine
end

section
/-! PROOFS. An event of the Deadline List reads parcels, grants, deadlines and settings alone; the end of a start-up and
RETAINED_LOSS (O60). -/

namespace Sys2Proof.Machine

/-! ## What a firing reads -/

/-- Two states with the same parcels, grants, deadlines and stations. -/
structure SameTables (s t : State) : Prop where
  store : t.store = s.store
  grants : t.grants = s.grants
  deadlines : t.deadlines = s.deadlines
  stations : t.stations = s.stations

theorem SameTables.entry {s t : State} (h : SameTables s t) (i : Nat) : t.entry i = s.entry i := by
  rw [State.entry, h.store]; rfl

theorem SameTables.setEntry {s t : State} (h : SameTables s t) (i : Nat) (o : Option ParcelEntry) :
    SameTables (s.setEntry i o) (t.setEntry i o) :=
  ⟨by simp only [State.setEntry, h.store], h.grants, h.deadlines, h.stations⟩

theorem SameTables.withDeadlines {s t : State} (h : SameTables s t) (l : List Deadline) :
    SameTables { s with deadlines := l } { t with deadlines := l } := ⟨h.store, h.grants, rfl, h.stations⟩

theorem SameTables.raisePulse {s t : State} (h : SameTables s t) (n : Nat) :
    SameTables (raisePulse n s) (raisePulse n t) := ⟨h.store, h.grants, h.deadlines, h.stations⟩

theorem SameTables.setEntryState {s t : State} (h : SameTables s t) (i : Nat) (st : ParcelState) :
    SameTables (setEntryState i st s) (setEntryState i st t) := by
  unfold Machine.setEntryState
  rw [h.entry]
  split
  · exact h
  · exact h.setEntry ..

theorem SameTables.eraseEntry {s t : State} (h : SameTables s t) (i : Nat) :
    SameTables (eraseEntry i s) (eraseEntry i t) := by
  unfold Machine.eraseEntry
  rw [h.entry]
  split
  · exact h
  · exact ⟨by simp only [h.store], h.grants, h.deadlines, h.stations⟩

theorem SameTables.freeEntry {s t : State} (h : SameTables s t) (i : Nat) :
    SameTables (freeEntry i s) (freeEntry i t) := by
  have hfreed := (h.eraseEntry i).setEntry i none
  exact ⟨hfreed.store, hfreed.grants, congrArg (List.filter _) hfreed.deadlines, hfreed.stations⟩

theorem SameTables.lapseEntry {s t : State} (h : SameTables s t) (i : Nat) :
    SameTables (lapseEntry i s) (lapseEntry i t) := ((h.setEntryState ..).eraseEntry _).raisePulse _

theorem SameTables.addDeadline {s t : State} (h : SameTables s t) (d : Deadline) :
    SameTables (addDeadline d s) (addDeadline d t) :=
  ⟨h.store, h.grants, congrArg (insertDeadline d) h.deadlines, h.stations⟩

theorem SameTables.expireGrant {s t : State} (h : SameTables s t) (g : Nat) (why : Reason) :
    SameTables (expireGrant g why s) (expireGrant g why t) := by
  unfold Machine.expireGrant
  rw [State.grant_congr h.grants]
  split
  · exact h
  · exact ⟨h.store, by simp only [dropSpanEnd, h.grants], congrArg (List.filter _) h.deadlines, h.stations⟩

theorem SameTables.fireOne {s t : State} (h : SameTables s t) (d : Deadline) :
    SameTables (fireOne d s) (fireOne d t) := by
  unfold Machine.fireOne
  split
  · unfold fireWindowStart
    rw [h.entry]
    split
    · split
      · exact h.setEntryState ..
      · exact h
    · exact h
  · unfold fireWindowEnd
    rw [h.entry]
    split
    · split
      · rw [purgeAt_congr h.stations]; exact (h.lapseEntry _).addDeadline _
      · exact h
    · exact h
  · unfold firePurge
    rw [h.entry]
    split
    · split
      · split
        · exact h.freeEntry _
        · exact h.setEntry ..
      · exact h
    · exact h
  · unfold fireSpanEnd
    rw [State.grant_congr h.grants]
    split
    · split
      · exact (h.expireGrant ..).raisePulse _
      · exact h
    · exact h

/-- Of two states with the same tables, an event of the Deadline List makes two such states again (07 R114). -/
theorem SameTables.runDeadlines {s t : State} (h : SameTables s t) (n : Nat) :
    SameTables (runDeadlines n s) (runDeadlines n t) := by
  unfold Machine.runDeadlines
  rw [h.deadlines]
  generalize 2 * s.deadlines.length = fuel
  induction fuel generalizing s t with
  | zero => exact h
  | succ fuel ih =>
    unfold fireDue
    rw [h.deadlines]
    split
    · exact h
    · split
      · exact ih ((h.withDeadlines _).fireOne _)
      · exact h

/-! ## START_UP_END (11 R172) -/

/-- The part as service begins, its notices not yet evaluated: service state, cause, uptime 0, a window that opens. -/
def serviceBegun (s : State) : State :=
  { s with
    control := { s.control with
      service := if s.control.sealing then .sealedOff else .operating, phase := .none, cause := s.control.beganBy }
    clock := { s.clock with uptime := 0, ticked := false }
    arbiter := { s.arbiter with lastKat := 0 } }

/-- The Deadline List's one event at booth time, where a REBUILD went before (07 R115). -/
def dueTaken (s : State) : State := if rebuildRuns s then runDeadlines s.now s else s

theorem endStartUp_eq (s : State) : endStartUp s = dueTaken (endNotices (serviceBegun s)) := rfl

theorem rebuildRuns_iff {s : State} :
    rebuildRuns s = true ↔ s.clock.timeState = .running ∧ s.control.sealing = false := by simp [rebuildRuns]

theorem dueTaken_eq (s : State) : dueTaken s =
    if s.clock.timeState = .running ∧ s.control.sealing = false then runDeadlines s.now s else s :=
  if_congr rebuildRuns_iff rfl rfl

theorem serviceBegun_sealed (s : State) :
    ((serviceBegun s).control.service == .sealedOff) = s.control.sealing := by
  unfold serviceBegun
  cases s.control.sealing
  · rfl
  · rfl

theorem serviceBegun_awake (s : State) : (serviceBegun s).control.service ≠ .starting := by
  unfold serviceBegun
  cases s.control.sealing
  · exact nofun
  · exact nofun

/-- The event raises PARCEL_LAPSED and GRANT_EXPIRED at most, which are no critical sources. -/
theorem dueTaken_raises (s : State) : RaisesAmong [Src.parcelLapsed, Src.grantExpired] s (dueTaken s) := by
  unfold dueTaken
  split
  · exact runDeadlines_raises (by simp) (by simp) ..
  · exact .refl s

theorem dueTaken_work (s : State) : OnlyDeadlineWork s (dueTaken s) := by
  unfold dueTaken
  split
  · exact runDeadlines_work ..
  · exact .refl s

theorem dueTaken_flagged {s : State} (hs : s.control.service ≠ .starting) (h : RaisedFlagged s.attention) :
    RaisedFlagged (dueTaken s).attention := by
  unfold dueTaken
  split
  · exact runDeadlines_flagged hs h
  · exact h

/-- Past the beginning of service, the end of a start-up is deadline work. -/
theorem endStartUp_work (s : State) : OnlyDeadlineWork (serviceBegun s) (endStartUp s) :=
  (endNotices_onlyNotices _).deadlineWork.trans (dueTaken_work _)

/-- The event at booth time leaves every other source as the evaluation set it. -/
theorem endStartUp_source {n : Nat} (h : n ∉ [Src.parcelLapsed, Src.grantExpired]) (s : State) :
    (endStartUp s).source n = (endNotices (serviceBegun s)).source n := (dueTaken_raises _).others n h

theorem endStartUp_flagged (s : State) : RaisedFlagged (endStartUp s).attention := by
  refine dueTaken_flagged ?_ ?_
  · rw [(endNotices_onlyNotices _).deadlineWork.control]
    exact serviceBegun_awake s
  · rw [endNotices_eq]
    exact flagRaised_flagged _

/-- The tables are those that the part's own event at booth time leaves. -/
theorem endStartUp_sameTables (s : State) : SameTables (dueTaken s) (endStartUp s) := by
  have hnotices := endNotices_onlyNotices (serviceBegun s)
  have hbegun : SameTables s (endNotices (serviceBegun s)) := by rw [hnotices]; exact ⟨rfl, rfl, rfl, rfl⟩
  have hclock := hnotices.deadlineWork.clock
  have hcontrol := hnotices.deadlineWork.control
  rw [endStartUp_eq]
  generalize endNotices (serviceBegun s) = t at hbegun hclock hcontrol ⊢
  have hruns : rebuildRuns t = rebuildRuns s := by rw [rebuildRuns, hclock, hcontrol]; rfl
  have hnow : t.now = s.now := by rw [State.now, hclock]; rfl
  rw [dueTaken, dueTaken, hruns, hnow]
  split
  · exact hbegun.runDeadlines _
  · exact hbegun

/-- The event leaves nothing due at booth time (07 R115). -/
theorem dueTaken_ahead {s : State} (h : s.clock.timeState = .running ∧ s.control.sealing = false)
    (ho : InOrder s.deadlines) : ∀ d ∈ (dueTaken s).deadlines, s.clock.boothTime < d.due := by
  rw [dueTaken_eq, if_pos h]
  exact runDeadlines_ahead ho

/-- Settles O60: what service begins with, the notices by their conditions, and the one event at booth time. -/
theorem startUpEnds : Obligations.StartUpEnds := by
  refine ⟨fun s hp h24 => ?_, fun s hoff => congrArg _ (if_neg (by simp [hoff]))⟩
  have hwork := endStartUp_work s
  have htables := endStartUp_sameTables s
  obtain ⟨hsealing, hlost, hfaulted, hfuses, hfault⟩ := endNotices_critical (s := serviceBegun s) h24
  refine ⟨endStartUp s, congrArg _ (if_pos hp), hwork.control, hwork.clock, ?_, ?_, ?_, ?_, fun hcritical => ?_,
    endStartUp_flagged s, fun hrun hseal ho d hd => ?_, fun r hr => ?_⟩
  · rw [endStartUp_source (by decide), hsealing, serviceBegun_sealed]
  · rw [endStartUp_source (by decide), hlost]
    exact beq_iff_eq
  · rw [endStartUp_source (by decide), hfaulted]
    rfl
  · rw [endStartUp_source (by decide), hfuses]
    exact bne_iff_ne
  · rw [endStartUp_source (by decide)]
    refine hfault ?_
    rw [criticalHolds, serviceBegun_sealed]
    simpa [serviceBegun, or_assoc] using hcritical
  · rw [hwork.clock]
    rw [htables.deadlines] at hd
    exact dueTaken_ahead ⟨hrun, hseal⟩ ho d hd
  · rw [hr, ← State.now, ← dueTaken_eq]
    exact ⟨htables.store, htables.grants, htables.deadlines⟩

end Sys2Proof.Machine
end

section
/-! PROOFS. The state after reset (O5). -/

namespace Sys2Proof.Machine

/-! ## Its tables are empty (11 R171) -/

theorem reset_entry (i : Nat) : State.reset.entry i = none := slotGet_replicate_none ..

theorem reset_grants : NoGrants State.reset := fun _ => slotGet_replicate_none ..

theorem reset_station (i : Nat) : State.reset.station i = none := slotGet_replicate_none ..

theorem reset_not_expiring (g : Nat) : ¬isExpiring State.reset g := fun ⟨_, _, hg, _⟩ =>
  nomatch (reset_grants g).symm.trans hg

/-! ## The conditions -/

theorem reset_capacities : Capacities State.reset where
  stations := List.length_replicate
  parcels := List.length_replicate
  keys := List.length_replicate
  grants := List.length_replicate
  gens := List.length_replicate
  sources := rfl
  answers := Nat.zero_le _
  receive := Nat.zero_le _
  staging := Nat.zero_le _
  opens := Nat.zero_le _
  passOver := Nat.zero_le _
  mismatch := Nat.zero_le _

theorem hardDefaults_fit : settingsFit hardDefaults := ⟨hardDefaults_ranged, by decide⟩

theorem reset_valuesInRange : ValuesInRange State.reset where
  boothTime := Nat.zero_le _
  uptime := Nat.zero_le _
  driftRun := Nat.zero_le _
  trimBudget := le_refl 360
  trimYear := Nat.zero_le _
  floor := Nat.zero_le _
  factoryFloor := Nat.zero_le _
  counters := ⟨Nat.zero_le _, Nat.zero_le _, Nat.zero_le _, Nat.zero_le _⟩
  ingestSeq := Nat.zero_le _
  generations n hn := by rw [List.eq_of_mem_replicate hn]; exact Nat.zero_le _
  extensions g _ hg := nomatch (reset_grants g).symm.trans hg
  tokens i _ hi := nomatch (reset_station i).symm.trans hi
  threshold := by decide
  levels := by decide
  settings := hardDefaults_fit
  defaults := hardDefaults_fit

theorem reset_expiryListed : ExpiryListed State.reset where
  once := List.nodup_nil
  exact g := iff_of_false List.not_mem_nil (reset_not_expiring g)
  spans := nofun

theorem reset_keysReferenced : KeysReferenced State.reset := fun _ _ hk =>
  nomatch (slotGet_replicate_none ..).symm.trans hk

theorem reset_grantsCounted : GrantsCounted State.reset :=
  grantsCounted_of_empty reset_grants rfl (fun _ i _ hi => nomatch (reset_entry i).symm.trans hi)
    (fun h => absurd rfl h) nofun

theorem reset_screenLimit : ScreenLimit State.reset := fun slot => by
  have hnone : stationLoad slot State.reset = 0 := (stationLoad_eq ..).trans (countWhere_replicate_none ..)
  rw [hnone]
  exact Nat.zero_le _

theorem reset_stationsDistinct : StationsDistinct State.reset := by
  refine stationsDistinct_iff.mpr ⟨rfl, fun i _ _ _ _ hi => ?_, fun i _ hi => ?_, fun r => ?_⟩
  · exact nomatch (reset_station i).symm.trans hi
  · exact nomatch (reset_station i).symm.trans hi
  · have hnone : roleCount State.reset r = 0 := (roleCount_eq ..).trans (countWhere_replicate_none ..)
    rw [hnone]
    exact Nat.zero_le _

theorem reset_deadlinesMatch : DeadlinesMatch State.reset where
  order := .nil
  once := List.nodup_nil
  starts := nofun
  ends := nofun
  purges := nofun
  spans := nofun
  listed _ i _ hi := nomatch (reset_entry i).symm.trans hi
  early _ _ := rfl
  windows i _ hi := nomatch (reset_entry i).symm.trans hi
  staged := nofun

/-- Settles O5: after reset every table, list and queue is empty, and the counts and settings lie in their ranges. -/
theorem resetMeetsTheInvariants : Obligations.ResetMeetsTheInvariants :=
  ⟨reset_capacities, reset_valuesInRange, .nil, reset_expiryListed, reset_keysReferenced, reset_grantsCounted,
    reset_screenLimit, reset_stationsDistinct, reset_deadlinesMatch, NoGrants.spansListed reset_grants⟩

end Sys2Proof.Machine
end

section
/-! PROOFS. SEALED answers, UNKNOWN_KIND and strangers at the take (O18). -/

namespace Sys2Proof.Machine

/-- In SEALED the first check of every request but STATUS and RESTART fails (11 R173). -/
theorem permission_sealed {s : State} (h : s.control.service = .sealedOff) {k : Kind} (hstatus : k ≠ .status)
    (hrestart : k ≠ .restart) (who : Sender) (body : List Byte) :
    firstFailure (permissionChecks k who body s) = some (refuse .sealing) := by
  have hsealed : (sealedCheck s).1 = true := by rw [sealedCheck, h]; rfl
  cases k with
  | status => exact absurd rfl hstatus
  | restart => exact absurd rfl hrestart
  | _ => simp [permissionChecks, firstFailure, hsealed]; rfl

theorem settle_matched {owner : Owner} {f : Frame} {s : State} {who : Sender} (h : matchSource s f.src = some who) :
    settle owner f s = owner who f s := by simp only [settle, h]

/-- Settles O18: the SEALED check stands first, UNKNOWN_KIND makes none, and a stranger reaches no owner. -/
theorem sealedUnknownAndStranger : Obligations.SealedUnknownAndStranger := by
  refine fun src tag body s h => ⟨fun k who hsealed hm hstatus hrestart => ?_, fun b who hb hm => ?_, fun k hm => ?_⟩
  · obtain ⟨cs, act, howner⟩ :=
      ownerOf_beginsPermitted k who { src := src, kind := k.value, tag := tag, body := body } s
    rw [exec_requestRow_settles h, settle_matched hm, howner,
      checked_refused (firstFailure_append (permission_sealed hsealed hstatus hrestart ..) cs)]
    rfl
  · rw [exec_unknownKind_settles h src tag hb, settle_matched hm]
    rfl
  · rw [exec_requestRow, takeRequest_stranger h hm]
    rfl

end Sys2Proof.Machine
end

section
/-! PROOFS. The beginnings of a start-up and the ends of operation (O58). -/

namespace Sys2Proof.Machine

/-! ## The volatile state cleared (11 R172, Table 11.3) -/

/-- `t` is `s` where a start-up begins or operation ends: the volatile state cleared, STARTING with the next phase `p`,
main power as said; a start-up that begins has its cause, by which the mismatch count is kept or set to 0. -/
structure StartedAt (s t : State) (power : Bool) (p : StartPhase) (b : Option StartCause) : Prop where
  cleared : t = { clearVolatile s with
    stations := { s.stations with keyHolder := none, mismatch := t.stations.mismatch }
    control := t.control }
  control : t.control = { s.control with
    power := t.control.power, resetLow := t.control.resetLow, service := .starting, phase := p,
    beganBy := t.control.beganBy, sealing := false }
  power : t.control.power = power
  cause : ∀ cause, b = some cause →
    t.control.beganBy = cause ∧ t.stations.mismatch = if cause = .restart then s.stations.mismatch else 0

theorem haltPart_startedAt (s : State) {power on : Bool} (h : on = power) (resetLow : Bool) :
    StartedAt s (haltPart { s with control := { s.control with power := on, resetLow := resetLow } })
      power .halted none := ⟨rfl, rfl, h, nofun⟩

/-- A start-up begins alike whatever was being sent. -/
theorem beginStartUp_startedAt (cause : StartCause) (s : State) {power on : Bool} (h : on = power) (resetLow : Bool)
    (f : Option TxFrame) :
    StartedAt s (beginStartUp cause { s with
        link := { s.link with sending := f }
        control := { s.control with power := on, resetLow := resetLow } }) power .begin (some cause) :=
  ⟨rfl, rfl, h, fun c hc => by obtain rfl := Option.some.inj hc; exact ⟨rfl, rfl⟩⟩

theorem startUpBegun_startedAt {s : State} {power : Bool} (h : s.control.power = power) :
    StartedAt s (setPhase .fuseLoad (beginStartUp s.control.beganBy s)) power .fuseLoad (some s.control.beganBy) :=
  ⟨rfl, rfl, h, fun c hc => by obtain rfl := Option.some.inj hc; exact ⟨rfl, rfl⟩⟩

/-! ## The events (11 R172, R174, R175) -/

theorem exec_powerOn {s : State} (hpower : s.control.power = false) (hlow : s.control.resetLow = false) :
    exec .powerOn s = .next (beginStartUp .powerOn { s with control := { s.control with power := true } }) := by
  show execPowerOn s = _
  simp [execPowerOn, hpower, hlow]

theorem exec_powerLoss {s : State} (hpower : s.control.power = true) :
    exec .powerLoss s = .next (haltPart { s with control := { s.control with power := false } }) :=
  congrArg _ (if_pos hpower)

theorem exec_resetLineAssert {s : State} (hpower : s.control.power = true) (hlow : s.control.resetLow = false) :
    exec .resetLineAssert s = .next (haltPart { s with control := { s.control with resetLow := true } }) := by
  show execResetLineAssert s = _
  simp [execResetLineAssert, hpower, hlow]

theorem exec_resetLineRelease {s : State} (hpower : s.control.power = true) (hlow : s.control.resetLow = true) :
    exec .resetLineRelease s =
      .next (beginStartUp .resetLine { s with control := { s.control with resetLow := false } }) := by
  show execResetLineRelease s = _
  simp [execResetLineRelease, hpower, hlow]

theorem exec_startUpBegin {s : State} (hphase : s.control.phase = .begin) :
    exec .startUpBegin s = .next (setPhase .fuseLoad (beginStartUp s.control.beganBy s)) :=
  congrArg _ (if_pos hphase)

theorem isRestartOk_eq_true {f : TxFrame} (hkind : f.kind = 0x01) (hbody : f.body.take 2 = [0x00, 0x7F]) :
    isRestartOk f = true :=
  Bool.and_eq_true_iff.mpr ⟨beq_iff_eq.mpr hkind, beq_iff_eq.mpr hbody⟩

/-- The OK answer of a RESTART has left the port (11 R175). -/
theorem exec_restartAnswered {s : State} {f : TxFrame} (h : Awake s) (hf : s.link.sending = some f)
    (hok : isRestartOk f = true) :
    exec .transmitFrameEnd s = .next (beginStartUp .restart { s with link := { s.link with sending := none } }) := by
  rw [exec_transmitFrameEnd h hf, finishSending, if_pos hok]

/-- Each event begins a start-up, or ends operation, as its cause says. -/
theorem exec_startedAt {s : State} {c : Instr} {p : StartPhase} {b : Option StartCause}
    (h : (c = .powerOn ∧ s.control.power = false ∧ s.control.resetLow = false ∧ p = .begin ∧ b = some .powerOn) ∨
      (c = .resetLineRelease ∧ s.control.power = true ∧ s.control.resetLow = true ∧ p = .begin ∧
        b = some .resetLine) ∨
      (c = .transmitFrameEnd ∧ Awake s ∧ p = .begin ∧ b = some .restart ∧
        ∃ f, s.link.sending = some f ∧ f.kind = 0x01 ∧ f.body.take 2 = [0x00, 0x7F]) ∨
      (c = .startUpBegin ∧ s.control.power = true ∧ s.control.phase = .begin ∧ p = .fuseLoad ∧
        b = some s.control.beganBy) ∨
      (c = .powerLoss ∧ s.control.power = true ∧ p = .halted ∧ b = none) ∨
      (c = .resetLineAssert ∧ s.control.power = true ∧ s.control.resetLow = false ∧ p = .halted ∧ b = none)) :
    ∃ t, exec c s = .next t ∧ StartedAt s t (c != .powerLoss) p b := by
  rcases h with ⟨rfl, hpower, hlow, rfl, rfl⟩ | ⟨rfl, hpower, hlow, rfl, rfl⟩ | ⟨rfl, h, rfl, rfl, f, hf, hkind, hbody⟩ |
    ⟨rfl, hpower, hphase, rfl, rfl⟩ | ⟨rfl, hpower, rfl, rfl⟩ | ⟨rfl, hpower, hlow, rfl, rfl⟩
  · exact ⟨_, exec_powerOn hpower hlow, beginStartUp_startedAt .powerOn s rfl _ _⟩
  · exact ⟨_, exec_resetLineRelease hpower hlow, beginStartUp_startedAt .resetLine s hpower false _⟩
  · exact ⟨_, exec_restartAnswered h hf (isRestartOk_eq_true hkind hbody),
      beginStartUp_startedAt .restart s h.1 _ none⟩
  · exact ⟨_, exec_startUpBegin hphase, startUpBegun_startedAt hpower⟩
  · exact ⟨_, exec_powerLoss hpower, haltPart_startedAt s rfl _⟩
  · exact ⟨_, exec_resetLineAssert hpower hlow, haltPart_startedAt s hpower true⟩

/-- Settles O58: each event clears the volatile state; Table 11.3 is read off it block by block. -/
theorem startUpBegins : Obligations.StartUpBegins := by
  intro s c p b h
  obtain ⟨t, hexec, hcleared, hcontrol, hpower, hcause⟩ := exec_startedAt h
  have hgrants : t.grants = _ := congrArg State.grants hcleared
  have hstations : t.stations = _ := congrArg State.stations hcleared
  have hattention : t.attention = _ := congrArg State.attention hcleared
  refine ⟨t, hexec, congrArg Control.service hcontrol, congrArg Control.phase hcontrol,
    congrArg Control.sealing hcontrol, hpower, by rw [hcontrol], hcause, congrArg State.link hcleared,
    congrArg State.openQueue hcleared, congrArg State.store hcleared, fun g => ?_, ?_,
    congrArg GrantTable.expireList hgrants, congrArg State.deadlines hcleared, congrArg State.engine hcleared,
    congrArg State.arbiter hcleared, congrArg StationTable.keyHolder hstations, by rw [hstations], by rw [hstations],
    by rw [hstations], congrArg State.clock hcleared, ?_, congrArg Attention.sources hattention, ?_⟩
  · rw [State.grant, hgrants]
    exact slotGet_map_none ..
  · rw [hgrants]
    exact List.forall_mem_map.mpr fun _ _ => rfl
  · rw [hattention]; rfl
  · rw [hcleared]; rfl

end Sys2Proof.Machine
end

section
/-! PROOFS. FUSE_LOAD: the words held, the default settings and the findings (O59). -/

namespace Sys2Proof.Machine

/-! ## The words (11 R169) -/

theorem FuseWord.used_isNone {α : Type} (w : FuseWord α) :
    w.used.isNone = true ↔ w.condition = .uncorrectable := by
  unfold FuseWord.used
  split <;> simp_all

/-- A start-up is sealing by one of three words (11 R172). -/
theorem fusesSeal_loadFuses (w : FuseWords) : fusesSeal (loadFuses w) = true ↔
    w.siteSecret.condition = .uncorrectable ∨ w.modeKey.condition = .uncorrectable ∨
      w.ownAddr.condition = .uncorrectable := by
  simp only [fusesSeal, loadFuses, Bool.or_eq_true, FuseWord.used_isNone, or_assoc]

/-! ## The default settings (08 R145) -/

/-- Keeping HOLD_LOW below HOLD_HIGH leaves every other default. -/
theorem fuseDefaults_get (w : FuseWords) {n : Nat} (hn : 1 ≤ n ∧ n ≤ 11) (h8 : n ≠ 8) :
    (fuseDefaults w).get n = defaultOf w n := by
  rw [fuseDefaults, Settings.ordered_eq_put, Settings.get_put _ _ (by decide) hn, if_neg h8]
  obtain ⟨_, _⟩ := hn
  interval_cases n <;> rfl

theorem defaultOf_uncorrectable {w : FuseWords} {n : Nat} (hn : 1 ≤ n ∧ n ≤ 11) {d : FuseWord (BitVec 32)}
    (hd : w.defaults[n - 1]? = some d) (hc : d.condition = .uncorrectable) : defaultOf w n = hardDefaults.get n := by
  simp only [defaultOf, hd, FuseWord.used, hc]
  exact clampSetting_of_fits (hardDefaults_ranged n hn.1 hn.2)

theorem defaultOf_read {w : FuseWords} {n : Nat} {d : FuseWord (BitVec 32)} (hd : w.defaults[n - 1]? = some d)
    (hc : d.condition ≠ .uncorrectable) (hfits : settingFits n d.value.toNat) : defaultOf w n = d.value.toNat := by
  simp only [defaultOf, hd, FuseWord.used, hc]
  exact clampSetting_of_fits hfits

/-! ## The findings (12 Table 12.9) -/

theorem rowMask_testBit (rows : List Bool) (i : Nat) : (rowMask rows).testBit i = rows.getD i false := by
  induction rows generalizing i with
  | nil => simp [rowMask]
  | cons b rows ih =>
    have hcons : rowMask (b :: rows) = 2 * rowMask rows + if b then 1 else 0 := rfl
    cases i with
    | zero => cases b <;> simp [hcons, Nat.testBit_zero]
    | succ i =>
      have hhalf : rowMask (b :: rows) / 2 = rowMask rows := by rw [hcons]; split <;> omega
      rw [Nat.testBit_succ, hhalf, ih, List.getD_cons_succ]

theorem loadFuses_uncorrectable (w : FuseWords) {row : Nat} (h : row < 9) :
    (loadFuses w).uncorrectable.getLsbD row = (uncorrectableRows w).getD row false := by
  rw [← rowMask_testBit, loadFuses, BitVec.getLsbD_ofNat, decide_eq_true (by omega), Bool.true_and]

/-- A word is uncorrectable where a row has one. -/
theorem mem_uncorrectableRows {w : FuseWords} :
    true ∈ uncorrectableRows w ↔ FuseCondition.uncorrectable ∈ fuseConditions w := by
  simp only [uncorrectableRows, fuseConditions, List.mem_cons, List.mem_append, List.mem_map, List.not_mem_nil,
    or_false, eq_comm (a := true), beq_iff_eq, List.any_eq_true, eq_comm (a := FuseCondition.uncorrectable), or_assoc]

theorem loadFuses_uncorrectable_ne {w : FuseWords} (h : FuseCondition.uncorrectable ∈ fuseConditions w) :
    (loadFuses w).uncorrectable ≠ 0 := by
  intro hzero
  obtain ⟨row, hlt, hrow⟩ := List.mem_iff_getElem.mp (mem_uncorrectableRows.mpr h)
  have hbit := loadFuses_uncorrectable w (show row < 9 from hlt)
  rw [hzero, List.getD_eq_getElem _ _ hlt, hrow] at hbit
  simp at hbit

/-! ## FUSE_LOAD -/

/-- The part with its words held, the findings not yet reported. -/
def wordsHeld (s : State) : State :=
  { s with
    fuses := { s.fuses with held := loadFuses s.fuses.words }
    clock := { s.clock with driftRun := 0 }
    control := { s.control with sealing := s.control.sealing || fusesSeal (loadFuses s.fuses.words) } }

/-- FUSE_CORRECTED raised, if any word read corrected. -/
def correctedReported (h : FuseHeld) (s : State) : State :=
  if h.corrected = 0 then s else raisePulse Src.fuseCorrected s

/-- FUSE_FAULT raised, if any word read uncorrectable. -/
def uncorrectableReported (h : FuseHeld) (s : State) : State :=
  if h.uncorrectable = 0 then s else raiseLevel Src.fuseFault s

theorem readFuses_eq (s : State) : readFuses s =
    uncorrectableReported (loadFuses s.fuses.words) (correctedReported (loadFuses s.fuses.words) (wordsHeld s)) := rfl

theorem correctedReported_onlyNotices (h : FuseHeld) (s : State) : OnlyNotices s (correctedReported h s) := by
  unfold correctedReported
  split
  · exact .refl s
  · exact modSource_onlyNotices ..

theorem uncorrectableReported_onlyNotices (h : FuseHeld) (s : State) : OnlyNotices s (uncorrectableReported h s) := by
  unfold uncorrectableReported
  split
  · exact .refl s
  · exact raiseLevel_frame ..

theorem readFuses_onlyNotices (s : State) : OnlyNotices (wordsHeld s) (readFuses s) :=
  (correctedReported_onlyNotices ..).trans (uncorrectableReported_onlyNotices ..)

theorem correctedReported_sources_length (h : FuseHeld) (s : State) :
    (correctedReported h s).attention.sources.length = s.attention.sources.length := by
  unfold correctedReported
  split
  · rfl
  · exact raisePulse_sources_length ..

theorem readFuses_corrected {s : State} (h24 : s.attention.sources.length = 24)
    (h : FuseCondition.corrected ∈ fuseConditions s.fuses.words) :
    ((readFuses s).source Src.fuseCorrected).status = true := by
  have hcount : (loadFuses s.fuses.words).corrected ≠ 0 := fun h0 => List.count_eq_zero.mp h0 h
  have hlt : Src.fuseCorrected < (wordsHeld s).attention.sources.length := h24 ▸ by decide
  have hraised :
      ((correctedReported (loadFuses s.fuses.words) (wordsHeld s)).source Src.fuseCorrected).status = true := by
    rw [correctedReported, if_neg hcount]
    exact raisePulse_source_self hlt
  rw [readFuses_eq, uncorrectableReported]
  split
  · exact hraised
  · rw [raiseLevel_source_ne (by decide) (by decide)]
    exact hraised

theorem readFuses_uncorrectable {s : State} (h24 : s.attention.sources.length = 24)
    (h : FuseCondition.uncorrectable ∈ fuseConditions s.fuses.words) :
    ((readFuses s).source Src.fuseFault).status = true := by
  rw [readFuses_eq, uncorrectableReported, if_neg (loadFuses_uncorrectable_ne h)]
  refine raiseLevel_source_self ?_
  rw [correctedReported_sources_length]
  exact h24 ▸ by decide

theorem readFuses_held (s : State) : (readFuses s).fuses.held = loadFuses s.fuses.words :=
  congrArg (fun t => t.fuses.held) (readFuses_onlyNotices s)

theorem readFuses_sealing (s : State) : (readFuses s).control.sealing = true ↔ s.control.sealing = true ∨
    s.fuses.words.siteSecret.condition = .uncorrectable ∨ s.fuses.words.modeKey.condition = .uncorrectable ∨
    s.fuses.words.ownAddr.condition = .uncorrectable := by
  have hsealing : (readFuses s).control.sealing = (s.control.sealing || fusesSeal (loadFuses s.fuses.words)) :=
    congrArg (fun t => t.control.sealing) (readFuses_onlyNotices s)
  rw [hsealing, Bool.or_eq_true, fusesSeal_loadFuses]

/-- FUSE_LOAD touches the held words, the drift run count, sealing, the phase and the notices. -/
theorem fuseLoaded_eq (s : State) : setPhase .retainedCheck (readFuses s) = { s with
    fuses := { s.fuses with held := (readFuses s).fuses.held }
    clock := { s.clock with driftRun := 0 }
    control := { s.control with phase := .retainedCheck, sealing := (readFuses s).control.sealing }
    attention := (readFuses s).attention } := by
  have hread := readFuses_onlyNotices s
  generalize readFuses s = t at hread ⊢
  rw [hread]
  rfl

theorem exec_fuseLoad {s : State} (h : s.control.phase = .fuseLoad) :
    exec .fuseLoad s = .next (setPhase .retainedCheck (readFuses s)) := congrArg _ (if_pos h)

end Sys2Proof.Machine
end

section
/-! PROOFS. RETAINED_CHECK, CLOCK_CHECK and REBUILD (O59). -/

namespace Sys2Proof.Machine

/-! ## A sound store, entry by entry (11 R171, 02 R31) -/

/-- What the correction makes of an entry: no grant, and it is freed where it only waited for its last record. -/
def correctedEntry (e : ParcelEntry) : Option ParcelEntry :=
  if e.state = .withdrawn ∨ (e.state = .lapsed ∧ e.purgeDue = true) then none else some { e with grantCount := 0 }

theorem setEntry_entry_self {s : State} {i : Nat} {e : ParcelEntry} (h : s.entry i = some e) (o : Option ParcelEntry) :
    (s.setEntry i o).entry i = o := by
  rw [State.entry_setEntry, if_pos ⟨rfl, State.entry_lt h⟩]

theorem correctEntry_eq {t : State} {p : Nat × ParcelEntry} (h : t.entry p.1 = some p.2) : correctEntry t p =
    if p.2.state = .withdrawn ∨ (p.2.state = .lapsed ∧ p.2.purgeDue = true)
    then freeEntry p.1 (t.setEntry p.1 (some { p.2 with grantCount := 0 }))
    else t.setEntry p.1 (some { p.2 with grantCount := 0 }) := by
  simp only [correctEntry, freeAtZero, setEntry_entry_self h, true_and]

theorem correctEntry_entry_self {t : State} {p : Nat × ParcelEntry} (h : t.entry p.1 = some p.2) :
    (correctEntry t p).entry p.1 = correctedEntry p.2 := by
  rw [correctEntry_eq h, correctedEntry]
  split
  · rw [freeEntry_entry, if_pos rfl]
  · exact setEntry_entry_self h _

theorem correctStore_entry_bind (s : State) (i : Nat) : (correctStore s).entry i = (s.entry i).bind correctedEntry := by
  rw [correctStore_entry]
  exact foldl_listUsed_entry correctEntry_entry_ne (fun _ _ => correctEntry_entry_self) s i

/-- No entry without keys of its own refers to key slot `k`. -/
def KeySpared (k : Nat) (s : State) : Prop :=
  ∀ i e r, s.entry i = some e → e.holdsKeys = false → r ∈ e.refs → r.slot ≠ k

theorem correctEntry_keySpared {k : Nat} {t : State} {p : Nat × ParcelEntry} (h : t.entry p.1 = some p.2)
    (hk : KeySpared k t) : KeySpared k (correctEntry t p) := by
  intro i e r he hkeys hr
  by_cases hi : p.1 = i
  · subst hi
    rw [correctEntry_entry_self h, correctedEntry, Option.ite_none_left_eq_some] at he
    obtain ⟨-, he⟩ := he
    obtain rfl := Option.some.inj he
    exact hk p.1 p.2 r h hkeys hr
  · rw [correctEntry_entry_ne _ _ _ hi] at he
    exact hk i e r he hkeys hr

/-- An entry that the correction frees holds no keys, so that the key slots of every other stay (02 R22). -/
theorem correctEntry_key {k : Nat} {t : State} {p : Nat × ParcelEntry} (h : t.entry p.1 = some p.2)
    (hk : KeySpared k t) : slotGet (correctEntry t p).store.keys k = slotGet t.store.keys k := by
  rw [correctEntry_eq h]
  split
  · rename_i hleaves
    have hkeys : p.2.holdsKeys = false := by
      rcases hleaves with hstate | ⟨hstate, -⟩
      · rw [ParcelEntry.holdsKeys, hstate]; rfl
      · rw [ParcelEntry.holdsKeys, hstate]; rfl
    rw [freeEntry_keys (setEntry_entry_self h _)]
    exact slotGet_eraseKeys_of_forall_ne (fun r hr => hk p.1 p.2 r h hkeys hr) _
  · rfl

theorem correctStore_key {k : Nat} {s : State} (hk : KeySpared k s) :
    slotGet (correctStore s).store.keys k = slotGet s.store.keys k :=
  (foldl_listUsed_chain
    (R := fun s t => KeySpared k s → KeySpared k t ∧ slotGet t.store.keys k = slotGet s.store.keys k)
    correctEntry_entry_ne (fun _ hs => ⟨hs, rfl⟩)
    (fun hst htu hs => ⟨(htu (hst hs).1).1, (htu (hst hs).1).2.trans (hst hs).2⟩)
    (fun _ _ h ht => ⟨correctEntry_keySpared h ht, correctEntry_key h ht⟩) s hk).2

theorem freeAtZero_attention (i : Nat) (s : State) : (freeAtZero i s).attention = s.attention := by
  unfold freeAtZero
  split
  · rfl
  · split
    · exact freeEntry_attention ..
    · rfl

/-- Every entry's tokens stand at OPEN_BURST, its mark idle (04 R63). -/
def tokensRefilled (k : StationTable) : StationTable :=
  { k with entries := k.entries.map fun o => o.map fun e => { e with tokens := k.settings.openBurst, mark := none } }

/-- The store with each entry corrected, the stations' tokens not yet refilled. -/
def entriesCorrected (s : State) : State := (listUsed s.store.table).foldl correctEntry s

theorem correctStore_eq (s : State) :
    correctStore s = { entriesCorrected s with stations := tokensRefilled (entriesCorrected s).stations } := rfl

/-- The correction of the entries touches parcels, keys and deadlines. -/
theorem entriesCorrected_frame (s : State) : entriesCorrected s = { s with
    store := { s.store with table := (entriesCorrected s).store.table, keys := (entriesCorrected s).store.keys }
    deadlines := (entriesCorrected s).deadlines } := by
  have hparcels : OnlyParcels s (entriesCorrected s) :=
    foldl_chain .refl .trans (fun _ _ => (setEntry_only ..).trans (freeAtZero_only ..)) _ s
  have hattention : (entriesCorrected s).attention = s.attention :=
    foldl_chain (R := fun s t => t.attention = s.attention) (f := correctEntry) (fun _ => rfl) (fun h k => k.trans h)
      (fun _ _ => freeAtZero_attention ..) _ s
  rw [OnlyParcels, hattention] at hparcels
  exact hparcels

theorem soundChecked_eq (s : State) : setPhase .engineTest (correctStore s) = { s with
    store := { s.store with table := (correctStore s).store.table, keys := (correctStore s).store.keys }
    deadlines := (correctStore s).deadlines
    stations := tokensRefilled s.stations
    control := { s.control with phase := .engineTest } } := by
  have hframe := entriesCorrected_frame s
  rw [correctStore_eq]
  generalize entriesCorrected s = t at hframe ⊢
  rw [hframe]
  rfl

theorem exec_retainedCheck_sound {s : State} (h : s.control.phase = .retainedCheck)
    (hvalid : s.control.storeValid = true) :
    exec (.retainedCheck false) s = .next (setPhase .engineTest (correctStore s)) := by
  show execRetainedCheck false s = _
  simp [execRetainedCheck, h, hvalid]

/-! ## A lost store (11 R171, 02 R32, 03 R49) -/

theorem exec_retainedCheck_lost {s : State} (h : s.control.phase = .retainedCheck) {damaged : Bool}
    (hlost : s.control.storeValid = false ∨ damaged = true) :
    exec (.retainedCheck damaged) s = .next (setPhase .engineTest (loseStore s)) := by
  have hunsound : ¬((s.control.storeValid && !damaged) = true) := by
    rcases hlost with hlost | hlost
    · simp [hlost]
    · simp [hlost]
  exact congrArg _ ((if_pos h).trans (congrArg _ (if_neg hunsound)))

/-- The lost store's values, TIME_LOST not yet raised. -/
def storeEmptied (s : State) : State :=
  { s with
    store := { s.store with
      table := s.store.table.map fun _ => none, keys := s.store.keys.map fun _ => none, ingestSeq := 0 }
    stations := { s.stations with
      entries := s.stations.entries.map fun _ => none, mode := .service, settings := s.fuses.held.defaults,
      mismatch := 0 }
    clock := { s.clock with
      timeState := .lost, floor := s.fuses.held.factoryFloor, boothTime := s.fuses.held.factoryFloor,
      trimBudget := fullBudget, trimYear := 0 }
    attention := takeAttentionDefaults s.attention
    control := { s.control with storeValid := true, beganBy := .backupLost } }

theorem loseStore_onlyNotices (s : State) : OnlyNotices (storeEmptied s) (loseStore s) := raiseLevel_frame ..

theorem loseStore_raises (s : State) : RaisesAmong [Src.timeLost, Src.fault] (storeEmptied s) (loseStore s) :=
  raiseLevel_raises (by simp) (fun _ => by simp) _

/-- Raising and clearing leave enable, mask and level of every source (10 R160). -/
theorem RaisesAmong.configuration {l : List Nat} {s t : State} (h : RaisesAmong l s t) :
    t.attention.sources.map (fun c => (c.enable, c.mask, c.level)) =
      s.attention.sources.map fun c => (c.enable, c.mask, c.level) := by
  refine List.ext_getElem (by simp only [List.length_map, h.length]) fun n hn hm => ?_
  rw [List.length_map] at hn hm
  have hflags := h.flags n
  simp only [State.source, List.getD_eq_getElem _ _ hn, List.getD_eq_getElem _ _ hm] at hflags
  rw [List.getElem_map, List.getElem_map, hflags]

theorem loseStore_configuration {s : State} (h : s.attention.sources.length = 24) :
    (loseStore s).attention.threshold = 2 ∧
    (loseStore s).attention.sources.map (fun c => (c.enable, c.mask, c.level)) =
      defaultLevels.map fun l => (true, false, l) :=
  ⟨(loseStore_raises s).threshold, (loseStore_raises s).configuration.trans (takeAttentionDefaults_configuration h)⟩

/-! ## CLOCK_CHECK (03 R40, R41) -/

/-- A level source follows its condition (10 R161). -/
theorem followLevel_source_self {n : Nat} {s : State} (h : n < s.attention.sources.length) (b : Bool) :
    ((followLevel n b s).source n).status = b := by
  cases b with
  | true => exact raiseLevel_source_self h
  | false => exact clearLevel_source_self n s

/-- The part with its first window judged, CLOCK_DRIFT not yet following it. -/
def windowJudged (dev : Nat) (s : State) : State :=
  { s with clock := { s.clock with driftRun := if badWindow dev s then 1 else 0, ticked := false } }

theorem exec_clockCheck {s : State} (h : s.control.phase = .clockCheck) (dev : Nat) :
    exec (.clockCheck dev) s = .next (setPhase (if rebuildRuns s then .rebuild else .finish)
      (followLevel Src.clockDrift (badWindow dev s) (windowJudged dev s))) := congrArg _ (if_pos h)

theorem windowJudged_eq (dev : Nat) (s : State) : windowJudged dev s = { s with
    clock := { s.clock with
      driftRun := if s.clock.ticked = false ∨ 200 < dev then 1 else 0, ticked := false } } := by
  rw [windowJudged, if_congr badWindow_iff rfl rfl]

theorem clockChecked_eq (dev : Nat) (s : State) :
    setPhase (if rebuildRuns s then .rebuild else .finish)
      (followLevel Src.clockDrift (badWindow dev s) (windowJudged dev s)) = { s with
        clock := { s.clock with
          driftRun := if s.clock.ticked = false ∨ 200 < dev then 1 else 0, ticked := false }
        control := { s.control with phase :=
          if s.clock.timeState = .running ∧ s.control.sealing = false then .rebuild else .finish }
        attention := (followLevel Src.clockDrift (badWindow dev s) (windowJudged dev s)).attention } := by
  have hnotices : OnlyNotices (windowJudged dev s)
      (followLevel Src.clockDrift (badWindow dev s) (windowJudged dev s)) := followLevel_frame ..
  rw [if_congr rebuildRuns_iff rfl rfl]
  generalize followLevel Src.clockDrift (badWindow dev s) (windowJudged dev s) = t at hnotices ⊢
  rw [hnotices, windowJudged_eq]
  rfl

/-! ## REBUILD (07 R121) -/

theorem exec_rebuild {s : State} (h : s.control.phase = .rebuild) : exec .rebuild s =
    .next { rebuildList s.clock.boothTime s with control := { s.control with phase := .finish } } := by
  show execRebuild s = _
  rw [execRebuild, if_pos h, setPhase, (rebuildList_work s.now s).control, State.now]

/-! ## O59 -/

/-- Settles O59: each phase acts by its own operation, whose effect is read off block by block. -/
theorem startUpPhases : Obligations.StartUpPhases := by
  intro s
  refine ⟨fun hp => ?_, fun hp => ⟨fun hvalid => ?_, fun damaged hlost => ?_⟩, fun hp dev => ?_, exec_rebuild⟩
  · refine ⟨_, exec_fuseLoad hp, fuseLoaded_eq s, readFuses_sealing s, ?_⟩
    simp only [setPhase_fuses, readFuses_held]
    refine ⟨rfl, rfl, rfl, rfl, rfl, rfl, fuseDefaults_fit _, fun n d h1 h11 h8 hd => ?_, rfl,
      fun row hrow => loadFuses_uncorrectable _ hrow,
      fun h24 => ⟨readFuses_corrected h24, readFuses_uncorrectable h24⟩⟩
    rw [loadFuses, fuseDefaults_get _ ⟨h1, h11⟩ h8]
    exact ⟨defaultOf_uncorrectable ⟨h1, h11⟩ hd, defaultOf_read hd⟩
  · refine ⟨_, exec_retainedCheck_sound hp hvalid, soundChecked_eq s, fun i e he => ?_, fun i he => ?_,
      fun k => correctStore_key⟩
    · exact (correctStore_entry_bind s i).trans (by rw [he]; rfl)
    · exact (correctStore_entry_bind s i).trans (by rw [he]; rfl)
  · have hlose := loseStore_onlyNotices s
    have hconfig := loseStore_configuration (s := s)
    refine ⟨_, exec_retainedCheck_lost hp hlost, ?_⟩
    generalize loseStore s = t at hlose hconfig ⊢
    refine ⟨?_, fun i => ?_, fun k => ?_, ?_, fun i => ?_, ?_, ?_, ?_, hconfig⟩
    · rw [hlose]; rfl
    · rw [hlose]; exact slotGet_map_none ..
    · rw [hlose]; exact slotGet_map_none ..
    · rw [hlose]; rfl
    · rw [hlose]; exact slotGet_map_none ..
    · rw [hlose]; rfl
    · rw [hlose]; rfl
    · rw [hlose]; rfl
  · refine ⟨_, exec_clockCheck hp dev, clockChecked_eq dev s, fun h24 => ?_⟩
    have hlt : Src.clockDrift < (windowJudged dev s).attention.sources.length := h24 ▸ by decide
    have hstatus := followLevel_source_self hlt (badWindow dev s)
    rw [← badWindow_iff]
    exact iff_of_eq (congrArg (· = true) hstatus)

end Sys2Proof.Machine
end

section
/-! PROOFS. The queue of waiting commands (O1, O2): which command a step runs. -/

namespace Sys2Proof.Machine

theorem step_of_empty {s : State} (h : s.pending = []) : step s = .next s := by
  rw [step, h]

theorem step_of_front {s : State} {c : Instr} {rest : List Instr} (h : s.pending = c :: rest) :
    step s = exec c { s with pending := rest } := by
  rw [step, h]

/-- Settles O1: the front of the queue is the command given, and what it leaves is the queue's rest. -/
theorem frontCommandRuns : Obligations.FrontCommandRuns := fun _ _ _ => step_of_front rfl

/-- Settles O2: `step` has its own case for an empty queue. -/
theorem emptyQueueIdles : Obligations.EmptyQueueIdles := fun _ => step_of_empty

end Sys2Proof.Machine
end

section
/-! PROOFS. The kind bytes of Table 12.2 (O4), and the addition allowed to an EXTEND (O21). -/

namespace Sys2Proof.Machine

/-! ## Kind bytes (12 Table 12.2) -/

/-- Every request kind stands in the table under a value that no kind before it has. -/
theorem kindOf_value (k : Kind) : kindOf k.value = some k := by
  cases k <;> decide

/-- A byte that is no request kind's value names none (09 R152). -/
theorem kindOf_eq_none {b : Byte} (h : ∀ k : Kind, k.value ≠ b) : kindOf b = none :=
  List.find?_eq_none.mpr fun k _ => by simpa using h k

theorem value_ge_status (k : Kind) : 0x10#8 ≤ k.value := by
  cases k <;> decide

/-- The kinds the part sends lie below every request kind's value. -/
theorem kindOf_sent {b : Byte} (h : b < 0x10#8) : kindOf b = none :=
  kindOf_eq_none fun k hk => absurd (hk ▸ value_ge_status k) (BitVec.not_le.mpr h)

/-- Settles O4: the table is read in both directions, and the values stand in it as written. -/
theorem kindValuesRead : Obligations.KindValuesRead := by
  refine ⟨kindOf_value, fun b k h => (value_of_kindOf h).symm, kindOf_sent (by decide), kindOf_sent (by decide),
    kindOf_sent (by decide), kindOf_sent (by decide), ?_⟩
  decide

/-! ## The addition allowed to an EXTEND (04 R61) -/

/-- The range limit takes the requested addition into 1 to 3600. -/
def rangeLimited (requested : Nat) : Nat := max 1 (min 3600 requested)

/-- The grant limit follows the range limit. -/
theorem allowedAddition_eq (requested used : Nat) :
    allowedAddition requested used = min (rangeLimited requested) (7200 - used) := rfl

theorem rangeLimited_of_zero : rangeLimited 0 = 1 := rfl

theorem rangeLimited_of_gt {n : Nat} (h : 3600 < n) : rangeLimited n = 3600 := by unfold rangeLimited; omega

theorem rangeLimited_of_mem {n : Nat} (h1 : 1 ≤ n) (h2 : n ≤ 3600) : rangeLimited n = n := by unfold rangeLimited; omega

/-- Settles O21: the grant limit of 7200 on the addition the range limit leaves. -/
theorem extensionAllowance : Obligations.ExtensionAllowance := by
  intro requested used hused
  simp only [allowedAddition_eq]
  refine ⟨fun h => ?_, fun h => ?_, fun h1 h2 => ?_, fun h => ?_, ?_⟩
  · rw [h, rangeLimited_of_zero]
  · rw [rangeLimited_of_gt h]
  · rw [rangeLimited_of_mem h1 h2]
  · rw [h, Nat.sub_self, Nat.min_zero]
  · have hlimit : min (rangeLimited requested) (7200 - used) ≤ 7200 - used := min_le_right ..
    omega

end Sys2Proof.Machine
end

section
/-! PROOFS. The work behind the commands leaves the queue of waiting commands (O3): one equation for each operation. -/

namespace Sys2Proof.Machine

/-- A command whose condition does not hold changes nothing (log 5). -/
theorem pending_ite {s t : State} {c : Prop} [Decidable c] (h : t.pending = s.pending) :
    (if c then t else s).pending = s.pending := by
  split
  · exact h
  · rfl

/-! ## Requests -/

/-- No request touches the queue. -/
theorem takeRequest_pending (k : Kind) (src : Addr) (tag : Byte) (body : List Byte) (s : State) :
    (takeRequest k src tag body (ownerOf k) s).pending = s.pending :=
  pending_ite (settle_framesStay (ownerOf_framesStay k) _ s).pending

theorem ownUnknownKind_framesStay : OwnerLeavesFrames ownUnknownKind := fun _ _ _ => ⟨rfl, rfl, rfl⟩

theorem takeFrame_pending (f : Frame) (s : State) : (takeFrame f s).pending = s.pending :=
  (settle_framesStay (ownerOfFrame_framesStay f) f _).pending.trans (occupancyFell_framesStay _).pending

/-! ## The Link Port -/

theorem occupancyRose_pending (s : State) : (occupancyRose s).pending = s.pending := by rw [occupancyRose_frame]

theorem occupancyFell_pending (s : State) : (occupancyFell s).pending = s.pending := by rw [occupancyFell_frame]

theorem judgeHeader_pending (dst src : Addr) (s : State) : (judgeHeader dst src s).pending = s.pending := by
  unfold judgeHeader
  split_ifs
  · rfl
  · rfl
  · rfl
  · exact occupancyRose_pending _

theorem endFrame_pending (h : Header) (rest : List Byte) (s : State) : (endFrame h rest s).pending = s.pending := by
  unfold endFrame
  dsimp only
  split
  · rfl
  · exact occupancyFell_pending _

theorem freeGrant_pending (g : Nat) (s : State) : (freeGrant g s).pending = s.pending := by rw [freeGrant_only g s]

theorem sendExpireFor_pending (g : Nat) (s : State) : (sendExpireFor g s).pending = s.pending := by
  unfold sendExpireFor
  split
  · exact freeGrant_pending ..
  · rfl

theorem beginStartUp_pending (cause : StartCause) (s : State) : (beginStartUp cause s).pending = s.pending := rfl

theorem haltPart_pending (s : State) : (haltPart s).pending = s.pending := rfl

theorem finishSending_pending (f : TxFrame) (s : State) : (finishSending f s).pending = s.pending := by
  unfold finishSending
  dsimp only
  split
  · exact beginStartUp_pending ..
  · rfl

/-! ## Time -/

theorem countTrimYear_pending (s : State) : (countTrimYear s).pending = s.pending := by
  unfold countTrimYear
  split
  · exact wrapTrimYear_pending s
  · rfl

theorem tickBooth_pending (s : State) : (tickBooth s).pending = s.pending := by
  have hadvanced : (advanceBooth s).pending = s.pending := by rw [advanceBooth_eq]
  refine pending_ite ?_
  dsimp only
  split
  · exact (runDeadlines_work ..).pending.trans hadvanced
  · exact hadvanced

theorem timeOutOpens_pending (s : State) : (timeOutOpens s).pending = s.pending := by rw [timeOutOpens_frame]

theorem examineTestInterval_pending (s : State) : (examineTestInterval s).pending = s.pending := by
  rw [examineTestInterval_eq]

theorem loseTime_pending (s : State) : (loseTime s).pending = s.pending := by
  rw [loseTime, raiseLevel_pending]
  exact (forceExpiry_work ..).pending

theorem reachDriftLimit_pending (s : State) : (reachDriftLimit s).pending = s.pending := by
  unfold reachDriftLimit
  dsimp only
  split
  · exact loseTime_pending _
  · rfl

theorem measure_pending (deviation : Nat) (s : State) : (measure deviation s).pending = s.pending := by
  rcases measure_cases deviation s with ⟨-, -, he⟩ | ⟨-, -, he⟩ | ⟨-, -, he⟩ <;> rw [he]
  · rfl
  · exact raiseLevel_pending ..
  · exact reachDriftLimit_pending _

/-! ## The engine -/

theorem countPassOver_pending (s : State) : (countPassOver s).pending = s.pending := pending_ite rfl

theorem selectOpen_pending (i : Nat) (w : OpenReq) (s : State) : (selectOpen i w s).1.pending = s.pending := by
  unfold selectOpen
  split
  · rfl
  · split
    · exact (countUp_only ..).deadlineWork.pending
    · rfl

theorem arbitrate_pending (fuel : Nat) (s : State) : (arbitrate fuel s).pending = s.pending := by
  induction fuel generalizing s with
  | zero => rfl
  | succ fuel ih =>
    unfold arbitrate
    split
    · rfl
    · rfl
    · rfl
    · rename_i i w _
      have hselected := (selectOpen_pending i w _).trans (countPassOver_pending s)
      dsimp only
      split
      · exact hselected
      · exact (ih _).trans hselected

theorem enterFault_pending (s : State) : (enterFault s).pending = s.pending := raiseLevel_pending ..

theorem completeKat_pending (pass : Bool) (s : State) : (completeKat pass s).pending = s.pending := by
  unfold completeKat
  split
  · cases pass with
    | true => dsimp only; split <;> rfl
    | false => dsimp only; split <;> exact enterFault_pending (endKat s)
  · rfl

theorem completeVerify_pending (s : State) : (completeVerify s).pending = s.pending := by
  unfold completeVerify
  split <;> rfl

theorem completeRewrap_pending (s : State) : (completeRewrap s).pending = s.pending := by
  unfold completeRewrap
  split <;> rfl

/-! ## Postings -/

theorem storeParcel_pending (p : Parcel) (ks : List Key) (s : State) : (storeParcel p ks s).1.pending = s.pending := by
  have hroom : (makeRoom s).pending = s.pending := (makeRoom_only s).deadlineWork.pending
  unfold storeParcel
  dsimp only
  split
  · exact hroom
  · split
    · exact hroom
    · rw [commitParcel_eq]
      exact hroom

theorem settleVerify_pending (p : StagingPlace) (outcome : Option (List Key)) (s : State) :
    (settleVerify p outcome s).1.pending = s.pending := by
  unfold settleVerify
  split
  · rfl
  · split_ifs
    · rfl
    · rfl
    · rfl
    · exact storeParcel_pending ..

theorem postVerify_pending (s : State) : (postVerify s).pending = s.pending := by
  unfold postVerify
  split
  · exact settleVerify_pending ..
  · rfl

theorem postRewrap_pending (s : State) : (postRewrap s).pending = s.pending := by
  unfold postRewrap
  split
  · dsimp only
    split
    · split
      · split
        · split
          · exact freeGrant_pending ..
          · rfl
        · rfl
      · rfl
    · rfl
  · rfl

theorem postSelfTest_pending (s : State) : (postSelfTest s).pending = s.pending := by
  unfold postSelfTest
  split <;> rfl

theorem answerOpenDue_pending (s : State) : (answerOpenDue s).pending = s.pending := by
  unfold answerOpenDue
  split <;> rfl

theorem answerStaging_pending (s : State) : (answerStaging s).pending = s.pending := by
  unfold answerStaging
  split
  · rfl
  · dsimp only
    split <;> rfl

/-! ## Start-up -/

theorem readFuses_pending (s : State) : (readFuses s).pending = s.pending :=
  (readFuses_onlyNotices s).deadlineWork.pending

theorem correctStore_pending (s : State) : (correctStore s).pending = s.pending :=
  (foldl_work _ (fun _ _ => ((setEntry_only ..).trans (freeAtZero_only ..)).deadlineWork) _ s).pending

theorem loseStore_pending (s : State) : (loseStore s).pending = s.pending :=
  (loseStore_onlyNotices s).deadlineWork.pending

theorem followLevel_pending (n : Nat) (c : Bool) (s : State) : (followLevel n c s).pending = s.pending := by
  rw [followLevel_frame]

theorem endStartUp_pending (s : State) : (endStartUp s).pending = s.pending := (endStartUp_work s).pending

end Sys2Proof.Machine
end

section
/-! PROOFS. Every command runs and leaves the queue of waiting commands: O3. -/

namespace Sys2Proof.Machine

/-! ## Commands whose effect depends on what they find -/

theorem execFrameEnd_pending (rest : List Byte) (s : State) :
    ∃ t, execFrameEnd rest s = .next t ∧ t.pending = s.pending := by
  refine ⟨_, rfl, ?_⟩
  split
  · exact pending_ite (endFrame_pending ..)
  · rfl

theorem execHoldRepeatTimer_pending (s : State) : ∃ t, execHoldRepeatTimer s = .next t ∧ t.pending = s.pending := by
  refine ⟨_, rfl, pending_ite ?_⟩
  split
  · exact armHold_pending s
  · rfl

theorem execFrameTake_pending (s : State) : ∃ t, execFrameTake s = .next t ∧ t.pending = s.pending := by
  refine ⟨_, rfl, ?_⟩
  split
  · exact pending_ite (takeFrame_pending ..)
  · rfl

theorem execUnknownKind_pending (src : Addr) (tag kind : Byte) (body : List Byte) (s : State) :
    ∃ t, execUnknownKind src tag kind body s = .next t ∧ t.pending = s.pending :=
  ⟨_, rfl, pending_ite (settle_framesStay ownUnknownKind_framesStay _ s).pending⟩

theorem execSendExpire_pending (s : State) : ∃ t, execSendExpire s = .next t ∧ t.pending = s.pending := by
  refine ⟨_, rfl, ?_⟩
  split
  · exact pending_ite (sendExpireFor_pending ..)
  · rfl

theorem execTransmitFrameEnd_pending (s : State) : ∃ t, execTransmitFrameEnd s = .next t ∧ t.pending = s.pending := by
  refine ⟨_, rfl, ?_⟩
  split
  · exact pending_ite (finishSending_pending ..)
  · rfl

theorem execCrystalSecond_pending (s : State) : ∃ t, execCrystalSecond s = .next t ∧ t.pending = s.pending := by
  refine ⟨_, rfl, ?_⟩
  split
  · exact (tickBooth_pending _).trans (countTrimYear_pending _)
  · exact noteTick_pending s

theorem execMainClockSecond_pending (deviation : Nat) (s : State) :
    ∃ t, execMainClockSecond deviation s = .next t ∧ t.pending = s.pending :=
  ⟨_, rfl, pending_ite ((measure_pending ..).trans
    ((examineTestInterval_pending _).trans (timeOutOpens_pending _)))⟩

theorem execPowerOn_pending (s : State) : ∃ t, execPowerOn s = .next t ∧ t.pending = s.pending := by
  refine ⟨_, rfl, ?_⟩
  split
  · rfl
  · dsimp only
    split
    · exact haltPart_pending _
    · exact beginStartUp_pending ..

theorem execResetLineAssert_pending (s : State) : ∃ t, execResetLineAssert s = .next t ∧ t.pending = s.pending := by
  refine ⟨_, rfl, ?_⟩
  split
  · rfl
  · exact pending_ite (haltPart_pending _)

theorem execResetLineRelease_pending (s : State) : ∃ t, execResetLineRelease s = .next t ∧ t.pending = s.pending :=
  ⟨_, rfl, pending_ite (pending_ite (beginStartUp_pending ..))⟩

theorem execRetainedCheck_pending (damaged : Bool) (s : State) :
    ∃ t, execRetainedCheck damaged s = .next t ∧ t.pending = s.pending := by
  refine ⟨_, rfl, pending_ite ?_⟩
  rw [setPhase_pending]
  split
  · exact correctStore_pending s
  · exact loseStore_pending s

theorem execRetainedLoss_pending (s : State) : ∃ t, execRetainedLoss s = .next t ∧ t.pending = s.pending := by
  refine ⟨_, rfl, ?_⟩
  split <;> rfl

/-! ## Every command -/

/-- Settles O3: every command's arm answers the next state by its operation, and no operation writes the queue. -/
theorem everyCommandRunsAndKeepsTheQueue : Obligations.EveryCommandRunsAndKeepsTheQueue := by
  intro c s
  cases c with
  | status | parcelLoad | parcelWithdraw | parcelList | openKeys | close | extend | grantList | timeTrim | timeSet
  | stationEnrol | stationRetire | stationSuspend | stationResume | stationRank | stationList | modeKey | modeChange
  | settingWrite | settingRead | zeroize | noticeRead | noticeConfig | selfTest | restart =>
    exact ⟨_, rfl, takeRequest_pending ..⟩
  | unknownKind src tag kind body => exact execUnknownKind_pending src tag kind body s
  | frameTake => exact execFrameTake_pending s
  | frameHeader dst src => exact ⟨_, rfl, pending_ite (judgeHeader_pending dst src s)⟩
  | frameEnd rest => exact execFrameEnd_pending rest s
  | holdRepeatTimer => exact execHoldRepeatTimer_pending s
  | crystalSecond => exact execCrystalSecond_pending s
  | trimYearWrap => exact ⟨_, rfl, pending_ite (wrapTrimYear_pending s)⟩
  | mainClockSecond deviation => exact execMainClockSecond_pending deviation s
  | driftRunLimit => exact ⟨_, rfl, pending_ite (reachDriftLimit_pending (openWindow s))⟩
  | openWaitTimeout => exact ⟨_, rfl, pending_ite (timeOutOpens_pending s)⟩
  | periodicTestDue => exact ⟨_, rfl, pending_ite (examineTestInterval_pending s)⟩
  | engineArbiterChoice => exact ⟨_, rfl, arbitrate_pending _ s⟩
  | katComplete pass => exact ⟨_, rfl, completeKat_pending pass s⟩
  | verifyComplete done => exact ⟨_, rfl, completeVerify_pending s⟩
  | rewrapComplete => exact ⟨_, rfl, completeRewrap_pending s⟩
  | verifyPosting => exact ⟨_, rfl, pending_ite (postVerify_pending s)⟩
  | rewrapPosting => exact ⟨_, rfl, pending_ite (postRewrap_pending s)⟩
  | selfTestPosting => exact ⟨_, rfl, pending_ite (postSelfTest_pending s)⟩
  | openAnswerDue => exact ⟨_, rfl, pending_ite (answerOpenDue_pending s)⟩
  | stagingAnswerDue => exact ⟨_, rfl, pending_ite (answerStaging_pending s)⟩
  | sendHold | sendAnswer | sendNotice =>
    refine ⟨_, rfl, ?_⟩
    split
    · exact pending_ite rfl
    · rfl
  | sendExpire => exact execSendExpire_pending s
  | transmitFrameEnd => exact execTransmitFrameEnd_pending s
  | linkDown | linkUp => exact ⟨_, rfl, rfl⟩
  | powerOn => exact execPowerOn_pending s
  | powerLoss => exact ⟨_, rfl, pending_ite (haltPart_pending _)⟩
  | resetLineAssert => exact execResetLineAssert_pending s
  | resetLineRelease => exact execResetLineRelease_pending s
  | retainedLoss => exact execRetainedLoss_pending s
  | startUpBegin => exact ⟨_, rfl, pending_ite ((setPhase_pending ..).trans (beginStartUp_pending _ s))⟩
  | fuseLoad => exact ⟨_, rfl, pending_ite ((setPhase_pending ..).trans (readFuses_pending s))⟩
  | retainedCheck damaged => exact execRetainedCheck_pending damaged s
  | clockCheck deviation => exact ⟨_, rfl, pending_ite ((setPhase_pending ..).trans (followLevel_pending ..))⟩
  | rebuild => exact ⟨_, rfl, pending_ite ((setPhase_pending ..).trans (rebuildList_work s.now s).pending)⟩
  | startUpEnd => exact ⟨_, rfl, pending_ite (endStartUp_pending s)⟩

end Sys2Proof.Machine
end
